-- ==== Sys2Proof/Word.lean ====
section
/-! DEFINITION. The word types of the QX4: bytes, 32-bit lanes, 64-bit scalar registers. -/
namespace Sys2Proof

/-- One byte (R6: byte offset 0 of a format is the first byte). -/
abbrev Byte := BitVec 8
/-- One 32-bit vector lane or status word. -/
abbrev W32 := BitVec 32
/-- One 64-bit scalar register or instruction word. -/
abbrev W64 := BitVec 64

end Sys2Proof
end

