-- ==== Sys2Proof/Types.lean ====
section
/-! DEFINITION. The types of the commands' operands: endpoints, dictionary requests, packets and messages of the
device's networks and links. -/
namespace Sys2Proof

/-- A transport endpoint of the dictionary (R50); a PF mailbox is a slot of its own (R72). -/
inductive Endpoint
  | pf (mailbox : Nat)
  | vf (fn : Nat)
  | t1s
  | i3c
  | carrak (device : Nat)
  | cc
  deriving DecidableEq, Repr

/-- A dictionary request whose header is well formed (R64), less its opcode. -/
structure Req where
  session : Nat
  tag : Nat
  index : Nat
  sub : Nat
  whole : Bool := false
  last : Bool := false
  desc : Bool := false
  payload : List Byte := []
  deriving DecidableEq, Repr

/-- A 10BASE-T1S frame with valid FCS (R73). -/
structure T1sFrame where
  dst : Nat
  src : Nat
  etherType : Nat
  protoId : Nat
  reserved : Nat
  body : List Byte
  deriving DecidableEq, Repr

/-- Whether a stored item was read back clean, with a single-bit or with a double-bit error (R158, R200, R240, R294). -/
inductive Ecc | clean | single | double
  deriving DecidableEq, Repr

/-- What happened to a packet's flits on the way (R216). -/
inductive Damage | none | data | header
  deriving DecidableEq, Repr

/-- The tile-memory masters (R150). -/
inductive Master | tuA | tuB | lsu | drain | dma
  deriving DecidableEq, Repr

/-- A port of a Lath router (R189). -/
inductive LathPort | n | s | e | w | inj | core
  deriving DecidableEq, Repr

/-- An agent of the coherent layer: a slice, a control core's L2, the host, site P, a core, a DMA engine, a Plumb
array or another device (R243). -/
inductive Agent
  | slice (k : Nat)
  | cc (c : Nat)
  | host
  | siteP
  | core (c : Nat)
  | dma (n : Nat)
  | plumb (n : Nat)
  | device (d : Nat)
  deriving DecidableEq, Repr

/-- A Scrim packet: its header (R206), replication list and data. -/
structure ScrimPkt where
  vc : Nat
  set : Nat
  opcode : Nat
  dest : Nat
  src : Nat
  txn : Nat
  address : Nat
  data : List Byte
  /-- Replication list: (DEST, TXN_ID); empty without REPL. -/
  list : List (Nat × Nat)
  ctx : Nat
  part : Nat
  qos : Nat
  poison : Bool
  bcast : Bool
  epoch : Nat
  sectors : BitVec 16
  deriving DecidableEq, Repr

/-- A read or write request at a UC slice (R227, R231, R233). `write` holds 64 byte enables with the bytes. -/
structure UcReq where
  /-- Who is answered. -/
  src : Agent
  txn : Nat
  /-- Global address of the sector. -/
  addr : Nat
  near : Bool
  hint : Nat
  scratch : Bool
  bwClass : Nat
  ctx : Nat
  part : Nat
  write : Option (List (Bool × Byte))
  poison : Bool
  deriving DecidableEq, Repr

/-- The opcodes of Bezel (R253). -/
inductive BOp
  | getS | getM | putS | putE | atom | readOnce | writeOnce
  | fwdGetS | fwdGetM | fwdGetMAp | inv | recallS | recallI
  | gntM | gntAcks | invAck | fwdDoneO | fwdDoneS | fwdDoneI | fwdMiss | rspWbpend | wbAck | comp | homeLost | remoteLost
  | compAck
  | dataS | dataE | dataM | dataMAp | rspData | putM | putO | dataOnce | atomData
  deriving DecidableEq, Repr

/-- A Bezel message less its opcode (R252). In a forward, `src` is the requester the owner answers. `spoison` marks
the poisoned sectors that the POISON flag stands for (R562). -/
structure BMsg where
  dst : Agent
  src : Agent
  txn : Nat
  addr : Nat
  near : Bool
  ctx : Nat
  epoch : Nat
  sectors : BitVec 16
  spoison : BitVec 16
  data : List Byte
  deriving DecidableEq, Repr

/-- One 32-byte unit slot of a Helda flit (R309 to R311): VALID, START, CLASS and the bytes. -/
structure HeldaUnit where
  valid : Bool
  start : Bool
  cls : Nat
  bytes : List Byte
  deriving DecidableEq, Repr

/-- A Helda flit: seven units and the two credit returns of its header (R310). -/
structure HeldaFlitData where
  units : List HeldaUnit
  cr0Class : Nat
  cr0Count : Nat
  cr1Class : Nat
  cr1Count : Nat
  /-- The Reserved header bits are zero. -/
  reservedZero : Bool
  deriving DecidableEq, Repr

/-- The body of a CAP message with its SRC_AGENT (R317, R319). -/
structure Cap where
  srcAgent : Nat
  verMajor : Nat
  verMinor : Nat
  classes : Nat
  coherence : Nat
  power : Nat
  vendor : Nat
  product : Nat
  stepping : Nat
  features : Nat
  safePowerMw : Nat
  maxPowerMw : Nat
  /-- CREDITS, class 0 first. -/
  credits : List Nat
  deriving DecidableEq, Repr

/-- The body of CAP_COMMIT (R318). -/
structure CapCommit where
  verMinor : Nat
  classes : Nat
  coherence : Nat
  power : Nat
  deriving DecidableEq, Repr

/-- The body of DEMAND (R328). -/
structure DemandBody where
  seq : Nat
  demandMw : Nat
  avgMw : Nat
  temp : Int
  tempValid : Bool
  deriving DecidableEq, Repr

/-- A data or idle flit of Carrak Link as received (R345): header fields, payload, and whether its CRC holds. -/
structure LinkFlit where
  seq : Nat
  ack : Nat
  ftype : Nat
  crBuf : Nat
  crCount : Nat
  crcOk : Bool
  payload : List Byte
  deriving DecidableEq, Repr

/-- A HELLO control flit (R346). -/
structure HelloFlit where
  version : Nat
  port : Nat
  idState : Nat
  deviceId : Nat
  dimRank : Nat
  dateline : Bool
  echoValid : Bool
  serial : Nat
  peerSerial : Nat
  /-- CREDITS, VC 0 set 0 first. -/
  credits : List Nat
  deriving DecidableEq, Repr

/-- One ENTRY of an LSA (R362). -/
structure LsaEntry where
  peerSerial : Nat
  port : Nat
  peerPort : Nat
  dimRank : Nat
  dateline : Bool
  half : Bool
  deriving DecidableEq, Repr

/-- An LSA body (R362). -/
structure LsaBody where
  serial : Nat
  seq : Nat
  deviceId : Nat
  idState : Nat
  admin : Bool
  entries : List LsaEntry
  deriving DecidableEq, Repr

/-- A function of the device: the PF, or VF n (R377). -/
inductive Fn | pf | vf (n : Nat)
  deriving DecidableEq, Repr

/-- The kind of access a translation is for (R179, R183). -/
inductive Access | load | store | atomic | fetch
  deriving DecidableEq, Repr

/-- The fields of RING_SETUP's enable (R389). -/
structure RingArgs where
  ctx : Nat
  fn : Fn
  cmdBase : Nat
  cmdLog2 : Nat
  cplBase : Nat
  cplLog2 : Nat
  vector : Nat
  coalesceNs : Nat
  deriving DecidableEq, Repr

/-- The fields of a Craze run (R373). -/
structure CrazeArgs where
  helda : Bool
  index : Nat
  dir : Nat
  kinds : Nat
  rateLog2 : Nat
  seed : Nat
  durationMs : Nat
  deriving DecidableEq, Repr

/-- The three kinds of sensor (R490). -/
inductive SensorKind | thermal | voltage | current
  deriving DecidableEq, Repr

/-- A clock island whose PLL can lose lock (R545, R547). -/
inductive Island
  | core (c : Nat)
  | lath (n : Nat)
  | scrim (n : Nat)
  | uc (n : Nat)
  | hbm (s : Nat)
  | cc (c : Nat)
  | iod
  | pcie
  | carrak (port : Nat)
  | helda (link : Nat)
  deriving DecidableEq, Repr

/-- The common commands of the I3C controller that change the target (R74). -/
inductive I3cCcc | assignAddress (a : Nat) | resetAddress | enableIbi | disableIbi
  deriving DecidableEq, Repr

/-- A CXL.cache response of the host (R402): the state granted, or the end of an eviction. -/
inductive CxlRsp | goE | goS | goM | goI | evicted
  deriving DecidableEq, Repr

end Sys2Proof
end

