-- ==== Sys2Proof/Syntax.lean ====
section
/-! DEFINITION. The commands of the QX4: one constructor per row of the operation table. -/
namespace Sys2Proof

/-- A command or event of the device. Each constructor is a row of spec/opcode_table.json; the rule named is the row's. -/
inductive Instr
  /-- OPEN (R48): A dictionary OPEN request creates a basic-level session and returns its new session ID. -/
  | openSession (ep : Endpoint) (r : Req)
  /-- CLOSE (R51): A dictionary CLOSE request ends the session. -/
  | close (ep : Endpoint) (r : Req)
  /-- READ (R62): A dictionary READ returns an object's value, a whole object, or its description record with DESC. -/
  | read (ep : Endpoint) (r : Req)
  /-- WRITE (R57): A dictionary WRITE clamps and applies fields all or nothing; it is also the write of every register without a row of its own. -/
  | write (ep : Endpoint) (r : Req)
  /-- READ_SEG (R69): A segmented read returns BLOB bytes from OFFSET onward. -/
  | readSeg (ep : Endpoint) (r : Req)
  /-- WRITE_SEG (R69): A segmented write stages BLOB data and commits the whole BLOB on LAST. -/
  | writeSeg (ep : Endpoint) (r : Req)
  /-- POLL (R70): POLL returns IN_PROGRESS or the stored final response of the named command. -/
  | poll (ep : Endpoint) (r : Req)
  /-- ENUMERATE (R71): ENUMERATE returns the next index above INDEX that the session can reach. -/
  | enumerate (ep : Endpoint) (r : Req)
  /-- COMMAND_FINISH (R70): A command that answered IN_PROGRESS finishes, and its final response is stored for its tag. -/
  | commandFinish (sid : Nat)
  /-- SESSION_IDLE_TIMEOUT (R51): A session with no request for IDLE_TIMEOUT_S ends. -/
  | sessionIdleTimeout (sid : Nat)
  /-- SEG_STAGE_EXPIRY (R69): Staged segment data with no segment for 10 s is discarded. -/
  | segStageExpiry (sid : Nat)
  /-- NONCE_EXPIRY (R53): An expert or provisioning nonce reaches 60 s and can no longer be used. -/
  | nonceExpiry (who : Option Nat)
  /-- AUTH_LOCKOUT_END (R53): An endpoint's 10 s EXPERT_AUTH lockout expires. -/
  | authLockoutEnd (ep : Endpoint)
  /-- MBX_DOORBELL (R72): A write to a PCIe mailbox doorbell submits the request in the mailbox. -/
  | mbxDoorbell (ep : Endpoint) (answered : Bool)
  /-- CC_MAILBOX_DOORBELL (R62): A control core rings the internal dictionary mailbox doorbell to submit a request. -/
  | ccMailboxDoorbell (bytes : List Byte)
  /-- T1S_FRAME (R73): A 10BASE-T1S frame with valid FCS arrives and its dictionary message is accepted or ignored. -/
  | t1sFrame (f : T1sFrame)
  /-- I3C_PRIVATE_WRITE (R74): An I3C private write delivers one dictionary request. -/
  | i3cPrivateWrite (bytes : List Byte)
  /-- I3C_PRIVATE_READ (R74): An I3C private read returns a ready response or is NACKed. -/
  | i3cPrivateRead
  /-- DICT (R75): A Carrak Link DICT message delivers a dictionary message to or from a remote device. -/
  | dict (outgoing : Bool) (device : Nat) (bytes : List Byte)
  /-- EXPERT_NONCE (R53): Reading EXPERT_NONCE yields a fresh 32-byte nonce bound to the session. -/
  | expertNonce (sid : Nat)
  /-- EXPERT_AUTH (R53): A signed EXPERT_AUTH write raises the session to expert level or counts a failure. -/
  | expertAuth (sid : Nat) (sig : List Byte)
  /-- EXPERT_LOCK (R53): Writing 1 to EXPERT_LOCK returns the session to basic level. -/
  | expertLock (sid : Nat) (value : Nat)
  /-- FREQ_FINE_STEP (R113): Clearing FREQ_FINE_STEP rounds every section clock request down to the 25 MHz grid. -/
  | freqFineStep (value : Nat)
  /-- ADD_S (R119): Scalar add. -/
  | addS (core : Nat) (slot : Nat) (w : W64)
  /-- SUB_S (R119): Scalar subtract. -/
  | subS (core : Nat) (slot : Nat) (w : W64)
  /-- AND_S (R119): Scalar bitwise AND. -/
  | andS (core : Nat) (slot : Nat) (w : W64)
  /-- OR_S (R119): Scalar bitwise OR. -/
  | orS (core : Nat) (slot : Nat) (w : W64)
  /-- XOR_S (R119): Scalar bitwise XOR. -/
  | xorS (core : Nat) (slot : Nat) (w : W64)
  /-- SHL_S (R119): Scalar shift left. -/
  | shlS (core : Nat) (slot : Nat) (w : W64)
  /-- SHR_S (R119): Scalar logical shift right. -/
  | shrS (core : Nat) (slot : Nat) (w : W64)
  /-- SRA_S (R119): Scalar arithmetic shift right. -/
  | sraS (core : Nat) (slot : Nat) (w : W64)
  /-- MUL_S (R119): Scalar multiply, low 64 bits. -/
  | mulS (core : Nat) (slot : Nat) (w : W64)
  /-- CMP_S (R119): Scalar compare writing 1 or 0. -/
  | cmpS (core : Nat) (slot : Nat) (w : W64)
  /-- ADDI_S (R119): Scalar add immediate. -/
  | addiS (core : Nat) (slot : Nat) (w : W64)
  /-- LI_S (R119): Scalar load immediate, low or high half. -/
  | liS (core : Nat) (slot : Nat) (w : W64)
  /-- FMA_F32 (R119): Vector fused multiply-add with one rounding. -/
  | fmaF32 (core : Nat) (slot : Nat) (w : W64)
  /-- ADD_F32 (R119): Vector FP32 add. -/
  | addF32 (core : Nat) (slot : Nat) (w : W64)
  /-- SUB_F32 (R119): Vector FP32 subtract. -/
  | subF32 (core : Nat) (slot : Nat) (w : W64)
  /-- MUL_F32 (R119): Vector FP32 multiply. -/
  | mulF32 (core : Nat) (slot : Nat) (w : W64)
  /-- MIN_F32 (R119): Vector FP32 minimum. -/
  | minF32 (core : Nat) (slot : Nat) (w : W64)
  /-- MAX_F32 (R119): Vector FP32 maximum. -/
  | maxF32 (core : Nat) (slot : Nat) (w : W64)
  /-- EXP2_F32 (R120): Vector base-2 exponential by a fixed function. -/
  | exp2F32 (core : Nat) (slot : Nat) (w : W64)
  /-- LOG2_F32 (R120): Vector base-2 logarithm by a fixed function. -/
  | log2F32 (core : Nat) (slot : Nat) (w : W64)
  /-- RCP_F32 (R120): Vector reciprocal by a fixed function. -/
  | rcpF32 (core : Nat) (slot : Nat) (w : W64)
  /-- RSQ_F32 (R120): Vector reciprocal square root by a fixed function. -/
  | rsqF32 (core : Nat) (slot : Nat) (w : W64)
  /-- CMP_F32 (R119): Vector FP32 compare. -/
  | cmpF32 (core : Nat) (slot : Nat) (w : W64)
  /-- CMP_I32 (R119): Vector INT32 compare. -/
  | cmpI32 (core : Nat) (slot : Nat) (w : W64)
  /-- ADD_I32 (R119): Vector wrapping INT32 add. -/
  | addI32 (core : Nat) (slot : Nat) (w : W64)
  /-- SUB_I32 (R119): Vector wrapping INT32 subtract. -/
  | subI32 (core : Nat) (slot : Nat) (w : W64)
  /-- MUL_I32 (R119): Vector INT32 multiply, low 32 bits. -/
  | mulI32 (core : Nat) (slot : Nat) (w : W64)
  /-- LOGIC_I32 (R119): Vector logic or shift selected by MOD. -/
  | logicI32 (core : Nat) (slot : Nat) (w : W64)
  /-- SEL_V (R119): Vector select by condition. -/
  | selV (core : Nat) (slot : Nat) (w : W64)
  /-- SHFL_V (R119): Vector lane shuffle. -/
  | shflV (core : Nat) (slot : Nat) (w : W64)
  /-- CVT (R109): Vector format conversion with saturation and flags. -/
  | cvt (core : Nat) (slot : Nat) (w : W64)
  /-- ADDI_I32 (R119): Vector add immediate. -/
  | addiI32 (core : Nat) (slot : Nat) (w : W64)
  /-- MMA_T (R135): Tensor matrix multiply-accumulate in resumable steps. -/
  | mmaT (core : Nat) (slot : Nat) (w : W64)
  /-- ACC_LD_T (R119): Load an accumulator region from a tile. -/
  | accLdT (core : Nat) (slot : Nat) (w : W64)
  /-- ACC_ST_T (R119): Store an accumulator region to a tile. -/
  | accStT (core : Nat) (slot : Nat) (w : W64)
  /-- CVT_MX_T (R136): Convert a tile into MX blocks with chosen scales. -/
  | cvtMxT (core : Nat) (slot : Nat) (w : W64)
  /-- TCOPY_T (R127): Copy bytes between tile-memory locations in 1 KiB steps. -/
  | tcopyT (core : Nat) (slot : Nat) (w : W64)
  /-- LD (R171): Load from global virtual memory or own tile memory. -/
  | ld (core : Nat) (slot : Nat) (w : W64)
  /-- ST (R171): Store to global virtual memory or own tile memory. -/
  | st (core : Nat) (slot : Nat) (w : W64)
  /-- ATOM (R174): Atomic operation performed at the line's home. -/
  | atom (core : Nat) (slot : Nat) (w : W64)
  /-- LOAD_COMPLETE (R38): Data for an outstanding load returns and is written to the register. -/
  | loadComplete (core : Nat) (id : Nat) (status : Nat) (poison : Bool) (data : List Byte)
  /-- XLAT_WALK (R179): A translation fill walks the table levels and matches windows. -/
  | xlatWalk (who : Agent) (slot : Nat) (ctx : Nat) (va : Nat) (kind : Access)
  /-- INV_L1 (R145): Write back and invalidate L1 lines, whole, ranged or instruction cache. -/
  | invL1 (core : Nat) (slot : Nat) (w : W64)
  /-- WB_L1 (R145): Write back dirty L1 lines, leaving them valid. -/
  | wbL1 (core : Nat) (slot : Nat) (w : W64)
  /-- BAR_GB (R143): A thread group arrives at its group-block barrier. -/
  | barGb (core : Nat) (slot : Nat) (w : W64)
  /-- FENCE_GB (R144): Fence of group-block scope. -/
  | fenceGb (core : Nat) (slot : Nat) (w : W64)
  /-- FENCE_DEV (R144): Fence of device scope. -/
  | fenceDev (core : Nat) (slot : Nat) (w : W64)
  /-- FENCE_SYS (R144): Fence of system scope. -/
  | fenceSys (core : Nat) (slot : Nat) (w : W64)
  /-- LATH_WAIT (R199): Wait until the Lath slot counter reaches the operand. -/
  | lathWait (core : Nat) (slot : Nat) (w : W64)
  /-- POS_GEN (R140): Generate per-lane positions with range check. -/
  | posGen (core : Nat) (slot : Nat) (w : W64)
  /-- MASK_T (R141): Mask scores to minus infinity by position. -/
  | maskT (core : Nat) (slot : Nat) (w : W64)
  /-- ROPE_T (R142): Rotate column pairs by position angle. -/
  | ropeT (core : Nat) (slot : Nat) (w : W64)
  /-- SMAX_RUN (R138): Advance streamed softmax by one block of keys. -/
  | smaxRun (core : Nat) (slot : Nat) (w : W64)
  /-- ACC_SCALE_T (R139): Scale accumulator rows by per-lane factors. -/
  | accScaleT (core : Nat) (slot : Nat) (w : W64)
  /-- PLB_ISSUE (R438): Enqueue a Plumb descriptor and return a ticket. -/
  | plbIssue (core : Nat) (slot : Nat) (w : W64)
  /-- PLB_POLL (R440): Return the status word of a Plumb ticket. -/
  | plbPoll (core : Nat) (slot : Nat) (w : W64)
  /-- BR (R87): Per-thread conditional branch, possibly divergent. -/
  | br (core : Nat) (slot : Nat) (w : W64)
  /-- BR_U (R119): Uniform conditional branch. -/
  | brU (core : Nat) (slot : Nat) (w : W64)
  /-- JMP (R119): Unconditional jump. -/
  | jmp (core : Nat) (slot : Nat) (w : W64)
  /-- CALL (R119): Call, linking the return address. -/
  | call (core : Nat) (slot : Nat) (w : W64)
  /-- RET (R119): Return to the linked address. -/
  | ret (core : Nat) (slot : Nat) (w : W64)
  /-- NOP (R119): Core no-operation. -/
  | nop (core : Nat) (slot : Nat) (w : W64)
  /-- EXIT (R91): Threads exit; the thread group ends and barrier counts fall. -/
  | exit (core : Nat) (slot : Nat) (w : W64)
  /-- BRK (R125): Breakpoint raising BREAKPOINT. -/
  | brk (core : Nat) (slot : Nat) (w : W64)
  /-- YIELD (R147): Place the thread group in WAIT_YIELD, or mark a tile boundary with TB. -/
  | yield (core : Nat) (slot : Nat) (w : W64)
  /-- CSR_R (R118): Read a per-thread-group CSR. -/
  | csrR (core : Nat) (slot : Nat) (w : W64)
  /-- CSR_W (R118): Write a per-thread-group CSR. -/
  | csrW (core : Nat) (slot : Nat) (w : W64)
  /-- YIELD_EXPIRE (R147): A WAIT_YIELD count runs out and the slot returns to READY. -/
  | yieldExpire (core : Nat) (slot : Nat)
  /-- MEM_ENTRY_FREE (R97): An in-flight entry frees and a WAIT_MEM thread group issues. -/
  | memEntryFree (core : Nat) (id : Nat)
  /-- SLOT_FREE (R85): An ENDED slot's stores are accepted by the L1 and it becomes FREE. -/
  | slotFree (core : Nat) (slot : Nat)
  /-- LONG_STEP (R128): One step of a long instruction runs and commits its effects. -/
  | longStep (core : Nat) (slot : Nat)
  /-- TILE_WINDOW_ACCESS (R150): A DMA master access reaches a tile-memory bank through the tile window. -/
  | tileWindowAccess (addr : Nat) (data : Option (List (Bool × Byte)))
  /-- STARVE_EVENT (R152): A master's starvation counter reaches STARVE_THRESHOLD and the event is counted and logged. -/
  | starveEvent (core : Nat) (bank : Nat) (m : Master)
  /-- LATH_WORD_LAND (R153): A Lath word is accepted into a core's landing buffer. -/
  | lathWordLand (core : Nat) (k : Nat) (ecc : Ecc)
  /-- DRAIN (R153): The oldest landing-buffer entry is written into bank D on a DRAIN grant. -/
  | drain (core : Nat)
  /-- ECC_WRITEBACK (R158): A corrected tile-memory sector is written back when its bank is idle. -/
  | eccWriteback (core : Nat) (sector : Nat)
  /-- RET_WAKE (R163): RET_CMD wake action starts waking a section. -/
  | retWake (sec : Nat)
  /-- RET_RETAIN (R163): RET_CMD retain action starts retaining an idle section. -/
  | retRetain (sec : Nat)
  /-- RETAIN_DONE (R163): A section reaches RETAINED. -/
  | retainDone (sec : Nat)
  /-- WAKE_DONE (R164): A section reaches ACTIVE after wake, in groups of eight per C-die. -/
  | wakeDone (sec : Nat)
  /-- WIN_UPDATE (R186): The WIN_UPDATE command replaces a window entry and invalidates cached translations. -/
  | winUpdate (ctx : Nat) (idx : Nat) (entry : List Byte)
  /-- XLAT_INVAL (R181): The XLAT_INVAL command drops cached translations of a range. -/
  | xlatInval (ctx : Nat) (va : Nat) (len : Nat)
  /-- LATH_SCHEDULE_START (R192): The Lath schedule of a launch starts on a common cycle once every injector has filled. -/
  | lathScheduleStart (ctx : Nat)
  /-- LATH_WORD (R191): A word at a router input is switched by the slot entry toward its outputs. -/
  | lathWord (core : Nat) (port : LathPort) (k : Nat) (parityOk : Bool)
  /-- INJ_REFILL (R194): The injector reads a source sector ahead into its queue. -/
  | injRefill (core : Nat)
  /-- LATH_STOP (R472): The Lath schedule stops at cycle k_s and router and buffer state is saved. -/
  | lathStop (ctx : Nat) (k : Nat)
  /-- SCRIM_PACKET (R207): A Scrim packet is routed, split if replicated, or consumed at a router. -/
  | scrimPacket (node : Nat) (pkt : ScrimPkt) (dmg : Damage)
  /-- AGE_PROMOTION (R208): A packet waiting AGE_LIMIT cycles is promoted to tier 2. -/
  | agePromotion (i : Nat)
  /-- CLS_LOAD (R211): CLS_LOAD replaces the whole QoS classifier table. -/
  | clsLoad (table : List Byte)
  /-- CLS_ENTRY (R211): CLS_ENTRY replaces one classifier entry. -/
  | clsEntry (idx : Nat) (entry : List Byte)
  /-- UC_READ (R231): A read request at a slice hits, merges onto an MSHR, takes an MSHR, or is held. -/
  | ucRead (k : Nat) (r : UcReq) (ecc : Ecc)
  /-- UC_WRITE (R233): A sector write request at a slice is merged, fetched for, or held. -/
  | ucWrite (k : Nat) (r : UcReq) (ecc : Ecc)
  /-- UC_FILL_COMPLETE (R232): A fill completes, a victim is chosen if needed, and waiters are answered. -/
  | ucFillComplete (k : Nat) (line : Nat)
  /-- UC_HELD_RELEASE (R234): A resource frees and the oldest held request waiting on it is served. -/
  | ucHeldRelease (k : Nat) (i : Nat)
  /-- UC_FLUSH (R239): UC_FLUSH writes back or discards every line allocated by a context. -/
  | ucFlush (ctx : Nat) (mode : Nat)
  /-- UC_SCRUB (R241): A slice scrub read checks and corrects a valid way. -/
  | ucScrub (k : Nat) (way : Nat) (sec : Nat) (tag : Ecc) (data : Ecc)
  /-- GET_S (R258): A home receives a request for a read copy. -/
  | getS (m : BMsg)
  /-- GET_M (R258): A home receives a request for a writable copy. -/
  | getM (m : BMsg)
  /-- PUT_S (R258): A home receives an eviction of S. -/
  | putS (m : BMsg)
  /-- PUT_E (R258): A home receives an eviction of clean E. -/
  | putE (m : BMsg)
  /-- BEZEL_ATOM (R258): A home receives an atomic request and performs it at the home copy. -/
  | bezelAtom (m : BMsg)
  /-- READ_ONCE (R258): A home receives a request for current data without a copy. -/
  | readOnce (m : BMsg)
  /-- WRITE_ONCE (R258): A home receives a write of sectors without a copy. -/
  | writeOnce (m : BMsg)
  /-- FWD_GETS (R261): An owner receives a forward to supply an S copy. -/
  | fwdGets (m : BMsg)
  /-- FWD_GETM (R261): An owner receives a forward to supply the line in M. -/
  | fwdGetm (m : BMsg)
  /-- FWD_GETM_AP (R261): An owner receives a forward to supply M with invalidations pending. -/
  | fwdGetmAp (m : BMsg)
  /-- INV (R261): A sharer receives an invalidation. -/
  | inv (m : BMsg)
  /-- RECALL_S (R261): An owner receives a recall keeping S. -/
  | recallS (m : BMsg)
  /-- RECALL_I (R261): An owner receives a recall keeping nothing. -/
  | recallI (m : BMsg)
  /-- GNT_M (R260): A requester receives a grant of M for its current copy. -/
  | gntM (m : BMsg)
  /-- GNT_ACKS (R260): A requester learns that invalidations are complete. -/
  | gntAcks (m : BMsg)
  /-- INV_ACK (R258): A home receives a snoop acknowledgement without data. -/
  | invAck (m : BMsg)
  /-- FWD_DONE_O (R258): A home learns the owner supplied S and stays O. -/
  | fwdDoneO (m : BMsg)
  /-- FWD_DONE_S (R258): A home learns the owner supplied S and holds S. -/
  | fwdDoneS (m : BMsg)
  /-- FWD_DONE_I (R258): A home learns the owner supplied M and holds nothing. -/
  | fwdDoneI (m : BMsg)
  /-- FWD_MISS (R258): A home learns a forward reached a cache that evicted clean E and supplies data itself. -/
  | fwdMiss (m : BMsg)
  /-- RSP_WBPEND (R265): A home learns a snoop crossed a write-back and waits for it. -/
  | rspWbpend (m : BMsg)
  /-- WB_ACK (R260): A caching agent receives acceptance of its eviction. -/
  | wbAck (m : BMsg)
  /-- COMP (R253): A requester learns its WRITE_ONCE was performed. -/
  | comp (m : BMsg)
  /-- HOME_LOST (R276): A requester's transaction completes with HOME_LOST. -/
  | homeLost (m : BMsg)
  /-- REMOTE_LOST (R279): A requester's transaction completes with REMOTE_LOST. -/
  | remoteLost (m : BMsg)
  /-- COMP_ACK (R267): A home receives completion from a requester and releases its tracker. -/
  | compAck (m : BMsg)
  /-- DATA_S (R260): A requester receives the line granted S. -/
  | dataS (m : BMsg)
  /-- DATA_E (R260): A requester receives the line granted E and starts its hold. -/
  | dataE (m : BMsg)
  /-- DATA_M (R260): A requester receives the line granted M. -/
  | dataM (m : BMsg)
  /-- DATA_M_AP (R260): A requester receives M and waits for GNT_ACKS. -/
  | dataMAp (m : BMsg)
  /-- RSP_DATA (R258): A home receives an owner's recalled line and merges it. -/
  | rspData (m : BMsg)
  /-- PUT_M (R258): A home receives a write-back of M and sinks it. -/
  | putM (m : BMsg)
  /-- PUT_O (R258): A home receives a write-back of O and sinks it. -/
  | putO (m : BMsg)
  /-- DATA_ONCE (R253): A requester receives the reply to READ_ONCE. -/
  | dataOnce (m : BMsg)
  /-- ATOM_DATA (R253): A requester receives the old value of an atomic. -/
  | atomData (m : BMsg)
  /-- HOLD_END (R263): An E_H or M_H hold expires and any deferred snoop is acted on. -/
  | holdEnd (a : Agent) (line : Nat)
  /-- HOME_QUIESCE (R275): HOME_QUIESCE action 0 quiesces a B-die's home to OFFLINE. -/
  | homeQuiesce (b : Nat)
  /-- HOME_RETURN (R275): HOME_QUIESCE action 1 returns a home to ONLINE with a new epoch. -/
  | homeReturn (b : Nat)
  /-- B_DIE_LOSS (R277): A B-die is lost without quiesce; agents drop copies and complete transactions with HOME_LOST. -/
  | bDieLoss (b : Nat)
  /-- STACK_TEMP_READ (R290): Every 250 µs a stack temperature is read and its throttle step set. -/
  | stackTempRead (stack : Nat) (temp : Option Int)
  /-- HBM_READ (R287): A channel performs a sector read from its queue. -/
  | hbmRead (stack : Nat) (ch : Nat) (ecc : Ecc)
  /-- HBM_WRITE (R287): A channel performs a whole-sector write from its queue. -/
  | hbmWrite (stack : Nat) (ch : Nat)
  /-- HBM_REFRESH (R288): Per-bank or all-bank refresh is issued at the required interval. -/
  | hbmRefresh (stack : Nat) (ch : Nat) (bank : Option Nat)
  /-- HBM_SCRUB (R299): A patrol scrub read of a row in an idle cycle. -/
  | hbmScrub (stack : Nat) (ch : Nat) (row : Nat) (sec : Nat) (ecc : Ecc)
  /-- REDIRECT_ADD (R296): REDIRECT_ADD installs a firmware redirect entry and copies the rows. -/
  | redirectAdd (stack : Nat) (ch : Nat) (pc : Nat) (span : Nat) (bank : Nat) (row : Nat) (prio : Nat)
  /-- RESERVE (R303): RESERVE sets a partition's HBM bandwidth reservation per B-die. -/
  | reserve (part : Nat) (rates : List Nat)
  /-- HELDA_ADAPTER_UP (R320): The UCIe adapter reports the link up and negotiation begins with CAP. -/
  | heldaAdapterUp (e : Nat) (modules : Nat)
  /-- HELDA_FLIT (R311): A Helda flit is received; its units are taken into messages and credits returned. -/
  | heldaFlit (e : Nat) (f : HeldaFlitData)
  /-- CAP (R320): A CAP message is received during negotiation. -/
  | cap (e : Nat) (c : Cap)
  /-- CAP_COMMIT (R320): The responder receives the initiator's commit and accepts or rejects it. -/
  | capCommit (e : Nat) (c : CapCommit)
  /-- CAP_ACCEPT (R320): The initiator receives acceptance and enters ACTIVE. -/
  | capAccept (e : Nat)
  /-- CAP_REJECT (R320): A rejection disables the link with its reason. -/
  | capReject (e : Nat) (reason : Nat)
  /-- NEGOTIATION_TIMEOUT (R320): A negotiation step goes unanswered for 1 ms and restarts or ends in TIMEOUT. -/
  | negotiationTimeout (e : Nat)
  /-- HELDA_TRAIN_FAIL (R332): A 5 ms training attempt fails; after three the link goes DOWN. -/
  | heldaTrainFail (e : Nat)
  /-- HELDA_RETRAIN (R333): The adapter leaves its active state and the link end enters RETRAIN. -/
  | heldaRetrain (e : Nat)
  /-- HELDA_RETRAIN_LIMIT (R333): RETRAIN_LIMIT_US expires and the link goes DOWN. -/
  | heldaRetrainLimit (e : Nat)
  /-- HELDA_ADAPTER_FAIL (R308): The adapter reports it cannot deliver an accepted flit and the link goes DOWN. -/
  | heldaAdapterFail (e : Nat)
  /-- HELDA_DOWN_RETRY (R332): A DOWN ring or IOD link attempts training every 10 ms. -/
  | heldaDownRetry (e : Nat)
  /-- HELDA_LINK_RECOVER (R335): A LINK_RECOVER message lets an end discard and resend in-flight messages. -/
  | heldaLinkRecover (e : Nat) (received : Nat)
  /-- DEMAND (R329): The IOD receives an agent's DEMAND and answers with GRANT. -/
  | demand (agent : Nat) (d : DemandBody)
  /-- GRANT (R329): An agent receives and applies a power grant. -/
  | grant (agent : Nat) (seq : Nat) (mw : Nat) (flags : Nat)
  /-- DEMAND_PERIOD (R329): Every 100 µs an agent sends DEMAND. -/
  | demandPeriod (agent : Nat) (demandMw : Nat) (avgMw : Nat)
  /-- GRANT_MISS (R330): Five periods without GRANT make the agent keep within SAFE_POWER_MW. -/
  | grantMiss (agent : Nat)
  /-- HELDA_LINK_ENABLE (R341): LINK_CTL enable starts training on a DOWN or DISABLED Helda link. -/
  | heldaLinkEnable (link : Nat)
  /-- HELDA_LINK_DISABLE (R341): LINK_CTL disable makes a Helda link DISABLED unless it is the last path. -/
  | heldaLinkDisable (link : Nat)
  /-- HELDA_LINK_RETRAIN (R341): LINK_CTL retrain puts an ACTIVE Helda link into RETRAIN. -/
  | heldaLinkRetrain (link : Nat)
  /-- SITEP_ENABLE (R326): Writing SITEP_ENABLE 0 loses site P; writing 1 starts training link 8. -/
  | sitepEnable (value : Nat)
  /-- CARRAK_FLIT (R351): A Carrak Link flit is received, checked, sequenced and its packets delivered or forwarded. -/
  | carrakFlit (port : Nat) (f : LinkFlit)
  /-- NAK (R351): A NAK makes the sender replay from EXPECTED_SEQ or retrain at the replay limit. -/
  | nak (port : Nat) (seq : Nat)
  /-- NAK_REPEAT (R351): A receiver repeats its NAK every 2 µs until the expected flit arrives. -/
  | nakRepeat (port : Nat)
  /-- HELLO (R355): A HELLO control flit is received and may bring the port ACTIVE. -/
  | hello (port : Nat) (f : HelloFlit)
  /-- HELLO_SEND (R355): Every 10 µs a port in HELLO sends a HELLO. -/
  | helloSend (port : Nat)
  /-- HELLO_TIMEOUT (R354): HELLO does not complete in 1 ms and the port goes DOWN. -/
  | helloTimeout (port : Nat)
  /-- PORT_TRAINED (R354): Port training succeeds and the port enters HELLO or returns to ACTIVE. -/
  | portTrained (port : Nat) (lanes : Nat)
  /-- PORT_TRAIN_FAIL (R354): Training fails for 500 ms and the port goes DOWN. -/
  | portTrainFail (port : Nat)
  /-- PORT_DOWN_RETRY (R354): A DOWN port attempts training every 100 ms. -/
  | portDownRetry (port : Nat)
  /-- FEC_LOCK_LOSS (R354): Loss of FEC lock puts an ACTIVE port into RETRAIN. -/
  | fecLockLoss (port : Nat)
  /-- PORT_RETRAIN_LIMIT (R356): RETRAIN_LIMIT_US expires and the port goes DOWN. -/
  | portRetrainLimit (port : Nat)
  /-- LSA (R362): A newer LSA is kept and flooded; claims are checked against it. -/
  | lsa (port : Nat) (b : LsaBody)
  /-- LSA_PERIODIC (R362): A device floods its LSA every 1 s. -/
  | lsaPeriodic
  /-- LSA_AGE_OUT (R362): An LSA not refreshed for 3.5 s is discarded. -/
  | lsaAgeOut (serial : Nat)
  /-- ROUTE_RECOMPUTE (R363): The route table is recomputed after a change to the LSA set. -/
  | routeRecompute
  /-- LOSS_NOTICE (R277): A remote B-die loss notice makes this device drop proxy copies of its lines. -/
  | lossNotice (port : Nat) (serial : Nat) (b : Nat) (home : Nat)
  /-- UNREACH (R365): The origin receives UNREACH and completes the transaction with REMOTE_LOST. -/
  | unreach (device : Nat) (txn : Nat)
  /-- CARRAK_LINK_RECOVER (R357): A LINK_RECOVER lets a port end discard received packets and resend the rest. -/
  | carrakLinkRecover (port : Nat) (received : Nat)
  /-- STEWARD_REQ (R369): A peer's request to take or give the steward role is answered. -/
  | stewardReq (port : Nat) (give : Bool) (nonce : Nat)
  /-- STEWARD_RSP (R369): The requester receives the answer and the role moves or not. -/
  | stewardRsp (port : Nat) (accepted : Bool) (nonce : Nat)
  /-- STEWARD_TIMEOUT (R369): An unanswered steward request is withdrawn after 100 µs. -/
  | stewardTimeout (port : Nat)
  /-- STEWARD_BACKOFF_END (R370): The 1 ms back-off after a steward collision ends. -/
  | stewardBackoffEnd (port : Nat)
  /-- STEWARD_TAKE (R369): The STEWARD command with action take requests the steward role. -/
  | stewardTake (port : Nat)
  /-- STEWARD_GIVE (R369): The STEWARD command with action give hands the steward role to the peer. -/
  | stewardGive (port : Nat)
  /-- ID_CLAIM (R360): ID_CMD claim starts a claim for a device ID. -/
  | idClaim (mode : Nat) (id : Nat)
  /-- ID_RELEASE (R361): ID_CMD release gives up the held device ID. -/
  | idRelease
  /-- CLAIM_TIMER (R360): After 10 ms unchallenged a claiming device enters HELD. -/
  | claimTimer
  /-- AUTO_RECLAIM (R361): After a random delay an AUTO device that lost its ID claims again. -/
  | autoReclaim
  /-- PORT_IDLE_HALF (R368): The steward narrows an idle port to 4 lanes after IDLE_TO_HALF_US. -/
  | portIdleHalf (port : Nat)
  /-- PORT_WIDEN (R368): The steward returns a narrowed port to 8 lanes when traffic is held. -/
  | portWiden (port : Nat)
  /-- FEC_ERROR_RETRAIN (R368): Uncorrected FEC codewords above 1 in 10^6 in 1 s make the steward retrain. -/
  | fecErrorRetrain (port : Nat)
  /-- PORT_ENABLE (R376): LINK_CTL enable starts training on a DOWN or DISABLED port. -/
  | portEnable (port : Nat)
  /-- PORT_DISABLE (R376): LINK_CTL disable makes a port DISABLED and recovers its traffic. -/
  | portDisable (port : Nat)
  /-- PORT_RETRAIN (R376): LINK_CTL retrain retrains an ACTIVE port. -/
  | portRetrain (port : Nat)
  /-- PORT_COUNTER_CLEAR (R375): PORT_COUNTER_CLEAR clears a port's counter record. -/
  | portCounterClear (port : Nat)
  /-- CRAZE_START (R373): CRAZE_RUN 1 starts fault injection on a port or Helda link. -/
  | crazeStart (run : CrazeArgs)
  /-- CRAZE_STOP (R373): CRAZE_RUN 0 stops fault injection. -/
  | crazeStop
  /-- CRAZE_DURATION_END (R373): A Craze run ends after CRAZE_DURATION_MS. -/
  | crazeDurationEnd
  /-- CRAZE_UNLOCK (R374): A signed CRAZE_GRANT provisioning write installs an unlock grant. -/
  | crazeUnlock (record : List Byte)
  /-- CRAZE_GRANT_EXPIRY (R374): A Craze grant expires and any run stops. -/
  | crazeGrantExpiry
  /-- CONFIG_REQUEST (R379): A PCIe configuration request is answered, with Request Retry Status before HOST_UP. -/
  | configRequest (fn : Fn) (write : Bool) (reg : Nat) (value : Nat)
  /-- BAR2_READ (R386): A host memory read through BAR2 acts as READ_ONCE. -/
  | bar2Read (fn : Fn) (off : Nat) (len : Nat) (tag : Nat)
  /-- BAR2_WRITE (R386): A host memory write through BAR2 acts as WRITE_ONCE. -/
  | bar2Write (fn : Fn) (off : Nat) (data : List Byte) (poison : Bool)
  /-- BAR2_ATOMIC (R386): A host AtomicOp through BAR2 acts as ATOM at the home. -/
  | bar2Atomic (fn : Fn) (off : Nat) (op : Nat) (size : Nat) (operand : Nat) (compare : Nat) (tag : Nat)
  /-- CMD_TAIL (R390): A CMD_TAIL doorbell write announces command entries. -/
  | cmdTail (fn : Fn) (ctx : Nat) (value : Nat)
  /-- CPL_HEAD (R394): A CPL_HEAD write frees completion entries. -/
  | cplHead (fn : Fn) (ctx : Nat) (value : Nat)
  /-- CMD_FETCH (R390): The device fetches an available command entry of a running context's ring. -/
  | cmdFetch (ctx : Nat)
  /-- COMPLETION_WRITE (R394): A finished command's completion entry is written when the ring has room. -/
  | completionWrite (ctx : Nat)
  /-- COALESCE_TIMER (R397): COALESCE_NS passes and the ring's vector is raised. -/
  | coalesceTimer (ctx : Nat)
  /-- FLR_VF (R380): A VF function-level reset tears down its partition's contexts. -/
  | flrVf (n : Nat)
  /-- FLR_PF (R380): A PF function-level reset clears VF Enable and tears down every context. -/
  | flrPf
  /-- POWER_STATE_CHANGE (R381): A function enters D3hot or returns to D0. -/
  | powerStateChange (fn : Fn) (d3 : Bool)
  /-- VF_MAP (R387): VF_MAP maps a VF to a partition with an aperture, or unmaps it. -/
  | vfMap (n : Nat) (part : Nat) (apBase : Nat) (apBytes : Nat)
  /-- RING_ENABLE (R389): RING_SETUP enable places and enables a context's rings. -/
  | ringEnable (args : RingArgs)
  /-- RING_DISABLE (R389): RING_SETUP disable stops fetching and aborts fetched commands. -/
  | ringDisable (ctx : Nat)
  /-- RING_NOP (R391): Ring command NOP. -/
  | ringNop (ctx : Nat)
  /-- LAUNCH (R427): Ring command LAUNCH checks and runs a loaded plan. -/
  | launch (ctx : Nat)
  /-- DMA_COPY (R392): Ring command DMA_COPY copies bytes between context addresses. -/
  | dmaCopy (ctx : Nat) (i : Nat) (n : Nat) (ext : Nat)
  /-- SIGNAL (R392): Ring command SIGNAL stores a value visible at system scope. -/
  | signal (ctx : Nat) (ext : Nat)
  /-- WAIT (R392): Ring command WAIT waits until a value reaches VALUE. -/
  | wait (ctx : Nat) (ext : Nat)
  /-- WAIT_POLL (R392): A WAIT re-reads its value at least every 2 µs. -/
  | waitPoll (ctx : Nat) (ext : Nat)
  /-- RING_WIN_UPDATE (R391): Ring command WIN_UPDATE replaces a window entry of the ring's context. -/
  | ringWinUpdate (ctx : Nat)
  /-- RING_XLAT_INVAL (R391): Ring command XLAT_INVAL invalidates translations of the ring's context. -/
  | ringXlatInval (ctx : Nat)
  /-- FLUSH_UC (R391): Ring command FLUSH_UC flushes the ring's context's UC lines. -/
  | flushUc (ctx : Nat)
  /-- HOST_COMPLETION (R398): A completion from the host arrives; UR or CA becomes an address error. -/
  | hostCompletion (tag : Nat) (status : Nat) (data : List Byte) (poison : Bool)
  /-- HOST_CPL_TIMEOUT (R398): A host request times out and completes with address error. -/
  | hostCplTimeout (tag : Nat)
  /-- HOST_LINK_DOWN (R399): The host link goes down without PERST_N. -/
  | hostLinkDown
  /-- HOST_LINK_UP (R399): The host link returns and waiting entries and interrupts are sent. -/
  | hostLinkUp (gen : Nat) (width : Nat) (flit : Bool) (cxl : Bool)
  /-- SNP_INV (R272): A host SnpInv is treated as RECALL_I at the proxy slice. -/
  | snpInv (addr : Nat)
  /-- SNP_DATA (R272): A host SnpData is treated as RECALL_S at the proxy slice. -/
  | snpData (addr : Nat)
  /-- SNP_CUR (R272): A host SnpCur returns current data without changing state. -/
  | snpCur (addr : Nat)
  /-- MEM_RD (R403): A host CXL.mem read maps to READ_ONCE, GET_S or GET_M by MetaValue. -/
  | memRd (addr : Nat) (metaValue : Nat) (tag : Nat)
  /-- MEM_WR (R403): A host CXL.mem write is merged into the home copy. -/
  | memWr (addr : Nat) (data : List Byte) (enables : List Bool) (poison : Bool) (tag : Nat)
  /-- BI_RSP (R403): A host back-invalidate response arrives; the last one answers the home. -/
  | biRsp (addr : Nat) (data : Option (List Byte))
  /-- PLAN_LOAD (R421): PLAN_LOAD checks and installs a plan image into a slot. -/
  | planLoad (ctx : Nat) (slot : Nat) (addr : Nat) (origin : Nat)
  /-- PLAN_UNLOAD (R422): PLAN_UNLOAD frees a plan slot and its multicast groups. -/
  | planUnload (ctx : Nat) (slot : Nat)
  /-- KERNEL_START (R414): A kernel or invocation starts once the previous one has completed on every footprint core. -/
  | kernelStart (ctx : Nat)
  /-- DMA_TRANSFER_START (R418): A DMA window starts a transfer once its flag handshake permits. -/
  | dmaTransferStart (ctx : Nat) (i : Nat)
  /-- DMA_TRANSFER_DONE (R418): A DMA window transfer completes and DONE is written. -/
  | dmaTransferDone (ctx : Nat) (i : Nat) (ext : Nat)
  /-- TILE_OVERRUN (R415): WORST_TILE_CYCLES pass without YIELD.TB and TILE_OVERRUNS increments. -/
  | tileOverrun (ctx : Nat) (core : Nat)
  /-- PLB_SHARE (R436): PLB_SHARE sets a partition's lane share on each Plumb array. -/
  | plbShare (part : Nat) (lanes : List Nat)
  /-- PLB_DESC_START (R444): A Plumb descriptor starts and is checked. -/
  | plbDescStart (array : Nat) (i : Nat) (ext : Nat)
  /-- PLB_STEP (R453): A Plumb lane performs one step of a problem once its inputs are loaded. -/
  | plbStep (array : Nat) (lane : Nat) (ext : Nat)
  /-- PART_CREATE (R460): PART_CMD create forms a partition from a section mask. -/
  | partCreate (p : Nat) (mask : List Nat)
  /-- PART_RESIZE (R460): PART_CMD resize replaces a partition's section set. -/
  | partResize (p : Nat) (mask : List Nat)
  /-- PART_DESTROY (R461): PART_CMD destroy stops and destroys contexts and frees the partition. -/
  | partDestroy (p : Nat)
  /-- CTX_CREATE (R463): CTX_CMD CREATE creates a context from its descriptor. -/
  | ctxCreate (ctx : Nat) (desc : List Byte)
  /-- CTX_DESTROY (R464): CTX_CMD DESTROY stops, unloads and frees a context. -/
  | ctxDestroy (ctx : Nat)
  /-- URGENT_STOP (R481): CTX_CMD URGENT_STOP raises an urgent stop of a context. -/
  | urgentStop (ctx : Nat)
  /-- CTX_PREEMPT (R464): CTX_CMD PREEMPT switches a running context out in the partition's mode. -/
  | ctxPreempt (ctx : Nat)
  /-- SET_PRIORITY (R464): CTX_CMD SET_PRIORITY sets a context's priority. -/
  | setPriority (ctx : Nat) (prio : Nat)
  /-- PARTITION_POLICY (R487): The PP command sets a partition's slice and preemption policy. -/
  | partitionPolicy (p : Nat) (policy : Nat) (sliceUs : Nat) (preempt : Nat) (graceUs : Nat) (retainUs : Nat)
  /-- SLICE_EXPIRY (R468): SLICE_US elapses and the running context is preempted if another is READY. -/
  | sliceExpiry (p : Nat)
  /-- TB_GRACE_EXPIRY (R470): TB_GRACE_US passes and a pending tile preemption escalates to instruction level. -/
  | tbGraceExpiry (ctx : Nat)
  /-- SAVE_COMPLETE (R473): A context's save completes and it becomes READY. -/
  | saveComplete (ctx : Nat)
  /-- RESTORE_COMPLETE (R475): A context's image is restored and its schedule restarted, and it becomes RUNNING. -/
  | restoreComplete (ctx : Nat)
  /-- CONTEXT_FAULT (R478): A fault cause writes the context's fault record and raises an urgent stop. -/
  | contextFault (ctx : Nat) (cause : Nat) (code : Nat) (core : Nat) (slot : Nat) (source : Nat) (address : Nat) (pc : Nat)
  /-- URGENT_STOP_COMPLETE (R482): The urgent stop ends: sections zeroed and the context FAULTED. -/
  | urgentStopComplete (ctx : Nat)
  /-- RETAIN_IDLE_EXPIRY (R485): A partition idle for RETAIN_IDLE_US has its sections retained. -/
  | retainIdleExpiry (p : Nat)
  /-- SENSOR_SAMPLE (R490): Hardware samples thermal, current and voltage sensors. -/
  | sensorSample (kind : SensorKind) (first : Nat) (values : List (Option Int))
  /-- POWER_SAMPLE (R491): Every 10 µs Askar forms each entity's power and updates its report. -/
  | powerSample (entities : List Nat) (rails : List Nat) (sections : List Nat)
  /-- LOG_PERSIST (R496): An event-log record at or above LOG_PERSIST_LEVEL is copied to flash. -/
  | logPersist
  /-- LOG_RECORDS (R497): Reading LOG_RECORDS returns up to 16 records from the session's start point. -/
  | logRecords (sid : Nat)
  /-- WM_NOTICE (R501): A deferred watermark notice is given 1 ms after the previous one. -/
  | wmNotice (id : Nat)
  /-- FAN_UPDATE (R504): Every 100 ms Askar sets FAN_PWM from the hottest sensor. -/
  | fanUpdate
  /-- FW_IMAGE (R508): A FW_IMAGE segment write stages an image into the inactive slot. -/
  | fwImage (off : Nat) (data : List Byte) (last : Bool)
  /-- FW_VERIFY (R508): FW_CMD verify validates the staged image. -/
  | fwVerify
  /-- FW_ACTIVATE (R508): FW_CMD activate restarts Askar into the staged slot as a trial. -/
  | fwActivate
  /-- FW_COMMIT (R508): FW_CMD commit makes the trial slot active and raises the rollback counter. -/
  | fwCommit
  /-- FW_ABORT (R508): FW_CMD abort discards a staged image or ends a trial. -/
  | fwAbort
  /-- FW_TRIAL_TIMEOUT (R508): No commit within FW_TRIAL_S restarts Askar into the previous slot. -/
  | fwTrialTimeout
  /-- WATCHDOG (R510): The Askar watchdog fires and Askar restarts. -/
  | watchdog
  /-- ASKAR_RESTART (R510): The ASKAR_RESTART command restarts Askar. -/
  | askarRestart
  /-- ASKAR_SERVING (R510): Askar serves requests again after a restart and resumes its outputs and queue. -/
  | askarServing
  /-- PROV_NONCE (R516): Reading PROV_NONCE issues a fresh provisioning nonce. -/
  | provNonce
  /-- LC_REQUEST (R520): A signed LC_TRANSITION record requests a life-cycle transition. -/
  | lcRequest (record : List Byte)
  /-- KEY_UPDATE (R514): A signed KEY_RECORD installs an OWNER or EXPERT key. -/
  | keyUpdate (record : List Byte)
  /-- SEAL_WRITE (R517): A signed SEAL_WRITE record writes or empties a sealed slot. -/
  | sealWrite (slot : Nat) (record : List Byte)
  /-- TAMPER_EVENT (R521): An armed tamper source fires and the sealed region is wiped. -/
  | tamperEvent (sources : Nat)
  /-- TAMPER_LOOP_OPEN (R581): The tamper loop fails to return its pattern for 3 periods and the lid sensor fires. -/
  | tamperLoopOpen
  /-- ATTEST_NONCE (R524): Writing a challenge to ATTEST_NONCE starts an attestation report. -/
  | attestNonce (challenge : List Byte)
  /-- ATTEST_REPORT (R524): The signed attestation report becomes ready. -/
  | attestReport
  /-- RAIL_OUT_OF_RANGE (R527): A rail read out of range for 1 ms enters FAULT and its units are handled. -/
  | railOutOfRange (r : Nat)
  /-- RAIL_IN_RANGE (R527): A rail comes into range and reads IN_RANGE. -/
  | railInRange (r : Nat)
  /-- RAMP_START (R530): The next waiting domain on a ramp rail starts its ramp. -/
  | rampStart (r : Nat)
  /-- RAMP_DONE (R530): A domain completes its ramp and is ON. -/
  | rampDone (d : Nat)
  /-- LATCHED_SLOW (R531): A domain not past 50 % within 100 µs of ramp time is latched off. -/
  | latchedSlow (d : Nat)
  /-- SHORT_DETECT (R532): A domain's current exceeds SHORT_MA and ramps on its rail pause. -/
  | shortDetect (d : Nat)
  /-- SHORT_CONFIRM (R532): Current stays above SHORT_MA for SHORT_CONFIRM_US and the domain latches off. -/
  | shortConfirm (d : Nat)
  /-- SHORT_CLEAR (R532): Current falls below SHORT_MA early; detection ends and paused ramps resume. -/
  | shortClear (d : Nat)
  /-- DOMAIN_CLEAR (R534): DOMAIN_CLEAR ramps a latched domain again. -/
  | domainClear (d : Nat)
  /-- ARBITER_PERIOD (R538): Every 100 µs the arbiter updates the burst store and computes grants. -/
  | arbiterPeriod (avgMw : Nat)
  /-- CLOCK_CEILING_STEP (R539): A stack-pair agent lowers or raises its section clock ceiling to fit its grant. -/
  | clockCeilingStep (n : Nat) (up : Bool)
  /-- CLAMP_SET (R540): A sensor at CLAMP_T clamps its C-die's cores, or the control cores, to the low clock. -/
  | clampSet (which : Nat)
  /-- CLAMP_RELEASE (R540): All sensors below CLAMP_T less hysteresis for 1 ms release the clamp. -/
  | clampRelease (which : Nat)
  /-- VT_LEVEL_CHANGE (R542): B-die temperature changes the vertical throttle level of its C-die. -/
  | vtLevelChange (n : Nat)
  /-- THERMAL_TRIP (R544): A sensor at TRIP_T makes fuse logic gate off all domains and fail the device. -/
  | thermalTrip (sensor : Nat)
  /-- PLL_UNLOCK (R547): An island's PLL loses lock and its unit stops or leaves service. -/
  | pllUnlock (island : Island)
  /-- PLL_RELOCK (R547): A core island's PLL relocks and its clock resumes. -/
  | pllRelock (core : Nat)
  /-- REFCLK_LOSS (R547): The reference clock disappears and the always-on island runs from its oscillator. -/
  | refclkLoss
  /-- REFCLK_LOST (R547): The reference clock is absent for 1 ms and the device fails. -/
  | refclkLost
  /-- POWER_ON (R548): VDD_AON comes into range at power-on; straps are sampled and start-up begins. -/
  | powerOn (node : Nat) (pid : Nat) (testEn : Bool)
  /-- PACKAGE_RESET (R548): PERST_N held low for 1 µs resets the package and restarts start-up. -/
  | packageReset (node : Nat) (pid : Nat) (testEn : Bool)
  /-- PERST_N_DEASSERT (R379): PERST_N deasserts and host link training starts. -/
  | perstNDeassert
  /-- ASKAR_ONLY_RESET (R580): An assertion of ASKAR_RST_N restarts Askar alone. -/
  | askarOnlyReset
  /-- DIE_RESET (R549): DIE_RESET resets a stack pair or a C-die alone and returns it to service if it recovers. -/
  | dieReset (target : Nat) (recovered : Bool)
  /-- ASKAR_BOOT (R507): The ROM validates and boots an image, or enters recovery. -/
  | askarBoot
  /-- POWER_UP (R528): Start-up waits for rails and temperature, ramps domains and locks PLLs. -/
  | powerUp
  /-- RAIL_WAIT_EXPIRY (R528): A rail still OFF 1 s after POWER_UP ends start-up in FAILED. -/
  | railWaitExpiry
  /-- HOT_AT_START (R544): Sensors not below TRIP_T less 10 °C within 60 s end start-up in FAILED. -/
  | hotAtStart
  /-- HBM_TRAIN (R297): Stacks train, pending repairs apply and redirect tables rebuild. -/
  | hbmTrain (badStacks : List Nat)
  /-- HELDA_TRAIN (R338): Helda links train and negotiate, ending within 25 ms and computing FEATURE_SET. -/
  | heldaTrain
  /-- CONTROL_BOOT (R551): Components load, control cores boot, ports start training and PWR_GOOD asserts. -/
  | controlBoot
  /-- HOST_UP (R551): Config space first completes; memories are zeroed, crossings calibrated and self-test run. -/
  | hostUp (badDies : List Nat)
  /-- STARTUP_END (R552): Start-up ends in READY, READY_DEGRADED or FAILED with its reason. -/
  | startupEnd
  /-- STAGE_TIMEOUT (R551): A start-up stage exceeds twice its bound and start-up fails. -/
  | stageTimeout
  /-- EI_RUN (R567): EI_RUN injects errors into a stored or transit target. -/
  | eiRun (unit : Nat) (kind : Nat) (addr : Nat) (count : Nat)
  /-- I3C_TARGET_RESET (R51): An I3C target reset from the controller ends every session opened on the I3C target. -/
  | i3cTargetReset
  /-- I3C_CCC (R74): A common command from the I3C controller assigns the device its dynamic address or enables or disables in-band interrupts. -/
  | i3cCcc (c : I3cCcc)
  /-- T1S_LINK_DOWN (R51): The 10BASE-T1S link is down for more than 1 s and every session of that port ends. -/
  | t1sLinkDown
  /-- MSIX_UNMASK (R397): The host unmasks an MSI-X vector whose PBA bit is set, and the pending message is sent. -/
  | msixUnmask (fn : Fn) (vector : Nat)
  /-- BAR0_ACCESS (R384): A BAR0 access of the wrong size or alignment, to a Reserved offset, or a read of a WO or write of an RO register writes nothing, reads 0 and is counted in IGN_BAR_ACCESS. -/
  | bar0Access (fn : Fn) (off : Nat) (size : Nat) (data : Option Nat)
  /-- CXL_CACHE_RESPONSE (R402): A CXL.cache response or data from the host for a proxy slice's RdShared, RdOwn, RdOwnNoData, RdCurr or eviction arrives and moves the proxy line to E, S, M or I. -/
  | cxlCacheResponse (addr : Nat) (rsp : CxlRsp) (data : Option (List Byte)) (poison : Bool)
  /-- REFCLK_RETURN (R547): The 100 MHz reference returns before 1 ms of absence, the always-on island leaves its oscillator and REFCLK_PRESENT reads 1 again. -/
  | refclkReturn
  deriving DecidableEq, Repr

end Sys2Proof
end

