-- ==== Sys2Proof/Decode.lean ====
section
/-! DEFINITION. The commands that words of the operation table spell. -/
namespace Sys2Proof

/-- The rows of the operation table carry no bits: no word spells a command. -/
def decodeTableWord (_nbits _w : Nat) : Option Instr := none

end Sys2Proof
end

