-- ==== Sys2Proof/Config.lean ====
section
/-! DEFINITION. What the model leaves uninterpreted: the free values, the fixed functions whose bits the spec does not
give, and cryptography. None has a body, so no proof can see a value of it. -/
namespace Sys2Proof.Config

/-- The free values: the value number k that the device uses where the spec fixes none (assumption 2). -/
opaque freeNat : Nat → Nat

/-- A sector of this device's memory whose bytes another device, the host or site P holds (assumption 24): the counter of free values and
the global address. -/
opaque unseen : Nat → Nat → Nat

/-- EXP2.F32 on one lane: a fixed function of the input bits with error below 2 ulp (R120, assumption 9). -/
opaque exp2F32 : W32 → W32
/-- LOG2.F32 on one lane (R120, assumption 9). -/
opaque log2F32 : W32 → W32
/-- RCP.F32 on one lane (R120, assumption 9). -/
opaque rcpF32 : W32 → W32
/-- RSQ.F32 on one lane (R120, assumption 9). -/
opaque rsqF32 : W32 → W32
/-- A pair rotated by ROPE.T in FP32 before its conversion to the destination type: elements 2i and 2i + 1, position,
base, i and K (R142, assumption 9). -/
opaque ropePair : W32 → W32 → Nat → W32 → Nat → Nat → W32 × W32
/-- The argument (S − m) × f that SMAX.RUN gives to EXP2, in FP32: S, m and f (R138, assumption 9). -/
opaque smaxArg : W32 → W32 → W32 → W32
/-- The flags that EXP2, LOG2, RCP and RSQ raise on one lane: OP and input (R106, R120, assumption 9). -/
opaque fnFlags : Nat → W32 → W32
/-- Sign and payload of a NaN that an operation makes from three operands (R106, R109, assumption 8). -/
opaque nanPayload : Nat → Nat → Nat → Nat
/-- R106, R119: whether an operation (its OP, or its MOD for CMP.F32) on a NaN operand counts as invalid, where an operand is a
signalling NaN (true) or none is (false). -/
opaque nanInvalid : Nat → Bool → Bool
/-- Which operand MIN.F32 and MAX.F32 return for zeros of opposite sign (R119, assumption 8). -/
opaque pickFirst : W32 → W32 → Bool
/-- CMP.F32 with MOD 4 and 5 (R119, assumption 8): MOD and the operands. -/
opaque cmpF32U : Nat → W32 → W32 → Bool
/-- A 64-bit shift by 64 or more: OP, value and amount (R119, assumption 8). -/
opaque shiftBig64 : Nat → W64 → W64 → W64
/-- A 32-bit shift by 32 or more: MOD, value and amount (R119, assumption 8). -/
opaque shiftBig32 : Nat → W32 → W32 → W32
/-- Whether IMM32 is extended with its sign (R114, R119, assumption 8). -/
opaque immSigned : Bool
/-- Whether ATOM MIN and MAX compare as two's complement (R119, assumption 8). -/
opaque atomSigned : Bool
/-- The order in which the lanes of one instruction that meet at one address take effect (R171, assumption 8): rank of
a lane in use number k. -/
opaque laneRank : Nat → Nat → Nat

/-- Which of the edge routers of row 23 and column 31 of a B-die is the attachment of a Helda link for a fold value:
B-die, link and fold (R203, R204; assumption 25). -/
opaque heldaEntry : Nat → Nat → Nat → Nat
/-- The hash of a line address that chooses between the two ring paths of diagonal B-dies (R20, assumption 25). -/
opaque diagHash : Nat → Bool

/-- The factor R of a QR_SOLVE problem before R449 judges it (R445, R448; assumption 29): FP64_ACC, N, M and the input
record give (N + 1)² bit patterns, row-major. -/
opaque plbQr : Bool → Nat → Nat → List Byte → List Nat
/-- Back-substitution (R445, R448; assumption 29): FP64_ACC, N, the factor and the columns kept give N FP32 patterns. -/
opaque plbBack : Bool → Nat → List Nat → List Nat → List Nat
/-- Observation slots of a point whose K is outside 1 to M (R447; assumption 29): K and M. -/
opaque plbSlots : Nat → Nat → Nat
/-- The values of a Schur record whose V_p is not deficient (R447; assumption 29): FP64_ACC, C, λ and the point record;
then the number of the value, counted over V_p⁻¹, v_p, the g_i, the W_i and the pair blocks in the record's order. -/
opaque plbSchur : Bool → Nat → W32 → List Byte → Nat → W32
/-- δp of BA_BACKSUB (R447; assumption 29): FP64_ACC, C, M, the Schur record and the deltas give three values. -/
opaque plbDelta : Bool → Nat → Nat → List Byte → List Byte → Nat → W32
/-- A work area as it is saved at a suspension (R454; assumption 29): descriptor, input, further input, steps done and
byte number. -/
opaque plbPartial : List Byte → List Byte → List Byte → Nat → Nat → Nat

/-- SHA-384 of a byte string (R6, R506, R524; assumption 10). -/
opaque sha384 : List Byte → BitVec 384
/-- ECDSA P-384 verification: public key x then y, digest, r then s (assumption 10). -/
opaque ecdsaVerify : List Byte → BitVec 384 → List Byte → Bool
/-- ECDSA P-384 verification by the ROOT key whose SHA-384 hash is fused (R506, R514; assumption 10). -/
opaque rootVerify : BitVec 384 → BitVec 384 → List Byte → Bool
/-- The alias key's signature over a digest (R524; assumption 10): 96 bytes. -/
opaque aliasSign : BitVec 384 → BitVec 768
/-- HKDF-SHA-384, ECDH P-384 and AES-256-GCM together: EPHEMERAL, IV, GCM_TAG and the ciphertext give the plaintext,
or nothing where the tag does not hold (R515; assumption 10). -/
opaque decrypt : List Byte → List Byte → List Byte → List Byte → Option (List Byte)
/-- ALIAS_CERT for a running image (R523; assumption 10). -/
opaque aliasCert : BitVec 384 → List Byte

/-- SAFE_POWER_MW and MAX_POWER_MW of a stack-pair agent and of the IOD (R536). -/
def safeMw (agent : Nat) : Nat := if agent < 8 then 150000 else if agent = 8 then 60000 else 0
/-- MAX_POWER_MW (R536). -/
def maxMw (agent : Nat) : Nat := if agent < 8 then 480000 else if agent = 8 then 120000 else 0

/-- Compute cores of the device (R26). -/
abbrev nCores : Nat := 4608
/-- Device sections (R29). -/
abbrev nSections : Nat := 144
/-- Contexts (R462). -/
abbrev nCtx : Nat := 1024
/-- UC slices. -/
abbrev nSlices : Nat := 256

end Sys2Proof.Config
end

