-- ==== Sys2Proof/Machine/Store.lean ====
section
/-! DEFINITION. Sparse stores: a list of (key, value) pairs, keys strictly rising. They hold the register files, the
per-unit records and the byte memories of the device as plain data. -/
namespace Sys2Proof.Machine

/-- A sparse store: pairs of a key and a value, keys strictly rising (`keysRise`). -/
abbrev SMap (α : Type) := List (Nat × α)

/-- The value at a key; `d` where the key is not listed. -/
def sget {α : Type} (d : α) : SMap α → Nat → α
  | [], _ => d
  | (k', v) :: t, k => if k' = k then v else sget d t k

/-- The value at a key, if the key is listed. -/
def sfind {α : Type} : SMap α → Nat → Option α
  | [], _ => none
  | (k', v) :: t, k => if k' = k then some v else sfind t k

/-- Replace or insert the value at a key, keeping the keys in order. -/
def sput {α : Type} : SMap α → Nat → α → SMap α
  | [], k, v => [(k, v)]
  | (k', v') :: t, k, v =>
    if k < k' then (k, v) :: (k', v') :: t
    else if k = k' then (k, v) :: t
    else (k', v') :: sput t k v

/-- Drop a key. -/
def sdel {α : Type} (m : SMap α) (k : Nat) : SMap α := m.filter (fun c => c.1 != k)

/-- Change the value at a key, starting from `d` where the key is not listed. -/
def smod {α : Type} (d : α) (m : SMap α) (k : Nat) (f : α → α) : SMap α := sput m k (f (sget d m k))

/-- The keys rise strictly from `lo`. -/
def keysRiseFrom {α : Type} : Nat → SMap α → Bool
  | _, [] => true
  | lo, (k, _) :: t => decide (lo ≤ k) && keysRiseFrom (k + 1) t

/-- The keys rise strictly: the order half of the canonical form. -/
def keysRise {α : Type} (m : SMap α) : Bool := keysRiseFrom 0 m

/-- A byte memory: (address, byte) cells; an address not listed reads as `memDefault`. -/
abbrev Memory := SMap Byte

/-- What a byte of memory nothing has written reads as (DESIGN CHOICE, notes/assumptions/4.md). -/
def memDefault : Byte := 0

/-- Read one byte. -/
def memRead (m : Memory) (a : Nat) : Byte := sget memDefault m a

/-- Write one byte; writing what an unlisted address reads as removes the cell. -/
def memWrite (m : Memory) (a : Nat) (b : Byte) : Memory := if b = memDefault then sdel m a else sput m a b

/-- The canonical form of a byte memory: keys strictly rising, no cell equal to the default. -/
def Memory.wf (m : Memory) : Bool := keysRise m && m.all (fun c => c.2 != memDefault)

/-- Read `n` bytes from `a` upward. -/
def memReadN (m : Memory) (a : Nat) : Nat → List Byte
  | 0 => []
  | n + 1 => memRead m a :: memReadN m (a + 1) n

/-- Write a run of bytes from `a` upward. -/
def memWriteN (m : Memory) (a : Nat) : List Byte → Memory
  | [] => m
  | b :: bs => memWriteN (memWrite m a b) (a + 1) bs

/-- Write the bytes whose enable is set (a sector's byte enables, R159). -/
def memWriteMasked (m : Memory) (a : Nat) : List (Bool × Byte) → Memory
  | [] => m
  | (en, b) :: t => memWriteMasked (if en then memWrite m a b else m) (a + 1) t

/-- The little-endian value of a run of bytes (R6). -/
def leNat : List Byte → Nat
  | [] => 0
  | b :: bs => b.toNat + 256 * leNat bs

/-- `n` little-endian bytes of a number (R6). -/
def leBytes : Nat → Nat → List Byte
  | 0, _ => []
  | n + 1, v => BitVec.ofNat 8 v :: leBytes n (v / 256)

/-- Bytes `off` to `off + n - 1` of a byte string, zero beyond its end. -/
def slice (l : List Byte) (off n : Nat) : List Byte := ((l.drop off) ++ List.replicate n 0).take n

/-- The little-endian field of `n` bytes at `off`. -/
def field (l : List Byte) (off n : Nat) : Nat := leNat (slice l off n)

/-- Bit `i` of a number. -/
def bit (v i : Nat) : Bool := v / 2 ^ i % 2 = 1

/-- Bits `[lo + n - 1 : lo]` of a number. -/
def bits (v lo n : Nat) : Nat := v / 2 ^ lo % 2 ^ n

/-- Remove members equal to `k` from a set held as a list. -/
def lremove (l : List Nat) (k : Nat) : List Nat := l.filter (· != k)

/-- Add a member to a set held as a list without repeats. -/
def ladd (l : List Nat) (k : Nat) : List Nat := if l.contains k then l else l ++ [k]

end Sys2Proof.Machine
end

