-- ==== Sys2Proof/Machine/DictState.lean ====
section
/-! DEFINITION. The state of the object dictionary (chapter 02): sessions, transports, clamp records and the values of
the objects; and of the part's identity (chapters 00 and 01). -/
namespace Sys2Proof.Machine

/-- A nonce of a session or of the provisioning path (R53, R516): 32 bytes, when it was issued, whether it is used up. -/
structure Nonce where
  value : List Byte
  issuedAt : Nat
  used : Bool := false
  deriving DecidableEq, Repr

/-- A final response as it was sent (R70). -/
structure Stored where
  tag : Nat
  opcode : Nat
  index : Nat
  sub : Nat
  /-- The request ran a command, which POLL can name. -/
  cmd : Bool
  status : Nat
  flags : Nat
  payload : List Byte
  deriving DecidableEq, Repr

/-- A command that answered IN_PROGRESS and is the session's outstanding request (R70). -/
structure Running where
  tag : Nat
  opcode : Nat
  flags : Nat
  index : Nat
  sub : Nat
  session : Nat
  ep : Endpoint
  /-- Status and payload of its final response. -/
  status : Nat
  payload : List Byte
  deriving DecidableEq, Repr

/-- A BLOB being staged by segments (R69). -/
structure Staging where
  index : Nat
  sub : Nat
  bytes : List Byte
  at_ : Nat
  deriving DecidableEq, Repr

/-- A live session (R48, R50 to R53, R586). -/
structure Session where
  id : Nat
  ep : Endpoint
  /-- SESSION_LEVEL: 0 basic, 1 expert, 2 factory. -/
  level : Nat := 0
  idleS : Nat := 300
  rspNotify : Bool := true
  nonce : Option Nonce := none
  fails : Nat := 0
  last : Option Stored := none
  running : Option Running := none
  staging : Option Staging := none
  /-- Values of CMD arguments last applied: key 256 × index + sub (R586). -/
  args : SMap (List Byte) := []
  logFrom : Nat := 0
  logSource : Nat := 0
  lastAt : Nat := 0
  deriving DecidableEq, Repr

/-- A PCIe mailbox (R72): key m for PF mailbox m, 8 + n for VF n. -/
structure Mailbox where
  req : Memory := []
  rsp : List Byte := []
  reqPending : Bool := false
  rspReady : Bool := false
  deriving DecidableEq, Repr

/-- The I3C target (R74). -/
structure I3c where
  dynAddr : Option Nat := none
  ibiEnabled : Bool := false
  response : Option (List Byte) := none
  /-- In-band interrupts raised. -/
  ibis : Nat := 0
  deriving DecidableEq, Repr

/-- A message sent by a transport: a dictionary response on an endpoint other than a mailbox and I3C. -/
structure DictOut where
  ep : Endpoint
  /-- Destination MAC of a 10BASE-T1S frame; 0 otherwise. -/
  mac : Nat
  bytes : List Byte
  deriving DecidableEq, Repr

/-- A request that has arrived and that Askar has not yet begun (R62, R76). -/
structure Arrived where
  ep : Endpoint
  mac : Nat
  broadcast : Bool
  bytes : List Byte
  deriving DecidableEq, Repr

/-- The dictionary. -/
structure Dict where
  sessions : List Session := []
  /-- The next session ID to issue (R48), in the always-on island. -/
  nextId : Nat := 1
  /-- Locked-out endpoints of R53 (as endpoint groups) and when each lockout ends. -/
  lockouts : SMap Nat := []
  clampSeq : Nat := 0
  clampTotal : Nat := 0
  /-- Up to 16 clamp records, newest first, with the session that made each (R60). -/
  clampRecs : List (Nat × List Byte) := []
  /-- Values of RW objects and of counters: key 256 × index + sub; an object not listed has its table's default. -/
  nums : SMap Nat := []
  mailboxes : SMap Mailbox := []
  waiting : List Arrived := []
  i3c : I3c := {}
  out : List DictOut := []
  /-- When each kind of ignored input was last logged: key 256 × index + sub, value the 1 s interval (R79). -/
  ignLogged : SMap Nat := []
  /-- Running commands whose session has ended (R51). -/
  orphans : List Running := []
  /-- CMD objects whose command is running (R63), with the session that runs it: key index. -/
  busy : SMap Nat := []
  /-- Status and payload with which the last dictionary command or CMD operation ended. -/
  result : Nat × List Byte := (0, [])
  deriving DecidableEq, Repr

/-- The two variants (R1, R13). -/
inductive Variant | qx4 | qx4p
  deriving DecidableEq, Repr

/-- What is fused or fixed in the part (R80, R22, R514, R544). -/
structure Part where
  variant : Variant := .qx4
  partNumber : List Byte := []
  serial : Nat := 0
  /-- Disabled columns: key 36 × die + row, the lower and the higher (R22). -/
  skip : SMap (Nat × Nat) := []
  stepCdie : SMap Nat := []
  stepBdie : SMap Nat := []
  stepIod : Nat := 0
  /-- FEATURES of each B-die (agents 4 to 7) and of the IOD (agent 8) (R39, R323). -/
  features : SMap Nat := []
  /-- SHA-384 of the ROOT key (R514). -/
  rootHash : BitVec 384 := 0
  /-- Fused TRIP_T in 0.1 °C (R544). -/
  tripT : Nat := 1150
  deviceIdCert : List Byte := []
  deriving DecidableEq, Repr

end Sys2Proof.Machine
end

