-- ==== Sys2Proof/Machine/AskarState.lean ====
section
/-! DEFINITION. The state of Askar (chapter 17): time base, sensors, power reports, event log, watermarks, alerts,
firmware, keys, sealed region, life cycle, tamper and attestation. -/
namespace Sys2Proof.Machine

/-- Whether Askar serves requests (R76): running, updating, restarting, or in recovery (R507). -/
inductive AskarRun | serving | updating | restarting | recovery
  deriving DecidableEq, Repr

/-- An event-log record less its SEQ and TIME_NS (R494). -/
structure LogBody where
  index : Nat
  sub : Nat
  sev : Nat
  ctx : Nat := 0xFFFF
  part : Nat := 0xFF
  die : Nat := 0xFF
  payload : List Byte := []
  deriving DecidableEq, Repr

/-- An event-log record (R494). -/
structure LogRec where
  seq : Nat
  time : Nat
  body : LogBody
  deriving DecidableEq, Repr

/-- A watermark (R498, R501); its level, hysteresis and COUNT are dictionary values. -/
structure Wm where
  crossed : Bool := false
  live : Bool := false
  lastNotice : Option Nat := none
  /-- A crossing waits for its notice (R501). -/
  due : Bool := false
  deriving DecidableEq, Repr

/-- The seven averages of a power report (R491). -/
structure PwrReport where
  peak100us : Nat := 0
  peak1ms : Nat := 0
  peak10ms : Nat := 0
  peak1s : Nat := 0
  avg1ms : Nat := 0
  avg1s : Nat := 0
  avg60s : Nat := 0
  deriving DecidableEq, Repr

/-- An entity's power: its report and the 10 µs samples of the last 60 s, newest first (R491). -/
structure PwrEntity where
  report : PwrReport := {}
  samples : List Nat := []
  deriving DecidableEq, Repr

/-- FW_STATE (R508). -/
inductive FwState | idle | staged | verified | trial
  deriving DecidableEq, Repr

/-- Firmware slots and the update in progress (R505 to R509). -/
structure Firmware where
  /-- The active slot: 0 A, 1 B. -/
  active : Nat := 0
  /-- The slot Askar runs from. -/
  running : Nat := 0
  st : FwState := .idle
  reason : Nat := 0
  slotA : List Byte := []
  slotB : List Byte := []
  rollback : Nat := 0
  /-- Time at which the trial was activated. -/
  trialAt : Nat := 0
  /-- The flash supports what R505 asks. -/
  flashOk : Bool := true
  /-- `activate` has answered, and Askar has yet to restart into the staged slot. -/
  activating : Bool := false
  deriving DecidableEq, Repr

/-- Life-cycle states (R519). -/
inductive LcState | blank | provisioned | deployed | service | rma | decommissioned
  deriving DecidableEq, Repr

/-- Keys, provisioning, the sealed region, the life cycle, tamper and attestation (R514 to R524). -/
structure Security where
  lc : LcState := .blank
  /-- Fuse entries not yet burned. -/
  entriesLeft : Nat := 64
  owner : Option (List Byte) := none
  expert : Option (List Byte) := none
  nonce : Option Nonce := none
  /-- Contents of the sealed slots; an empty slot is not listed. -/
  sealed : SMap (List Byte) := []
  tamperLatch : Nat := 0
  tamperCount : Nat := 0
  /-- Compute is stopped by TAMPER_ACTION 1 until package reset (R522). -/
  tamperStop : Bool := false
  challenge : List Byte := []
  /-- A report is being produced (R524). -/
  attestBusy : Bool := false
  report : List Byte := []
  aliasCert : List Byte := []
  deriving DecidableEq, Repr

/-- Askar. -/
structure Askar where
  run : AskarRun := .restarting
  timeNs : Nat := 0
  nextSeq : Nat := 0
  /-- The retention buffer, oldest first (R496). -/
  log : List LogRec := []
  /-- The hardware event queue, oldest first, with the time of each event. -/
  hwQueue : List (Nat × LogBody) := []
  flash : List LogRec := []
  /-- Records still to be copied to flash. -/
  toFlash : List LogRec := []
  wms : SMap Wm := []
  alerts : Nat := 0
  alertPin : Bool := false
  /-- Thermal sensors in 0.1 °C; none where the reading is not valid (R490). -/
  temps : SMap Int := []
  volts : SMap Nat := []
  currs : SMap Nat := []
  pwr : SMap PwrEntity := []
  pwrRail : SMap PwrEntity := []
  pwrPart : SMap PwrEntity := []
  fanDuty : Nat := 10000
  fw : Firmware := {}
  lastRestart : Nat := 0
  /-- Times of watchdog restarts of the last 60 s (R510). -/
  watchdogs : List Nat := []
  /-- The watchdog has already switched slots once (R510). -/
  otherTried : Bool := false
  bootCount : Nat := 0
  sec : Security := {}
  deriving DecidableEq, Repr

end Sys2Proof.Machine
end

