-- ==== Sys2Proof/Machine/CoreState.lean ====
section
/-! DEFINITION. The state of the compute cores, their tile memory, the Lath mesh and the retention of sections
(chapters 03 to 07). -/
namespace Sys2Proof.Machine

/-- The state of a thread-group slot (R85), in the order of TG_STATUS.SLOT_STATE (R132). -/
inductive SlotState
  | free | loaded | ready | waitDep | waitMem | waitBar | waitYield | ended
  deriving DecidableEq, Repr

/-- One entry of a reconvergence stack (R87): the stacked threads, the reconvergence address, and where the stacked
threads run from. `arrived` is false while the other side of the branch runs; once the entry is popped it becomes true
and `mask` then holds the threads that have reached `addr` and wait for the union (notes/assumptions/17.md). -/
structure Reconv where
  mask : W32
  addr : Nat
  resume : Nat
  arrived : Bool
  deriving DecidableEq, Repr

/-- The exception record of a stopped thread group (R126). -/
structure ExcRecord where
  code : Nat
  slot : Nat
  gb : Nat
  inLong : Bool
  laneMask : W32
  pc : Nat
  address : Nat
  step : Nat
  coreRef : Nat
  deriving DecidableEq, Repr

/-- PROG_STATE but for AUX (R131). -/
structure ProgState where
  step : Nat := 0
  op : Nat := 0
  fmt : Nat := 0
  valid : Bool := false
  deriving DecidableEq, Repr

/-- A long instruction in execution: its word and the next step (R127, R134). -/
structure LongRun where
  word : W64
  step : Nat
  deriving DecidableEq, Repr

/-- One of the 16 thread-group slots of a core (R82, R85, R105, R106, R131, R132). -/
structure Slot where
  st : SlotState := .free
  ctx : Nat := 0
  mask : W32 := 0
  stack : List Reconv := []
  pc : Nat := 0
  s : SMap W64 := []
  /-- Vector registers: key 32 × register + lane. -/
  v : SMap W32 := []
  coreMode : W32 := 0
  flags : W32 := 0
  prog : ProgState := {}
  resuming : Bool := false
  /-- PROG_STATE.AUX: cycles left in WAIT_YIELD (R147). -/
  aux : Nat := 0
  gb : Nat := 0
  exc : Option ExcRecord := none
  long : Option LongRun := none
  /-- A tile-boundary stop has been taken (R148) or a stop request has reached the slot (R129). -/
  stopped : Bool := false
  deriving DecidableEq, Repr

/-- A barrier unit with its group block (R89 to R91) and the accumulator region the plan gives the block (R122). -/
structure Barrier where
  inUse : Bool := false
  expected : Nat := 0
  arrived : Nat := 0
  accBase : Nat := 0
  accLen : Nat := 0
  deriving DecidableEq, Repr

/-- One 64-byte line of the L1 data cache, keyed by global sector number (R83): valid and dirty byte masks. -/
structure L1Line where
  valid : W64 := 0
  dirty : W64 := 0
  data : List Byte := []
  poison : Bool := false
  /-- The virtual address and context it was reached by, and the attributes its write-back carries (R145, R183). -/
  va : Nat := 0
  ctx : Nat := 0
  near : Bool := false
  hint : Nat := 0
  scratch : Bool := false
  bwClass : Nat := 0
  deriving DecidableEq, Repr

/-- What one lane of an outstanding load takes from the returned sector. -/
structure LoadPart where
  lane : Nat
  reg : Nat
  off : Nat
  size : Nat
  signed : Bool
  deriving DecidableEq, Repr

/-- An atomic's operation: code of R119, size in bytes, operand and comparand (R119, R174). -/
structure AtomOp where
  op : Nat
  size : Nat
  operand : Nat
  comparand : Nat
  deriving DecidableEq, Repr

/-- An outstanding load past the L1, or an atomic awaiting its old value (R97, R174), with the request it makes of the
UC layer. -/
structure Load where
  id : Nat
  slot : Nat
  va : Nat
  pc : Nat
  uncached : Bool
  atom : Option AtomOp
  parts : List LoadPart
  req : UcReq
  deriving DecidableEq, Repr

/-- Where a store past the L1 is acknowledged (R144). -/
inductive HomeScope | thisDevice | otherDevice | host
  deriving DecidableEq, Repr

/-- An outstanding store or write-back past the L1 (R97, R144), with the request it makes of the UC layer. -/
structure StoreOut where
  id : Nat
  slot : Nat
  scope : HomeScope
  req : UcReq
  deriving DecidableEq, Repr

/-- A word in the landing buffer: a sector of bank D with its bytes (R153). -/
structure Landing where
  sector : Nat
  data : List Byte
  poison : Bool
  deriving DecidableEq, Repr

/-- A cached translation of one 64 KiB granule with its window attributes (R181, R183, R184). -/
structure Xlat where
  ctx : Nat
  granule : Nat
  /-- Global address bits [63:16] of the granule. -/
  page : Nat
  read : Bool
  write : Bool
  exec : Bool
  near : Bool
  hint : Nat
  scratch : Bool
  l1Uncached : Bool
  atomicOk : Bool
  noWrite : Bool
  bwClass : Nat
  deriving DecidableEq, Repr

/-- One compute core (R82). -/
structure Core where
  slots : SMap Slot := []
  barriers : SMap Barrier := []
  acc : SMap W32 := []
  l1d : SMap L1Line := []
  /-- Sectors held by the L1 instruction cache. -/
  l1i : List Nat := []
  loads : List Load := []
  stores : List StoreOut := []
  nextId : Nat := 0
  xlat : List Xlat := []
  tile : Memory := []
  /-- Poisoned sectors of tile memory (offset / 64), R158. -/
  poison : List Nat := []
  landing : List Landing := []
  /-- Corrected sectors waiting for an idle cycle of their bank (R158). -/
  eccPending : List Nat := []
  /-- The slot that last issued to each of the five pipes (R95). -/
  lastIssue : SMap Nat := []
  /-- The context whose work the core holds, if any (R155, R169). -/
  owner : Option Nat := none
  deriving DecidableEq, Repr

/-- A Lath word with its sideband (R190). -/
structure LathWordData where
  data : List Byte
  sector : Nat
  mc : Bool
  group : Nat
  poison : Bool
  deriving DecidableEq, Repr

/-- A word travelling to a router input or to a landing buffer, with the Lath cycle it is there (R191). -/
structure LathFlight where
  core : Nat
  port : LathPort
  cycle : Nat
  word : LathWordData
  deriving DecidableEq, Repr

/-- The slot table, injection list and injection queue of one router (R192 to R194). -/
structure LathRouter where
  ctx : Nat := 0
  tableLen : Nat := 0
  table : SMap W32 := []
  injList : List W32 := []
  /-- The entries of the injection list that have been read (R194). -/
  injPos : Nat := 0
  queue : List LathWordData := []
  deriving DecidableEq, Repr

/-- The Lath schedule of a context's launch (R192, R199, R472). -/
structure LathSched where
  running : Bool := false
  /-- Lath cycles since the start of the schedule. -/
  k : Nat := 0
  /-- The cycle k_s at which the schedule stopped, if it is stopped. -/
  stoppedAt : Option Nat := none
  deriving DecidableEq, Repr

/-- The Lath meshes of the four C-dies. -/
structure Lath where
  routers : SMap LathRouter := []
  scheds : SMap LathSched := []
  flight : List LathFlight := []
  /-- Words to a core that were saved at a stop (R472): key context. -/
  savedFlight : SMap (List LathFlight) := []
  /-- Pinned latency P of each die (R198). -/
  p : SMap Nat := []
  /-- Multicast groups in use: key 64 × die + group, value the context (R197). -/
  groups : SMap Nat := []
  deriving DecidableEq, Repr

/-- The retention state of a section (R162). -/
inductive RetState | active | entering | retained | waking
  deriving DecidableEq, Repr

/-- An access through the tile window held until its section is active (R165). -/
structure HeldTile where
  addr : Nat
  write : Option (List (Bool × Byte))
  deriving DecidableEq, Repr

/-- Retention of the 144 device sections (R162 to R165). -/
structure Retention where
  st : SMap RetState := []
  /-- Sections asked to wake and not yet begun, in increasing number (R164). -/
  wakeQueue : List Nat := []
  held : List HeldTile := []
  deriving DecidableEq, Repr

/-- The retention state of a section. -/
def Retention.get (r : Retention) (sec : Nat) : RetState := sget .active r.st sec

end Sys2Proof.Machine
end

