-- ==== Sys2Proof/Machine/HbmState.lean ====
section
/-! DEFINITION. The state of the HBM4 memory (chapter 10): cells, channel queues, throttle steps, redirect tables and
reservations. -/
namespace Sys2Proof.Machine

/-- A sector read waiting in a channel's read queue (R287): the row it reads and the MSHR it answers. -/
structure HbmRd where
  slice : Nat
  /-- Local address of the sector. -/
  addr : Nat
  part : Nat
  reserved : Bool
  /-- Arrival number at the controllers (R287). -/
  seq : Nat
  deriving DecidableEq, Repr

/-- A whole-sector write waiting in a channel's write queue (R287). -/
structure HbmWr where
  slice : Nat
  addr : Nat
  data : List Byte
  poison : Bool
  part : Nat
  reserved : Bool
  seq : Nat
  deriving DecidableEq, Repr

/-- The two queues of a channel (R287). -/
structure HbmChan where
  rq : List HbmRd := []
  wq : List HbmWr := []
  /-- Fetches that wait in their MSHRs and writes held at the inbound write-back path, oldest first (R287, R291). -/
  rHeld : List HbmRd := []
  wHeld : List HbmWr := []
  /-- Rows the patrol scrub of this channel has read in this pass (R299). -/
  scrubbed : Nat := 0
  deriving DecidableEq, Repr

/-- One stack: reported temperature (none: STACK_TEMP reads -32,768), step, and consecutive invalid readings (R290). -/
structure Stack where
  temp : Option Int := none
  step : Nat := 0
  invalid : Nat := 0
  /-- In the held step entered at the fourth invalid reading (R290). -/
  holdStep : Bool := false
  deriving DecidableEq, Repr

/-- A valid redirect entry (R293). -/
structure Redirect where
  firmware : Bool
  prio : Nat
  span : Nat
  pending : Bool
  bank : Nat
  row : Nat
  deriving DecidableEq, Repr

/-- The token bucket of a reservation (R304): tokens in bytes, and when they were last brought up to date. -/
structure Bucket where
  tokens : Nat := 0
  at_ : Nat := 0
  deriving DecidableEq, Repr

/-- The HBM4 memory. -/
structure Hbm where
  /-- Cells by physical location: 1,024 × row key + column, row key as `rowKey` packs it. -/
  cells : Memory := []
  /-- Poisoned sectors: physical location / 64. -/
  poison : List Nat := []
  chans : SMap HbmChan := []
  stackOf : SMap Stack := []
  /-- Redirect entries: key 64 × (32 × stack + channel) + entry number. -/
  redirect : SMap Redirect := []
  /-- The pending-repair list in flash: row keys (R295). -/
  ppr : List Nat := []
  /-- Times of corrected reads per row key, for ROW_CE_WINDOW_S (R295). -/
  ceTimes : SMap (List Nat) := []
  /-- Reservations in bytes/s: key 4 × partition + B-die (R303). -/
  res : SMap Nat := []
  buckets : SMap Bucket := []
  nextSeq : Nat := 0
  deriving DecidableEq, Repr

end Sys2Proof.Machine
end

