-- ==== Sys2Proof/Machine/HostState.lean ====
section
/-! DEFINITION. The state of the host interface (chapter 13): link, functions, doorbell pages, rings and interrupts. -/
namespace Sys2Proof.Machine

/-- STATE of a ring (R384). -/
inductive RingState | disabled | enabled | halted
  deriving DecidableEq, Repr

/-- A command entry that has been fetched (R391), and whether it has started. -/
structure RingCmd where
  bytes : List Byte
  started : Bool
  /-- DMA_COPY: bytes committed so far. WAIT: last value read. -/
  detail : Nat
  deriving DecidableEq, Repr

/-- A completion that waits to be written (R394): the command, its status, reason and detail. -/
structure Completion where
  tag : Nat
  status : Nat
  reason : Nat
  opcode : Nat
  detail : Nat
  int : Bool
  deriving DecidableEq, Repr

/-- The rings of one context (R389 to R394). -/
structure Ring where
  st : RingState := .disabled
  fn : Fn := .pf
  cmdBase : Nat := 0
  cmdLog2 : Nat := 6
  cplBase : Nat := 0
  cplLog2 : Nat := 6
  vector : Nat := 16
  coalesceNs : Nat := 0
  cmdHead : Nat := 0
  cmdTail : Nat := 0
  cplHead : Nat := 0
  cplTail : Nat := 0
  phase : Bool := true
  fetched : List RingCmd := []
  done : List Completion := []
  /-- A completion has been written without an interrupt, and COALESCE_NS runs (R397). -/
  coalescing : Bool := false
  /-- A disable waits for its completion entries (R389). -/
  disabling : Bool := false
  deriving DecidableEq, Repr

/-- One MSI-X table entry with its pending bit (R397). -/
structure MsixEntry where
  addr : Nat := 0
  data : Nat := 0
  masked : Bool := true
  pending : Bool := false
  deriving DecidableEq, Repr

/-- The VF_MAP row of a VF (R387, R388). -/
structure VfMap where
  part : Nat := 64
  apBase : Nat := 0
  apBytes : Nat := 0
  deriving DecidableEq, Repr

/-- A device-to-host request awaiting its completion (R398). -/
structure HostReq where
  tag : Nat
  fn : Fn
  addr : Nat
  /-- The context whose access it is; none for a request not tied to a context. -/
  ctx : Option Nat
  read : Bool
  /-- The UC requester that is answered, with its transaction and the global address asked for. -/
  forWhom : Option (Agent × Nat × Nat) := none
  deriving DecidableEq, Repr

/-- What is reported through AER or the CXL RAS capability (R560). -/
inductive Aer
  | correctedInternal | uncorrectedInternal | unsupportedRequest | completerAbort | completionTimeout | poisonedTlp
  | memDataEcc | cacheDataEcc
  deriving DecidableEq, Repr

/-- A message to the host: a posted write or an MSI-X message (R378, R397). -/
inductive HostOut
  | write (fn : Fn) (addr : Nat) (data : List Byte) (poison : Bool)
  | read (fn : Fn) (tag addr len : Nat)
  | msix (fn : Fn) (vector : Nat)
  | completion (fn : Fn) (tag : Nat) (status : Nat) (data : List Byte)
  | aer (fn : Fn) (what : Aer)
  | cxl (req : Nat) (addr : Nat) (data : List Byte) (poison : Bool)
  deriving DecidableEq, Repr

/-- A back-invalidate in progress for agent 20 (R403). -/
structure BiSnoop where
  line : Nat
  near : Bool
  op : BOp
  left : Nat
  dirty : BitVec 16
  spoison : BitVec 16 := 0
  data : Memory
  deriving DecidableEq, Repr

/-- A line that agent 20 holds or has asked for (R403): the hold of R263, a snoop deferred by it, and the host read
that waits. -/
structure Agent20 where
  /-- 1 shared, 2 exclusive or modified; 0 asked for only. -/
  st : Nat := 0
  hold : Bool := false
  deferred : Option (BOp × BMsg) := none
  /-- Offset in the line and tag of the host read that waits. -/
  read : Option (Nat × Nat) := none
  deriving DecidableEq, Repr

/-- The host interface. -/
structure HostIf where
  linkUp : Bool := false
  gen : Nat := 0
  width : Nat := 0
  flit : Bool := false
  cxlActive : Bool := false
  /-- CXL_ENABLE as it stood at the last package reset (R400). -/
  cxlLatched : Bool := false
  /-- PERST_N is deasserted (R379). -/
  perstHigh : Bool := false
  /-- Functions in D3hot: key 0 the PF, 1 + n VF n (R381). -/
  d3hot : List Nat := []
  vfEnable : Bool := false
  /-- Size of VF BAR2 in bytes (R383). -/
  vfBar2Bytes : Nat := 17179869184
  /-- Size of PF BAR2 in bytes (R382). -/
  pfBar2Bytes : Nat := 549755813888
  vfMap : SMap VfMap := []
  rings : SMap Ring := []
  /-- MSI-X tables: key 2,048 × function key + vector. -/
  msix : SMap MsixEntry := []
  reqs : List HostReq := []
  nextTag : Nat := 0
  out : List HostOut := []
  bi : List BiSnoop := []
  /-- Lines of agent 20 by global line number (R403). -/
  agent20 : SMap Agent20 := []
  /-- CXL.cache answers still awaited per proxy line: line number and how many (R402). -/
  cxlWait : SMap Nat := []
  deriving DecidableEq, Repr

end Sys2Proof.Machine
end

