-- ==== Sys2Proof/Machine/LinkState.lean ====
section
/-! DEFINITION. The state of the Helda links (chapter 11) and of Carrak Link (chapter 12). -/
namespace Sys2Proof.Machine

/-- State of a Helda link end (R332), in the order of LINK_STATE. -/
inductive HeldaState | off | training | negotiating | active | retrain | down | disabled
  deriving DecidableEq, Repr

/-- A message kept in a resend store until its credits return (R315). -/
structure HeldaMsg where
  num : Nat
  cls : Nat
  units : List (List Byte)
  /-- Units whose credits have returned. -/
  returned : Nat := 0
  deriving DecidableEq, Repr

/-- One end of a Helda link: key 2 × link + side, side 0 the lower agent number. -/
structure HeldaEnd where
  st : HeldaState := .off
  reason : Nat := 0
  modules : Nat := 0
  attempts : Nat := 0
  capSent : Bool := false
  capRecv : Option Cap := none
  commit : Option CapCommit := none
  expiries : Nat := 0
  /-- Credits held, per class (R314). -/
  credits : SMap Nat := []
  /-- Credits the receiver here has advertised and not seen used, per class. -/
  granted : SMap Nat := []
  resend : List HeldaMsg := []
  sent : Nat := 0
  received : Nat := 0
  /-- Units of the message now arriving, per class (R311). -/
  partialMsg : SMap (List (List Byte)) := []
  /-- A recovery exchange is running (R335). -/
  recovering : Bool := false
  /-- Traffic held during RETRAIN (R333). -/
  held : List HeldaMsg := []
  retrainAt : Nat := 0
  deriving DecidableEq, Repr

/-- A power agent on Helda (R329 to R331): agents 4 to 9. -/
structure PowerAgent where
  temp : Option Int := none
  grantMw : Nat := 0
  demandSeq : Nat := 0
  lastDemand : DemandBody := ⟨0, 0, 0, 0, false⟩
  /-- Periods since the last GRANT (R330). -/
  missed : Nat := 0
  /-- Keeping within SAFE_POWER_MW (R330). -/
  safeOnly : Bool := false
  budget : Bool := false
  thermal : Bool := false
  safePowerMw : Nat := 0
  maxPowerMw : Nat := 0
  deriving DecidableEq, Repr

/-- Site P as the device sees it (R80, R324, R326). -/
structure SiteP where
  /-- 0 EMPTY, 1 NEGOTIATING, 2 IO_ONLY, 3 CACHING, 4 FAILED. -/
  st : Nat := 0
  reason : Nat := 0
  coherence : Nat := 0
  vendor : Nat := 0
  product : Nat := 0
  stepping : Nat := 0
  version : Nat := 0
  deriving DecidableEq, Repr

/-- The Helda links. -/
structure Helda where
  ends : SMap HeldaEnd := []
  agents : SMap PowerAgent := []
  siteP : SiteP := {}
  /-- Messages delivered to the protocol layer, oldest first: end, class, units. -/
  delivered : List (Nat × Nat × List (List Byte)) := []
  /-- FEATURE_SET as start-up left it (R39, R323). -/
  featureSet : Nat := 0
  /-- B-dies declared lost (R336). -/
  lost : List Nat := []
  /-- Next SEQ of a management message: key 16 × sender + destination (R317). -/
  seqs : SMap Nat := []
  deriving DecidableEq, Repr

/-- State of a Carrak Link port (R354), in the order of PORT_STATE. -/
inductive PortState | off | training | hello | active | retrain | down | disabled
  deriving DecidableEq, Repr

/-- What a port knows of its peer (R355). -/
structure Peer where
  serial : Nat
  port : Nat
  id : Nat
  idState : Nat
  dimRank : Nat
  dateline : Bool
  deriving DecidableEq, Repr

/-- A packet on Carrak Link: the Scrim packet and header bytes 27 to 30 (R347). -/
structure LinkPkt where
  pkt : ScrimPkt
  srcDev : Nat
  dstDev : Nat
  hops : Nat
  set : Nat
  deflected : Bool
  deriving DecidableEq, Repr

/-- A steward request awaiting its answer (R369). -/
structure StewardReq where
  give : Bool
  nonce : Nat
  session : Nat
  deriving DecidableEq, Repr

/-- One port. -/
structure Port where
  st : PortState := .off
  reason : Nat := 0
  lanes : Nat := 0
  usable : Nat := 8
  peer : Option Peer := none
  helloSentEcho : Bool := false
  helloRecv : Option HelloFlit := none
  dimRank : Nat := 0
  dateline : Bool := false
  /-- Credits held: key 2 × VC + set (R350). -/
  credits : SMap Nat := []
  /-- Credits advertised and not yet used by the peer. -/
  granted : SMap Nat := []
  txSeq : Nat := 0
  rxExpected : Nat := 0
  /-- Unacknowledged data flits: SEQ and payload (R351). -/
  replay : List (Nat × List Byte) := []
  /-- A NAK is outstanding and is repeated every 2 µs (R351). -/
  nakOut : Bool := false
  nakSeq : Nat := 0
  nakCount : Nat := 0
  /-- Bytes of the packet stream not yet forming a whole packet (R347). -/
  rxStream : List Byte := []
  /-- FEC corrected, FEC uncorrected, CRC errors, replays, retrains, downs, recoveries, protocol errors (R375). -/
  counters : SMap Nat := []
  sentPkts : Nat := 0
  recvPkts : Nat := 0
  /-- Packets sent and not yet known received: number and packet (R357). -/
  unacked : List (Nat × LinkPkt) := []
  steward : Bool := false
  stewardReq : Option StewardReq := none
  backoff : Bool := false
  /-- Outstanding transactions that left through this port: TXN_ID and device (R353). -/
  txns : List (Nat × Nat) := []
  /-- Packets held for the port's group (R353, R356). -/
  held : List LinkPkt := []
  deriving DecidableEq, Repr

/-- ID_STATE (R359). -/
inductive IdState | none | claiming | held | conflict
  deriving DecidableEq, Repr

/-- A row of ROUTE_TABLE (R363, R375). -/
structure Route where
  dist : Nat
  primary : Option Nat
  alt : Option Nat
  deflecting : Bool
  deriving DecidableEq, Repr

/-- A Craze run (R372, R373). -/
structure CrazeRun where
  helda : Bool
  index : Nat
  dir : Nat
  kinds : Nat
  rateLog2 : Nat
  seed : Nat
  durationMs : Nat
  deriving DecidableEq, Repr

/-- A dictionary request sent to another device and not yet answered (R75). -/
structure RemoteReq where
  device : Nat
  /-- The header of the request. -/
  head : List Byte
  deriving DecidableEq, Repr

/-- A flit put on a link, other than an idle flit (R345, R346). -/
inductive LinkOut
  | data (port seq : Nat) (payload : List Byte)
  | nak (port seq : Nat)
  | hello (port : Nat) (f : HelloFlit)
  deriving DecidableEq, Repr

/-- Carrak Link. -/
structure Carrak where
  ports : SMap Port := []
  idState : IdState := .none
  deviceId : Nat := 0
  /-- AUTO claims that lost and wait out their random delay (R361). -/
  reclaim : Bool := false
  bootCount : Nat := 0
  lsaSeq : Nat := 0
  lsas : List LsaBody := []
  routes : SMap Route := []
  /-- The LSA set has changed since the last recomputation (R363). -/
  stale : Bool := false
  /-- Device IDs other devices hold that this device treats as unreachable (R361, R367). -/
  unreachable : List Nat := []
  craze : Option CrazeRun := none
  /-- Expiry of the Craze grant on the Askar time base (R374). -/
  crazeGrant : Option Nat := none
  /-- The contents of that grant (R46, R517). -/
  crazeBytes : List Byte := []
  remoteReqs : List RemoteReq := []
  /-- Flits put on links, oldest first. -/
  out : List LinkOut := []
  /-- The nonce of the next STEWARD_REQ (R348). -/
  nonce : Nat := 0
  /-- HOME_STATE of the last loss notice seen: key 4 × serial + B-die (R348). -/
  lossSeen : SMap Nat := []
  /-- Packets consumed here that no other part of the model takes up, oldest first. -/
  delivered : List ScrimPkt := []
  deriving DecidableEq, Repr

end Sys2Proof.Machine
end

