-- ==== Sys2Proof/Machine/NetState.lean ====
section
/-! DEFINITION. The state of Scrim (chapter 07): the QoS classifier and the packets waiting in routers. -/
namespace Sys2Proof.Machine

/-- Outputs of a Scrim router (R201, R207). -/
inductive ScrimOut | n | s | e | w | up | down | helda (link : Nat) | here
  deriving DecidableEq, Repr

/-- A packet waiting at an output of a router (R208). -/
structure ScrimWait where
  node : Nat
  out : ScrimOut
  pkt : ScrimPkt
  /-- Served in tier 2 (R208). -/
  promoted : Bool
  deriving DecidableEq, Repr

/-- One QoS classifier entry, 16 bytes (R209). -/
structure ClsEntry where
  base : Nat := 0
  lines : Nat := 0
  part : Nat := 0
  anyPart : Bool := false
  valid : Bool := false
  src : Nat := 0
  cls : Nat := 0
  prio : Nat := 0
  deriving DecidableEq, Repr

/-- Scrim: the classifier and the waiting packets. -/
structure Scrim where
  cls : SMap ClsEntry := []
  waiting : List ScrimWait := []
  /-- Packets consumed at their destinations, oldest first. -/
  delivered : List (Nat × ScrimPkt) := []
  deriving DecidableEq, Repr

end Sys2Proof.Machine
end

