-- ==== Sys2Proof/Machine/PowerState.lean ====
section
/-! DEFINITION. The state of power, clocks, reset and start-up (chapters 18 and 20) and of errors (chapter 19). -/
namespace Sys2Proof.Machine

/-- RAIL_STATE (R527). -/
inductive RailState | off | inRange | fault
  deriving DecidableEq, Repr

/-- DOMAIN_STATE (R529 to R533). -/
inductive DomainState | off | queued | ramping | paused | on | retained | latchedShort | latchedSlow
  deriving DecidableEq, Repr

/-- READY_STATE (R81). -/
inductive ReadyState
  | reset | askarBoot | powerUp | hbmTrain | heldaTrain | controlBoot | hostUp | ready | degraded | failed
  deriving DecidableEq, Repr

/-- A domain: its state, and whether the C-die's loss gates it off when its ramp is done (R533). -/
structure Domain where
  st : DomainState := .off
  /-- Short detection runs on this domain (R532). -/
  detecting : Bool := false
  /-- It is to be gated off when its ramp completes (R533, class 0). -/
  gateAfter : Bool := false
  deriving DecidableEq, Repr

/-- The clamp, vertical throttle and ceiling of one C-die, and what its sections run at (R539 to R542). -/
structure CdieClock where
  clamp : Bool := false
  vtLevel : Nat := 0
  ceilingMhz : Nat := 1600
  /-- Duty of VSET_CDIE n in 1/1,024 (R577). -/
  vset : Nat := 512
  deriving DecidableEq, Repr

/-- Output pins (chapter 20). -/
structure Pins where
  pwrGood : Bool := false
  throttleReq : Bool := false
  deriving DecidableEq, Repr

/-- Power, clocks, reset and start-up. -/
structure Power where
  ready : ReadyState := .reset
  readyTimeNs : Nat := 0
  readyReason : Nat := 0
  /-- The first cause that this start-up found for a degraded start (R552). -/
  startCause : Nat := 0
  /-- OUT_OF_SERVICE (R80). -/
  oos : W32 := 0
  stageEntry : SMap Nat := []
  /-- Time of the start of start-up, and of PERST_N deassertion. -/
  startAt : Nat := 0
  perstAt : Nat := 0
  rails : SMap RailState := []
  domains : SMap Domain := []
  /-- The burst store, in nanojoules (mW × µs) (R537). -/
  store : Nat := 5000000000
  /-- Grants in force, by agent, in mW (R538). -/
  grants : SMap Nat := []
  cdie : SMap CdieClock := []
  ccClamp : Bool := false
  /-- Control cores out of service (R533, R547). -/
  ccOut : List Nat := []
  /-- Cores whose island clock is held stopped (R547). -/
  coreStopped : List Nat := []
  refclk : Bool := true
  /-- A reference loss is being timed (R547). -/
  refclkOnOsc : Bool := false
  resetCause : Nat := 0
  /-- TEST_EN as last sampled (R583), the T1S node ID and the I3C instance ID of the straps (R578). -/
  testEn : Bool := false
  nodeId : Nat := 0
  strapI3c : Nat := 0
  tripCount : Nat := 0
  tripped : Bool := false
  pins : Pins := {}
  deriving DecidableEq, Repr

/-- A merged CORRECTED record of a source and its place (R557). -/
structure CeMerge where
  interval : Nat
  repeats : Nat
  deriving DecidableEq, Repr

/-- A pending injection: landing-buffer words of a core or data flits of a Scrim router (R567). -/
structure Inject where
  unit : Nat
  target : Nat
  kind : Nat
  left : Nat
  deriving DecidableEq, Repr

/-- Errors. -/
structure Errs where
  /-- Newest 32 records of classes 1 to 3, newest first, with their partition (R569). -/
  recs : List (List Byte) := []
  /-- Key 65,536 × SOURCE + INSTANCE. -/
  merges : SMap CeMerge := []
  /-- When Corrected Internal Error was last signalled (R558). -/
  ceSignalAt : Option Nat := none
  injects : List Inject := []
  /-- Stored sectors with an injected error still to be detected: (unit, key, kind). -/
  planted : List (Nat × Nat × Nat) := []
  deriving DecidableEq, Repr

end Sys2Proof.Machine
end

