-- ==== Sys2Proof/Machine/UcState.lean ====
section
/-! DEFINITION. The state of the unified cache and of Bezel (chapters 08 and 09): ways, MSHRs, held requests, home
trackers, directories and epochs. -/
namespace Sys2Proof.Machine

/-- The 5-bit STATE of a way (R254). -/
inductive LineState
  | i | s | e | o | m | eH | mH | isD | isDI | imAD | imA | imD | smAD | omA | miA | eiA | siA | home
  deriving DecidableEq, Repr

/-- OWN of the in-package directory entry (R255). -/
inductive Own | none | excl | o
  deriving DecidableEq, Repr

/-- The in-package directory entry of a home copy (R255). -/
structure DirIn where
  sharers : BitVec 22 := 0
  owner : Nat := 0
  own : Own := .none
  remote : Bool := false
  deriving DecidableEq, Repr

/-- One way of a slice (R219) with its data and, for a home copy, its directory entry (R255). -/
structure Way where
  /-- Global line number: device ID and address bits [55:10]. -/
  tag : Nat
  st : LineState
  svalid : BitVec 16 := 0
  sdirty : BitVec 16 := 0
  spoison : BitVec 16 := 0
  keep : Bool := false
  rrv : Nat := 0
  ctx : Nat := 0
  scr : Bool := false
  lock : Bool := false
  data : Memory := []
  dir : DirIn := {}
  near : Bool := false
  deriving DecidableEq, Repr

/-- One waiter of an MSHR (R232). -/
structure Waiter where
  dest : Agent
  txn : Nat
  sector : Nat
  hint : Nat
  scratch : Bool
  ctx : Nat := 0
  deriving DecidableEq, Repr

/-- A Bezel message with its opcode. -/
structure BPkt where
  op : BOp
  m : BMsg
  deriving DecidableEq, Repr

/-- An MSHR of a slice or of a control core's L2 (R231, R232, R262). -/
structure Mshr where
  line : Nat
  near : Bool
  ctx : Nat
  /-- The Bezel state of a line that has no way yet; `home` for a fill of a home copy from HBM. -/
  bz : LineState
  fetch : BitVec 16 := 0
  got : BitVec 16 := 0
  gotPoison : BitVec 16 := 0
  /-- Dirty mask received with the data (R260). -/
  gotDirty : BitVec 16 := 0
  data : Memory := []
  waiters : List Waiter := []
  /-- Hint and SCRATCH of every read that has merged here (R228, R230). -/
  hints : List (Nat × Bool) := []
  /-- A write that waits for its sector (R233). -/
  write : Option UcReq := none
  /-- An atomic on a host-window line that waits for ownership (R174, R402): its ATOM message. -/
  atom : Option BMsg := none
  txn : Nat := 0
  /-- Epoch of the home recorded for the transaction (R274). -/
  epoch : Option Nat := none
  deferred : Option BPkt := none
  /-- Every sector asked for is here and only a way is missing (R225). -/
  needWay : Bool := false
  deriving DecidableEq, Repr

/-- An evicted line in the write-back buffer: MI_A, EI_A or SI_A, or a home copy going to HBM (R236, R265). -/
structure Evict where
  line : Nat
  near : Bool
  st : LineState
  sdirty : BitVec 16
  spoison : BitVec 16
  data : Memory
  deriving DecidableEq, Repr

/-- Why a request is held at a slice (R234, R236). -/
inductive HeldFor | mshr | waiterPool | waiterLimit | victim | wbBuffer | tracker | line | flush
  deriving DecidableEq, Repr

/-- A held request (R234). -/
structure HeldReq where
  req : UcReq
  cause : HeldFor
  deriving DecidableEq, Repr

/-- The caching part of a slice or of a control core's L2. -/
structure Cache where
  /-- Keyed 16 × set + way in a slice; by line number in a control core's L2. -/
  ways : SMap Way := []
  mshrs : List Mshr := []
  evicts : List Evict := []
  held : List HeldReq := []
  deriving DecidableEq, Repr

/-- What a home tracker is for: a Bezel request; the recall of copies before a request of the home slice itself (R258);
the recall before a home copy is evicted (R256, R239), discarded (R228, R239) or its home quiesced (R275); and the recall
of what a directory entry tracks (R270). -/
inductive TrkKind | request | localReq | evict | discard | quiesce | dirEvict
  deriving DecidableEq, Repr
/-- A request that a home tracker serves (R257, R258, R265, R267). -/
structure Tracker where
  line : Nat
  near : Bool
  kind : TrkKind
  /-- The request; for a recall, READ_ONCE where owners keep a shared copy and WRITE_ONCE where nothing is kept. -/
  op : BOp
  /-- The requester. -/
  req : Agent
  txn : Nat
  ctx : Nat
  data : List Byte
  sectors : BitVec 16
  spoison : BitVec 16
  /-- The stage next begun: 0 remote snoops, 1 in-package snoops, 2 the request itself (R258). -/
  stage : Nat := 0
  /-- Snoops not yet answered. -/
  outs : List (Agent × BOp) := []
  /-- RSP_WBPEND came and the write-back is still to come (R265). -/
  wbPend : List Agent := []
  /-- The write-back came first and the RSP_WBPEND is still to be absorbed (R265). -/
  absorb : List Agent := []
  /-- The owner supplied the requester (FWD_DONE_*). -/
  served : Bool := false
  /-- GNT_ACKS is owed to the requester (FWD_GETM_AP was sent). -/
  ap : Bool := false
  /-- The requester's own copy is current when it is granted M. -/
  hadCopy : Bool := false
  awaitFill : Bool := false
  awaitDir : Bool := false
  /-- The requester has been completed. -/
  finished : Bool := false
  /-- COMP_ACK is still to come (R258, R267). -/
  awaitComp : Bool := false
  deriving DecidableEq, Repr
/-- One UC slice: cache, trackers and held home requests. -/
structure Slice where
  c : Cache := {}
  trackers : List Tracker := []
  homeHeld : List BPkt := []
  /-- The way the scrub read next visits. -/
  scrubNext : Nat := 0
  deriving DecidableEq, Repr

/-- MODE of a remote-sharer directory entry (R268). -/
inductive DirMode | pointers | vector | exclusive
  deriving DecidableEq, Repr

/-- A remote-sharer directory entry (R268); an empty one is not listed. -/
structure DirOut where
  line : Nat
  mode : DirMode
  ptrs : List Nat
  vec : W32
  deriving DecidableEq, Repr

/-- HOME_STATE (R275, R281). -/
inductive HomeState | online | quiescing | offline | lost
  deriving DecidableEq, Repr

/-- The home of one B-die (R268, R273, R275). -/
structure HomeDie where
  st : HomeState := .online
  epoch : Nat := 1
  /-- The remote-sharer directory cache, least recently allocated or updated first. -/
  dir : List DirOut := []
  deriving DecidableEq, Repr

/-- A once-request or atomic issued by a slice for a non-caching requester (R271, R274). -/
structure OnceTxn where
  agent : Agent
  /-- Who is answered when the reply comes. -/
  forWhom : Agent
  txn : Nat
  addr : Nat
  op : BOp
  epoch : Option Nat
  /-- TXN_ID of the message. -/
  id : Nat
  ctx : Nat := 0xFFFF
  deriving DecidableEq, Repr

/-- What a requester gets back from the UC layer: data, an acknowledgement or an error (R212, R276, R559). -/
structure UcReply where
  dest : Agent
  txn : Nat
  addr : Nat
  data : List Byte
  poison : Bool
  status : Nat
  deriving DecidableEq, Repr

/-- The coherent layer. -/
structure Uc where
  slices : SMap Slice := []
  cc : SMap Cache := []
  homes : SMap HomeDie := []
  /-- Epochs of remote homes as last seen: key 4 × device + B-die (R273). -/
  remoteEpochs : SMap Nat := []
  once : List OnceTxn := []
  /-- Bezel messages sent and not yet received, oldest first. -/
  sent : List BPkt := []
  /-- Answers to requesters, oldest first. -/
  replies : List UcReply := []
  nextTxn : Nat := 1
  /-- UC requests per B-die and partition since the last power sample: key 64 × B-die + partition (R492). -/
  reqCount : SMap Nat := []
  /-- Contexts whose lines are being flushed, with the mode: their requests are held (R239). -/
  flushing : List (Nat × Nat) := []
  /-- Slices that have walked every way in this scrub pass (R241). -/
  scrubbed : List Nat := []
  deriving DecidableEq, Repr

end Sys2Proof.Machine
end

