-- ==== Sys2Proof/Machine/WorkState.lean ====
section
/-! DEFINITION. The state of plans and launches (chapter 14), of the Plumb arrays (chapter 15) and of partitions and
contexts (chapter 16). -/
namespace Sys2Proof.Machine

/-- A loaded plan (R421): where its image lies, its origin and its multicast groups. The image itself stays in HBM. -/
structure Plan where
  addr : Nat
  bytes : Nat
  origin : Nat
  /-- Die groups in the order of the plan-local groups (R420). -/
  groups : List Nat
  /-- Device sections of its footprint (R411). -/
  sections : List Nat
  deriving DecidableEq, Repr

/-- One invocation of a launch: variant, actual extents and offsets of the four dimensions (R428). -/
structure Invocation where
  variant : Nat
  extents : List Nat
  offsets : List Nat
  deriving DecidableEq, Repr

/-- A DMA window of the running kernel (R416, R418). -/
structure DmaWin where
  /-- Core whose tile memory it serves, and the byte offset of its record in the image. -/
  core : Nat
  recOff : Nat
  /-- Transfer number next to start, and whether one is in flight. -/
  j : Nat
  active : Bool
  /-- Tile number t of the transfer next to start. -/
  t : Nat
  finished : Bool
  deriving DecidableEq, Repr

/-- A launch in progress (R427 to R429). -/
structure Launch where
  slot : Nat
  mode : Option Nat
  posBase : Nat
  extents : List Nat
  argVa : Nat
  args : List Nat
  invs : List Invocation
  inv : Nat
  kernel : Nat
  /-- A kernel is executing (R469). -/
  running : Bool
  dma : List DmaWin
  deriving DecidableEq, Repr

/-- An entry of a context's ticket table (R439, R440). -/
structure Ticket where
  seq : Nat
  st : Nat
  reason : Nat
  done : Nat
  deriving DecidableEq, Repr

/-- A descriptor known to a Plumb array (R441): queued, running or suspended. -/
structure PlbDesc where
  ctx : Nat
  part : Nat
  entry : Nat
  seq : Nat
  va : Nat
  /-- The 128 descriptor bytes, once it has started. -/
  bytes : List Byte
  started : Bool
  suspended : Bool
  nextProblem : Nat
  doneProblems : Nat
  flagged : Nat
  deriving DecidableEq, Repr

/-- A problem dealt to a lane (R441, R453), or suspended and waiting for one: its steps done, and what it has read. -/
structure PlbProblem where
  /-- 0 to 63; none while it is suspended (R437, R454). -/
  lane : Option Nat
  part : Nat
  ctx : Nat
  seq : Nat
  problem : Nat
  step : Nat
  /-- Input record, and what else it reads: the area that ASSEMBLE adds to, the camera deltas of BA_BACKSUB. -/
  input : List Byte
  aux : List Byte
  poisoned : Bool
  deriving DecidableEq, Repr

/-- One Plumb array (R434). -/
structure PlbArray where
  queue : List PlbDesc := []
  problems : List PlbProblem := []
  /-- Lanes per partition (R436). -/
  share : SMap Nat := []
  deriving DecidableEq, Repr

/-- States of a context (R466). -/
inductive CtxState | none | idle | ready | running | stopping | faulted | waiting
  deriving DecidableEq, Repr

/-- What a saved image holds (R473, CTX_STATUS). -/
inductive ImageKind | none | context | tile | instruction
  deriving DecidableEq, Repr

/-- A context fault record (R478). -/
structure FaultRec where
  cause : Nat := 0
  code : Nat := 0
  core : Nat := 0xFFFF
  slot : Nat := 0xFF
  source : Nat := 0
  suppressed : Nat := 0
  address : Nat := 0
  timeNs : Nat := 0
  pc : Nat := 0
  valid : Bool := false
  deriving DecidableEq, Repr

/-- The context descriptor kept by the device (R463). -/
structure CtxDesc where
  rootBase : Nat := 0
  rootSpan : Nat := 0
  winCount : Nat := 0
  winBase : Nat := 0
  saveBase : Nat := 0
  saveBytes : Nat := 0
  deriving DecidableEq, Repr

/-- A stop in progress of a running context (R469 to R472, R481). -/
inductive StopKind | tile | instruction | contextOnly | urgent
  deriving DecidableEq, Repr

/-- One context (R462 to R466, R473, R478). -/
structure Ctx where
  st : CtxState := .none
  desc : CtxDesc := {}
  prio : Nat := 0
  image : ImageKind := .none
  fault : FaultRec := {}
  plans : SMap Plan := []
  launch : Option Launch := none
  tickets : SMap Ticket := []
  issues : Nat := 0
  /-- A stop in progress, and whether a tile preemption is pending (R470). -/
  stop : Option StopKind := none
  /-- Faulted while the urgent stop has not yet ended (R478). -/
  faulting : Bool := false
  /-- Lath cycle k_s saved with the image (R472). -/
  kS : Nat := 0
  /-- Restore in progress (R475). -/
  restoring : Bool := false
  /-- Images of the cores as saved, by rank (R473, R475). -/
  saved : SMap Core := []
  /-- Injection list position of the routers as saved: key core (R472). -/
  savedInj : SMap Nat := []
  /-- CTX_CMD DESTROY waits for the urgent stop (R464). -/
  destroying : Bool := false
  deriving DecidableEq, Repr

/-- State of a partition (PART_STATE). -/
inductive PartState | none | active | changing
  deriving DecidableEq, Repr

/-- One partition (R458, R468, R487). -/
structure Partition where
  st : PartState := .none
  /-- A destroy waits for the stops of the partition's contexts (R461). -/
  destroying : Bool := false
  sections : List Nat := []
  policy : Nat := 0
  sliceUs : Nat := 2000
  preempt : Nat := 0
  tbGraceUs : Nat := 25
  retainIdleUs : Nat := 1000
  /-- The context that occupies the sections, from the start of its restore until it gives them up (R467, R468). -/
  running : Option Nat := none
  /-- Slot that last ran (R468). -/
  lastSlot : Nat := 15
  /-- The context that last ran on the sections (R474). -/
  lastCtx : Option Nat := none
  deriving DecidableEq, Repr

/-- The 16-byte reject record of a partition (R430). -/
structure RejectRec where
  ctx : Nat := 0
  slot : Nat := 0
  source : Nat := 0
  reason : Nat := 0
  variant : Nat := 0
  detail : Nat := 0
  place : Nat := 0
  kernel : Nat := 0
  valid : Bool := false
  deriving DecidableEq, Repr

/-- Plans, Plumb, partitions and contexts. -/
structure Work where
  parts : SMap Partition := []
  ctxs : SMap Ctx := []
  arrays : SMap PlbArray := []
  rejects : SMap RejectRec := []
  deriving DecidableEq, Repr

end Sys2Proof.Machine
end

