-- ==== Sys2Proof/Machine/State.lean ====
section
/-! DEFINITION. The state of the QX4, the reasons a command can stop, and the state after power-on. -/
namespace Sys2Proof.Machine

/-- Named faults. No command of this block faults: an error of the hardware is the command's effect on the state
(an error record, a context fault, a status), so the type is empty but for the one reason below. -/
inductive Fault
  /-- Raised by no command; it keeps the type inhabited. Safe. -/
  | none
  deriving DecidableEq, Repr

/-- Named refusals. -/
inductive Refusal
  /-- The dispatch raises it for a command that has no meaning yet. Safe. -/
  | notModelled (mnemonic : String)
  /-- Raised for a command that names a unit the device does not have, or whose instruction word is not the row's.
  Safe: such a command cannot occur. -/
  | illFormed
  deriving DecidableEq, Repr

/-- The state of the device: plain data, one field per area, and the queue of waiting commands. -/
structure State where
  /-- Commands waiting, first in, first out. -/
  pending : List Instr := []
  cores : SMap Core := []
  lath : Lath := {}
  ret : Retention := {}
  scrim : Scrim := {}
  uc : Uc := {}
  hbm : Hbm := {}
  helda : Helda := {}
  carrak : Carrak := {}
  host : HostIf := {}
  work : Work := {}
  dict : Dict := {}
  askar : Askar := {}
  power : Power := {}
  errs : Errs := {}
  part : Part := {}
  /-- The model's own counter: how many free values have been used (assumption 2). -/
  freeCtr : Nat := 0
  deriving DecidableEq, Repr

/-- The device at power-on, before VDD_AON comes into range (R548, R81): every value at its reset value, nothing
stored, nothing waiting. -/
def State.reset : State := {}

end Sys2Proof.Machine
end

