-- ==== Sys2Proof/Machine/Ops.lean ====
section
/-! DEFINITION. Operations shared by every area: dictionary values and counters, free values, the event log, interrupts,
error records, watermarks, alerts, readiness, and the fault of a context. -/
namespace Sys2Proof.Machine

/-! ### Values of the dictionary -/

/-- The value of a RW object or counter; `dflt` is its table's default (R80). -/
def num (s : State) (idx sub dflt : Nat) : Nat := sget dflt s.dict.nums (256 * idx + sub)

/-- Set the value of a RW object or counter. -/
def setNum (idx sub v : Nat) (s : State) : State :=
  { s with dict := { s.dict with nums := sput s.dict.nums (256 * idx + sub) v } }

/-- Advance a counter of `w` bits by `n`, saturating. -/
def bumpBy (idx sub w n : Nat) (s : State) : State :=
  setNum idx sub (min (num s idx sub 0 + n) (2 ^ w - 1)) s

/-- Advance a 32-bit counter by one, saturating. -/
def bump (idx sub : Nat) (s : State) : State := bumpBy idx sub 32 1 s

/-- Advance a 64-bit counter by one, saturating. -/
def bump64 (idx sub : Nat) (s : State) : State := bumpBy idx sub 64 1 s

/-- The Askar time base (R489). -/
def time (s : State) : Nat := s.askar.timeNs

/-- A free value of the device, and the state that has used it (assumption 2). -/
def draw (s : State) : Nat × State := (Config.freeNat s.freeCtr, { s with freeCtr := s.freeCtr + 1 })

/-! ### Numbering of cores and sections (R26 to R29) -/

/-- CORE_REF of a device core number (R26, R27). -/
def coreRef (c : Nat) : Nat := 2048 * (c / 1152) + c % 1152

/-- The core a CORE_REF names, if it names one (R27, R28). -/
def ofCoreRef (r : Nat) : Option Nat :=
  if r / 8192 = 0 && decide (r % 2048 / 32 < 36) then some (r / 2048 * 1152 + r % 2048) else none

/-- Logical column, row and C-die of a core (R26). -/
def coreLx (c : Nat) : Nat := c % 32
def coreLy (c : Nat) : Nat := c % 1152 / 32
def coreDie (c : Nat) : Nat := c / 1152

/-- Device section of a core (R29). -/
def coreSection (c : Nat) : Nat := 36 * coreDie c + 4 * (coreLy c / 4) + coreLx c / 8

/-- The 32 cores of a device section (R29). -/
def sectionCores (sec : Nat) : List Nat :=
  (List.range 32).map fun i =>
    sec / 36 * 1152 + (4 * (sec % 36 / 4) + i / 8) * 32 + 8 * (sec % 4) + i % 8

/-- The physical column of a logical one, by the fused skip map (R22, R23). -/
def physicalColumn (s : State) (die ly lx : Nat) : Nat :=
  let d := sget (0, 2) s.part.skip (36 * die + ly)
  let px := if d.1 ≤ lx then lx + 1 else lx
  if d.2 ≤ px then px + 1 else px

/-- The partition of a context number (R462). -/
def ctxPart (c : Nat) : Nat := c / 16

/-- The device ID in use (R32): 0 while none is held. -/
def devId (s : State) : Nat := if s.carrak.idState = .held then s.carrak.deviceId else 0

/-- Global address of a local one on this device (R31). -/
def globalOf (s : State) (a : Nat) : Nat := 2 ^ 56 * devId s + a

/-- Local address of a tile-memory offset of a core (R35). -/
def tileAddr (c off : Nat) : Nat := 2 ^ 40 + 2 ^ 20 * c + off

def coreGet (s : State) (c : Nat) : Core := sget {} s.cores c

def setCore (c : Nat) (x : Core) (s : State) : State := { s with cores := sput s.cores c x }

def modCore (c : Nat) (f : Core → Core) (s : State) : State := setCore c (f (coreGet s c)) s

def slotGet (x : Core) (t : Nat) : Slot := sget {} x.slots t

def Core.setSlot (x : Core) (t : Nat) (v : Slot) : Core := { x with slots := sput x.slots t v }

def modSlot (c t : Nat) (f : Slot → Slot) (s : State) : State :=
  modCore c (fun x => x.setSlot t (f (slotGet x t))) s

def ctxGet (s : State) (c : Nat) : Ctx := sget {} s.work.ctxs c

def setCtx (c : Nat) (x : Ctx) (s : State) : State :=
  { s with work := { s.work with ctxs := sput s.work.ctxs c x } }

def modCtx (c : Nat) (f : Ctx → Ctx) (s : State) : State := setCtx c (f (ctxGet s c)) s

def partGet (s : State) (p : Nat) : Partition := sget {} s.work.parts p

def setPart (p : Nat) (x : Partition) (s : State) : State :=
  { s with work := { s.work with parts := sput s.work.parts p x } }

def modPart (p : Nat) (f : Partition → Partition) (s : State) : State := setPart p (f (partGet s p)) s

/-- The partition that owns a section, if one does. -/
def sectionPart (s : State) (sec : Nat) : Option Nat :=
  (s.work.parts.find? fun e => e.2.st != .none && e.2.sections.contains sec).map (·.1)

/-- The cores of a partition. -/
def partCores (s : State) (p : Nat) : List Nat := ((partGet s p).sections.map sectionCores).flatten

/-! ### The event log (R494 to R496) -/

/-- Count records lost from the log (R496). -/
def logLost (s : State) : State := bump 0x2D20 3 s

/-- Write a record into the retention buffer, and mark it for flash if its severity asks for that (R496). -/
def writeLog (t : Nat) (b : LogBody) (s : State) : State :=
  let r : LogRec := ⟨s.askar.nextSeq, t, b⟩
  let full := decide (4096 ≤ s.askar.log.length)
  let old := if full then s.askar.log.take 1 else []
  let lost := s.askar.toFlash.any fun x => old.contains x
  let kept := s.askar.toFlash.filter fun x => !old.contains x
  let persist := decide (num s 0x2D20 4 2 ≤ b.sev)
  let a := { s.askar with
    nextSeq := (s.askar.nextSeq + 1) % 2 ^ 32
    log := (if full then s.askar.log.drop 1 else s.askar.log) ++ [r]
    toFlash := if persist then kept ++ [r] else kept }
  let s := { s with askar := a }
  if lost then logLost s else s

/-- Log an event: in the buffer while Askar serves, in the hardware event queue otherwise (R496). -/
def logRec (b : LogBody) (s : State) : State :=
  if s.askar.run = .serving then writeLog s.askar.timeNs b s
  else if s.askar.hwQueue.length < 512 then
    { s with askar := { s.askar with hwQueue := s.askar.hwQueue ++ [(s.askar.timeNs, b)] } }
  else logLost s

/-- Advance a counter and log its new value (R494). -/
def countLog (idx sub w sev : Nat) (ctx part die : Nat) (s : State) : State :=
  let s := bumpBy idx sub w 1 s
  logRec { index := idx, sub := sub, sev := sev, ctx := ctx, part := part, die := die,
           payload := leBytes (w / 8) (num s idx sub 0) } s

/-- Log an event with no counter: the object that reports it, and its value (R494). -/
def logEvent (idx sub sev : Nat) (payload : List Byte) (s : State) : State :=
  logRec { index := idx, sub := sub, sev := sev, payload := payload } s

/-- An ignored input: counted, and logged once in each 1 s interval (R78, R79). -/
def ignored (idx sub : Nat) (s : State) : State :=
  let s := bump idx sub s
  let now := time s / 1000000000
  if sfind s.dict.ignLogged (256 * idx + sub) = some now then s
  else
    logRec { index := idx, sub := sub, sev := 1, payload := leBytes 4 (num s idx sub 0) }
      { s with dict := { s.dict with ignLogged := sput s.dict.ignLogged (256 * idx + sub) now } }

/-! ### Interrupts (R397) -/

/-- A function's key in tables: 0 the PF, 1 + n VF n. -/
def fnKey : Fn → Nat
  | .pf => 0
  | .vf n => n + 1

def msixGet (s : State) (fn : Fn) (v : Nat) : MsixEntry := sget {} s.host.msix (2048 * fnKey fn + v)

def setMsix (fn : Fn) (v : Nat) (e : MsixEntry) (s : State) : State :=
  { s with host := { s.host with msix := sput s.host.msix (2048 * fnKey fn + v) e } }

/-- Put a message to the host on the link. -/
def hostSend (m : HostOut) (s : State) : State := { s with host := { s.host with out := s.host.out ++ [m] } }

/-- Interrupts of a function can leave now: its vector is not masked, the link is up and it is in D0 (R381, R397,
R399). -/
def canInterrupt (s : State) (fn : Fn) (v : Nat) : Bool :=
  !(msixGet s fn v).masked && s.host.linkUp && !s.host.d3hot.contains (fnKey fn)

/-- Raise an MSI-X vector: sent, or left pending in the PBA (R381, R397, R399). -/
def raiseVector (fn : Fn) (v : Nat) (s : State) : State :=
  if canInterrupt s fn v then hostSend (.msix fn v) s
  else setMsix fn v { msixGet s fn v with pending := true } s

/-- Raise vector 1 of the VF that drives a partition, if one is mapped to it (R397, R558). -/
def raisePartVector (p : Nat) (s : State) : State :=
  match s.host.vfMap.find? (fun e => e.2.part == p) with
  | some e => raiseVector (.vf e.1) 1 s
  | none => s

/-! ### Alerts (R503, R511) -/

/-- Drive ALERT_N: while Askar does not run, nothing deasserts it (R503, R511). -/
def driveAlert (s : State) : State :=
  let on := s.askar.alerts &&& num s 0x2D28 2 0x3E != 0
  let pin := if s.askar.run = .serving then on else s.askar.alertPin || on
  { s with askar := { s.askar with alertPin := pin } }

/-- Latch a cause in ALERT_SOURCES (R503). -/
def latchAlert (b : Nat) (s : State) : State :=
  driveAlert { s with askar := { s.askar with alerts := s.askar.alerts ||| 2 ^ b } }

/-! ### Watermarks (R498 to R502) -/

/-- Objects of the watermarks (R502): index, subindex of LEVEL (0 for the shortfall watermark), of CROSSED, of LIVE
and of COUNT, and the default level. -/
def wmObj : Nat → Nat × Nat × Nat × Nat × Nat × Nat
  | 0 => (0x2105, 2, 3, 4, 5, 96)
  | 1 => (0x2313, 1, 2, 3, 4, 48)
  | 2 => (0x2405, 1, 2, 3, 4, 192)
  | 3 => (0x2505, 1, 2, 3, 4, 384)
  | 4 => (0x260A, 0, 9, 10, 11, 1)
  | 5 => (0x280E, 1, 2, 3, 4, 3072)
  | 6 => (0x2D19, 1, 2, 3, 4, 1800000)
  | _ => (0x2D1A, 1, 2, 3, 4, 950)

def wmGet (s : State) (id : Nat) : Wm := sget {} s.askar.wms id

def setWm (id : Nat) (w : Wm) (s : State) : State :=
  { s with askar := { s.askar with wms := sput s.askar.wms id w } }

/-- The level L of a watermark. -/
def wmLevel (s : State) (id : Nat) : Int :=
  match wmObj id with
  | (i, l, _, _, _, d) => if l = 0 then 1 else num s i l d

/-- Its hysteresis H. -/
def wmHyst (s : State) (id : Nat) : Int := num s 0x2D18 (id + 1) 0

/-- Give a watermark's notice now (R501, R503). -/
def wmGive (id : Nat) (s : State) : State :=
  match wmObj id with
  | (i, _, _, _, c, _) =>
    let s := setWm id { wmGet s id with lastNotice := some (time s), due := false } s
    let s := logRec { index := i, sub := c, sev := 1, payload := leBytes 2 (num s i c 0) } s
    if bit (num s 0x2D18 9 0) id then latchAlert 0 (raiseVector .pf 8 s) else s

/-- A crossing: CROSSED is set, COUNT advances, and the notice is given now or 1 ms after the last (R498, R501). -/
def wmCross (id : Nat) (s : State) : State :=
  match wmObj id with
  | (i, _, _, _, c, _) =>
    let s := setWm id { wmGet s id with crossed := true, live := true } s
    let s := bumpBy i c 16 1 s
    match (wmGet s id).lastNotice with
    | some t => if time s < t + 1000000 then setWm id { wmGet s id with due := true } s else wmGive id s
    | none => wmGive id s

/-- Evaluate a watermark against the measure of its highest instance (R498). -/
def wmEval (id : Nat) (m : Int) (s : State) : State :=
  if (wmGet s id).live then
    if m < wmLevel s id - wmHyst s id then setWm id { wmGet s id with live := false } s else s
  else if wmLevel s id ≤ m then wmCross id s else s

/-! ### Error records (R554 to R560) -/

/-- An error as it is reported (R555). -/
structure ErrInfo where
  cls : Nat
  source : Nat
  cause : Nat
  place : Nat := 0
  ctx : Nat := 0xFFFF
  addr : Nat := 0
  detail : Nat := 0
  part : Nat := 0xFF
  injected : Bool := false
  originDev : Option Nat := none
  deriving DecidableEq, Repr

/-- The 32-byte error record (R555). -/
def errBytes (e : ErrInfo) (rep : Nat) : List Byte :=
  leBytes 1 e.cls ++ leBytes 1 e.source ++ leBytes 2 e.cause ++ leBytes 2 e.place ++ leBytes 2 e.ctx ++
  leBytes 8 e.addr ++ leBytes 8 e.detail ++ leBytes 4 rep ++ leBytes 1 e.part ++
  leBytes 1 ((if e.injected then 1 else 0) + (if e.originDev.isSome then 2 else 0)) ++
  leBytes 1 (e.originDev.getD 0) ++ leBytes 1 0

/-- Counter width of a class (R569). -/
def errWidth (cls : Nat) : Nat := if cls = 3 then 32 else 64

/-- Write the record of an error into the log, and for classes 1 to 3 into ERR_REC (R555, R569). -/
def errWrite (e : ErrInfo) (rep : Nat) (s : State) : State :=
  let b := errBytes e rep
  let s := logRec { index := 0x3000, sub := e.cls + 1, sev := if e.cls = 0 then 0 else 3, ctx := e.ctx, part := e.part,
                    payload := b } s
  let s := if e.cls = 0 then s else { s with errs := { s.errs with recs := (b :: s.errs.recs).take 32 } }
  if bit (num s 0x3001 3 0xC) e.cls then raiseVector .pf 8 s else s

/-- Signal Corrected Internal Error, at most once per ERR_CE_SIGNAL_MS (R558). -/
def signalCe (s : State) : State :=
  let ms := num s 0x3001 2 1000
  let ok := match s.errs.ceSignalAt with
    | none => true
    | some t => decide (t + 1000000 * ms ≤ time s)
  if ms ≠ 0 && ok then
    hostSend (.aer .pf .correctedInternal) { s with errs := { s.errs with ceSignalAt := some (time s) } }
  else s

/-- Report an error: counter, record with merging, and the host's signals (R557, R558). -/
def errReport (e : ErrInfo) (s : State) : State :=
  let s := bumpBy 0x3000 (e.cls + 1) (errWidth e.cls) 1 s
  let s := if e.cause = 4 then bump64 0x3000 5 s else s
  let s := if e.injected then bump 0x3000 6 s else s
  match e.cls with
  | 0 =>
    let k := 65536 * e.source + e.place
    let now := time s / 1000000000
    match sfind s.errs.merges k with
    | some m =>
      if m.interval = now then
        signalCe { s with errs := { s.errs with merges := sput s.errs.merges k ⟨now, m.repeats + 1⟩ } }
      else signalCe (errWrite e m.repeats { s with errs := { s.errs with merges := sput s.errs.merges k ⟨now, 0⟩ } })
    | none => signalCe (errWrite e 0 { s with errs := { s.errs with merges := sput s.errs.merges k ⟨now, 0⟩ } })
  | 1 => errWrite e 0 s
  | 2 => let s := errWrite e 0 s; if e.part < 64 then raisePartVector e.part s else s
  | _ => hostSend (.aer .pf .uncorrectedInternal) (errWrite e 0 s)

/-! ### Readiness (R80, R81, R552) -/

/-- The code of READY_STATE (R81). -/
def readyCode : ReadyState → Nat
  | .reset => 0 | .askarBoot => 1 | .powerUp => 2 | .hbmTrain => 3 | .heldaTrain => 4 | .controlBoot => 5
  | .hostUp => 6 | .ready => 7 | .degraded => 8 | .failed => 9

/-- Enter a READY_STATE with its reason (R81, R397, R495, R503, R551); FAILED ends only with a new start-up. -/
def setReady (r : ReadyState) (reason : Nat) (s : State) : State :=
  if s.power.ready = .failed then s else
  let code := readyCode r
  let p := { s.power with
    ready := r
    readyReason := reason
    readyTimeNs := if s.host.perstHigh then time s - s.power.perstAt else 0
    stageEntry := if 1 ≤ code && code ≤ 7 then sput s.power.stageEntry code (time s) else s.power.stageEntry }
  let s := raiseVector .pf 8 { s with power := p }
  let s := if 8 ≤ code then latchAlert 3 s else s
  if r = .failed then logEvent 0x1001 1 4 (leBytes 1 9) s else s

/-- READY_STATE is READY or READY_DEGRADED. -/
def isReady (s : State) : Bool := decide (s.power.ready = .ready ∨ s.power.ready = .degraded)

/-- Start-up has not ended (R551). -/
def inStartup (s : State) : Bool :=
  decide (1 ≤ readyCode s.power.ready ∧ readyCode s.power.ready ≤ 6)

/-- A C-die (bit n), B-die (bit 4 + n), stack (bit 8 + s) or site P (bit 16) is out of service. -/
def isOut (s : State) (b : Nat) : Bool := s.power.oos.getLsbD b

/-- Set OUT_OF_SERVICE bits; at run time READY_STATE follows (R81, R552, R554). -/
def takeOut (bitsOut : Nat) (reason : Nat) (s : State) : State :=
  let s := { s with power := { s.power with oos := s.power.oos ||| BitVec.ofNat 32 bitsOut } }
  if isReady s then
    if bits s.power.oos.toNat 0 4 = 15 || bits s.power.oos.toNat 4 4 = 15 then setReady .failed 9 s
    else if s.power.ready = .ready && s.power.oos != 0 then setReady .degraded reason s else s
  else if inStartup s && s.power.startCause = 0 then { s with power := { s.power with startCause := reason } }
  else s

/-- Clear OUT_OF_SERVICE bits; READY_DEGRADED returns to READY when none is left (R81, R549). -/
def putBack (bitsIn : Nat) (s : State) : State :=
  let s := { s with power := { s.power with oos := s.power.oos &&& ~~~(BitVec.ofNat 32 bitsIn) } }
  if s.power.oos = 0 && s.power.ready = .degraded then setReady .ready 0 s else s

/-! ### Rails, latched domains and THROTTLE_REQ_N (R511, R527, R533, R540, R544) -/

def railGet (s : State) (r : Nat) : RailState := sget .off s.power.rails r

def domGet (s : State) (d : Nat) : Domain := sget {} s.power.domains d

/-- A domain is latched off. -/
def latched (s : State) (d : Nat) : Bool := (domGet s d).st == .latchedShort || (domGet s d).st == .latchedSlow

/-- Drive THROTTLE_REQ_N: while Askar does not run nothing releases it. -/
def driveThrottle (s : State) : State :=
  let on := s.power.tripped || s.power.ccClamp || s.power.cdie.any fun e => e.2.clamp
  let pin := if s.askar.run = .serving then on else s.power.pins.throttleReq || on
  { s with power := { s.power with pins := { s.power.pins with throttleReq := pin } } }

/-! ### The fault of a context and the urgent stop (R478, R481) -/

/-- The context's work is on its partition's sections (R466). -/
def ctxHolds (s : State) (c : Nat) : Bool := (partGet s (ctxPart c)).running = some c

/-- A long instruction stops at a step boundary with steps remaining: PC stays on it, RESUMING and PROG_STATE are set
(R129, R133). -/
def saveLong (x : Slot) : Slot :=
  match x.long with
  | some r => { x with
      long := none
      resuming := true
      prog := { step := r.step, op := bits r.word.toNat 4 8, fmt := bits r.word.toNat 0 4, valid := true } }
  | none => x

/-- A stop request reaches a core's slots of a context: nothing more issues, a long instruction stops at its step
boundary (R129, R130). -/
def stopCore (c : Nat) (x : Core) : Core :=
  { x with
    slots := x.slots.map fun t => (t.1, if t.2.ctx = c then saveLong { t.2 with stopped := true } else t.2) }

/-- A stop request reaches the cores of a context (R129, R482). -/
def stopCores (c : Nat) (s : State) : State :=
  { s with cores := s.cores.map fun e => (e.1, stopCore c e.2) }

/-- The completion of a command entry (R391, R393). -/
def cmdCompletion (bytes : List Byte) (status reason detail : Nat) : Completion :=
  { tag := field bytes 2 2, status := status, reason := reason, opcode := field bytes 0 1, detail := detail,
    int := bit (field bytes 1 1) 2 }

/-- The ring of a faulted context (R396): HALTED; its commands in flight complete, those not started are discarded. A
LAUNCH completes FAULTED where `launch` says that the fault is its own; every other command completes ABORTED. -/
def haltRing (launch : Bool) (r : Ring) : Ring :=
  if r.st = .disabled && !r.disabling then r
  else { r with
    st := if r.disabling then .disabled else .halted
    fetched := []
    done := r.done ++ (r.fetched.filter (·.started)).map fun c =>
      cmdCompletion c.bytes (if launch && field c.bytes 0 1 = 1 then 2 else 3) 0
        (if field c.bytes 0 1 = 2 || field c.bytes 0 1 = 4 then c.detail else 0) }

/-- Raise an urgent stop of a context: its ring is HALTED at once, and a preemption in progress is abandoned (R396, R481,
R484). -/
def urgentStop (c : Nat) (s : State) : State :=
  let f := (ctxGet s c).fault
  let own := f.cause != 0xA && f.cause != 0xB && f.source != 2
  let s := { s with host := { s.host with
    rings := s.host.rings.map fun e => if e.1 = c then (e.1, haltRing own e.2) else e } }
  stopCores c (modCtx c (fun x => { x with st := .stopping, stop := some .urgent, faulting := true, image := .none,
                                           restoring := false }) s)

/-- A fault of a context: the first writes the record and raises an urgent stop, a later one counts in SUPPRESSED
(R478, R484). -/
def ctxFault (c : Nat) (f : FaultRec) (s : State) : State :=
  let x := ctxGet s c
  if x.st = .none then s
  else if x.st = .faulted || x.faulting then
    setCtx c { x with fault := { x.fault with suppressed := min (x.fault.suppressed + 1) 65535 } } s
  else
    let s := setCtx c { x with fault := { f with valid := true, suppressed := 0, timeNs := time s } } s
    let s := bumpBy 0x2C04 5 64 1 s
    let s := logRec { index := 0x2C04, sub := 5, sev := 2, ctx := c, part := ctxPart c,
                      payload := leBytes 8 (num s 0x2C04 5 0) } s
    urgentStop c (bump 0x2C04 6 s)

/-- The record of a contained error of a context's access (R555, R556, R559). A failed completion of the host has its kind
above bit 15: 1 UR, 2 CA, 3 timeout. An address error that another device's home found is recorded there alone (R565). -/
def recordAccess (c errSource cause addr place : Nat) (s : State) : State :=
  if cause = 5 && addr / 2 ^ 56 != devId s && decide (addr % 2 ^ 56 < 2 ^ 39) then s
  else errReport { cls := 2, source := errSource, cause := cause % 65536, ctx := c, addr := addr, part := ctxPart c,
                   place := place, detail := cause / 65536 } s

/-- A contained error of a context's access (R559): its record, and the fault of the context. -/
def containedCtx (c : Nat) (source errSource cause addr place : Nat) (s : State) : State :=
  let s := recordAccess c errSource cause addr place s
  let f : FaultRec :=
    if cause = 9 then { cause := 6, source := source, address := addr }
    else if cause = 10 then { cause := 7, source := source, address := addr }
    else if cause = 11 then { cause := 8, source := source, address := addr }
    else if cause = 4 then { cause := 1, code := 0xC, source := source, address := addr }
    else { cause := 9, code := cause % 256, source := source, address := addr }
  ctxFault c f s

/-- Record how a dictionary command or a CMD operation ended (R67). -/
def finish (status : Nat) (payload : List Byte) (s : State) : State :=
  { s with dict := { s.dict with result := (status, payload) } }

/-- OK. -/
def ok (s : State) : State := finish 0 [] s
/-- CMD_FAILED with its reason code. -/
def failed (reason : Nat) (s : State) : State := finish 0x23 (leBytes 2 reason) s
/-- IN_PROGRESS. -/
def inProgress (s : State) : State := finish 2 [] s

end Sys2Proof.Machine
end

