-- ==== Sys2Proof/Machine/DictOps.lean ====
section
/-! DEFINITION. The object dictionary's sessions and transports (R48 to R53, R64, R70 to R76): shared operations. -/
namespace Sys2Proof.Machine

/-- The group of endpoints that one lockout covers (R53): the PF window, a VF window, 10BASE-T1S, I3C, Carrak Link
inbound, the control-core mailbox. -/
def epGroup : Endpoint → Nat
  | .pf _ => 0
  | .vf n => 1 + n
  | .t1s => 100
  | .i3c => 101
  | .carrak _ => 102
  | .cc => 103

/-- ENDPOINT of a clamp record (R60). -/
def epCode : Endpoint → Nat
  | .pf _ => 0
  | .vf _ => 1
  | .t1s => 2
  | .i3c => 3
  | .carrak _ => 4
  | .cc => 5

/-- Two requests come from one endpoint, and on the PCIe window from one mailbox (R50, R72, R585). -/
def sameEp : Endpoint → Endpoint → Bool
  | .pf a, .pf b => a == b
  | a, b => epGroup a == epGroup b

/-- Sessions an endpoint may hold (R50); a PF mailbox is one slot. -/
def sessionLimit : Endpoint → Nat
  | .pf _ => 1
  | .vf _ => 1
  | .t1s => 8
  | .i3c => 2
  | .carrak _ => 16
  | .cc => 8

def isVf : Endpoint → Option Nat
  | .vf n => some n
  | _ => none

def findSession (s : State) (sid : Nat) : Option Session := s.dict.sessions.find? fun x => x.id == sid

/-- Change a live session. -/
def modSession (sid : Nat) (f : Session → Session) (s : State) : State :=
  { s with dict := { s.dict with sessions := s.dict.sessions.map fun x => if x.id == sid then f x else x } }

/-- The ID after `n` in the sequence of R48. -/
def idAfter (n : Nat) : Nat := if n ≥ 0xFFFE then 1 else n + 1

/-- The first ID from `n` on that names no live session (R48). -/
def freshId (s : State) : Nat → Nat → Nat
  | 0, n => n
  | fuel + 1, n => if (findSession s n).isSome then freshId s fuel (idAfter n) else n

/-- End the sessions that `p` picks: their running commands go on, to be reported to the event log (R51). -/
def endSessions (p : Session → Bool) (s : State) : State :=
  let dying := s.dict.sessions.filter p
  { s with dict := { s.dict with
      sessions := s.dict.sessions.filter fun x => !p x
      orphans := s.dict.orphans ++ dying.filterMap (·.running) } }

/-- End the sessions of one VF (R51). -/
def endVfSessions (n : Nat) (s : State) : State := endSessions (fun x => isVf x.ep == some n) s

/-- A dictionary message: header and payload (R64). -/
def dictMsg (opcode flags status session tag index sub : Nat) (payload : List Byte) : List Byte :=
  leBytes 1 1 ++ leBytes 1 (128 + opcode) ++ leBytes 1 flags ++ leBytes 1 status ++ leBytes 2 session ++
  leBytes 2 tag ++ leBytes 2 index ++ leBytes 1 sub ++ leBytes 1 0 ++ leBytes 2 payload.length ++ leBytes 2 0 ++ payload

/-- The mailbox of an endpoint on the PCIe window (R72). -/
def mailboxKey : Endpoint → Option Nat
  | .pf m => some m
  | .vf n => some (8 + n)
  | _ => none

def mailboxGet (s : State) (k : Nat) : Mailbox := sget {} s.dict.mailboxes k

def setMailbox (k : Nat) (x : Mailbox) (s : State) : State :=
  { s with dict := { s.dict with mailboxes := sput s.dict.mailboxes k x } }

/-- Send a response to an endpoint (R72 to R75): into the mailbox, to I3C, or as a message. `notify` is RSP_NOTIFY. -/
def deliver (ep : Endpoint) (mac : Nat) (notify : Bool) (bytes : List Byte) (s : State) : State :=
  match ep with
  | .pf m =>
    let s := setMailbox m { mailboxGet s m with rsp := bytes, reqPending := false, rspReady := true } s
    if notify then raiseVector .pf m s else s
  | .vf n =>
    let s := setMailbox (8 + n) { mailboxGet s (8 + n) with rsp := bytes, reqPending := false, rspReady := true } s
    if notify then raiseVector (.vf n) 0 s else s
  | .i3c =>
    let i := s.dict.i3c
    { s with dict := { s.dict with
        i3c := { i with response := some bytes, ibis := if i.ibiEnabled && notify then i.ibis + 1 else i.ibis } } }
  | ep => { s with dict := { s.dict with out := s.dict.out ++ [⟨ep, mac, bytes⟩] } }

/-- The header of a request, less LENGTH, as far as the checks before R585 need it. -/
structure Header where
  ver : Nat
  opcode : Nat
  flags : Nat
  status : Nat
  session : Nat
  tag : Nat
  index : Nat
  sub : Nat
  res11 : Nat
  length : Nat
  res14 : Nat
  payload : List Byte
  deriving DecidableEq, Repr

/-- Split a message of 16 bytes or more into its fields (R64). -/
def header (b : List Byte) : Header :=
  { ver := field b 0 1, opcode := field b 1 1, flags := field b 2 1, status := field b 3 1, session := field b 4 2,
    tag := field b 6 2, index := field b 8 2, sub := field b 10 1, res11 := field b 11 1, length := field b 12 2,
    res14 := field b 14 2, payload := b.drop 16 }

/-- The subindex of OD 0x1030 that counts an ignored message, if it is ignored (R78). -/
def ignoredMsg (b : List Byte) : Option Nat :=
  if b.length < 16 then some 1
  else if field b 0 1 ≠ 1 then some 2
  else if 128 ≤ field b 1 1 then some 3
  else none

/-- What the front end answers while Askar does not serve (R76). -/
def busyStatus (s : State) : Nat := if s.askar.run = .updating then 0x20 else 0x21

/-- Answer every request that Askar had not begun with BUSY_UPDATE or BUSY_RESTART (R76). -/
def refuseWaiting : List Arrived → State → State
  | [], s => s
  | a :: t, s =>
    let h := header a.bytes
    refuseWaiting t (deliver a.ep a.mac true (dictMsg h.opcode h.flags (busyStatus s) h.session h.tag h.index h.sub []) s)

/-- Askar stops: every session ends and waiting requests are refused (R51, R76, R510). -/
def askarStop (r : AskarRun) (cause : Nat) (s : State) : State :=
  let s := { s with askar := { s.askar with run := r, lastRestart := cause } }
  let s := endSessions (fun _ => true) s
  let w := s.dict.waiting
  let s := refuseWaiting w { s with dict := { s.dict with waiting := [] } }
  let s := countLog 0x2D00 3 32 3 0xFFFF 0xFF 8 s
  latchAlert 5 s

/-! ### OPEN, CLOSE and the session's timers -/

/-- OPEN (R48, R50): the new session's ID, or the status SESSION_LIMIT. -/
def openAt (ep : Endpoint) (s : State) : Option (Nat × State) :=
  if (s.dict.sessions.filter fun x => sameEp x.ep ep).length < sessionLimit ep then
    let id := freshId s 65535 s.dict.nextId
    some (id, { s with dict := { s.dict with
      sessions := s.dict.sessions ++ [{ id := id, ep := ep, lastAt := time s }]
      nextId := idAfter id } })
  else none

/-- End one session (R51). -/
def closeSession (sid : Nat) (s : State) : State := endSessions (fun x => x.id == sid) s

/-- The record of a command that outlived its session (R51). -/
def orphanLog (r : Running) (s : State) : State :=
  let p := r.payload.take 32
  logRec { index := r.index, sub := if bit r.flags 0 then 0 else r.sub, sev := 1,
           payload := leBytes 1 r.status ++ leBytes 1 r.opcode ++ leBytes 2 r.session ++ leBytes 2 r.tag ++
                      leBytes 2 0 ++ p } s

/-- What a running command waits for has come: the steward's answer, the home OFFLINE, the ring's completion entries, the
partition's change (R275, R369, R389, R459). -/
def cmdOver (s : State) (idx : Nat) : Bool :=
  if idx = 0x280C then !s.carrak.ports.any fun e => e.2.stewardReq.isSome
  else if idx = 0x2503 then !s.uc.homes.any fun e => e.2.st == .quiescing
  else if idx = 0x2905 then !s.host.rings.any fun e => e.2.disabling
  else if idx = 0x2C01 then !s.work.parts.any fun e => e.2.st == .changing
  else true

/-- The running commands of an object end with a status: the response that each will have (R70). A clamp summary stays
(R59). -/
def runEnd (idx status : Nat) (payload : List Byte) (s : State) : State :=
  let f := fun (r : Running) =>
    if r.index = idx then { r with
      status := if status = 0 then r.status else status
      payload := if status = 0 then r.payload else payload } else r
  { s with dict := { s.dict with
    sessions := s.dict.sessions.map fun x => { x with running := x.running.map f }
    orphans := s.dict.orphans.map f } }

/-- The Carrak Link path to a device is lost: its sessions end, and requests sent to it are answered with REMOTE_LOST, at
the control-core mailbox they came from (R51, R75; assumption 28). -/
def dictPathLost (d : Nat) (s : State) : State :=
  let l := s.carrak.remoteReqs.filter fun r => r.device == d
  let s := endSessions (fun x => x.ep == .carrak d) { s with carrak := { s.carrak with
    remoteReqs := s.carrak.remoteReqs.filter fun r => r.device != d } }
  l.foldl (fun s r =>
    let h := header r.head
    deliver .cc 0 true (dictMsg h.opcode h.flags 0x22 h.session h.tag h.index h.sub []) s) s

/-- A command that answered IN_PROGRESS finishes: its final response is stored for its tag, or goes to the event log
where its session has ended (R51, R70). -/
def commandFinish (sid : Nat) (s : State) : State :=
  let isDone := fun (r : Running) => cmdOver s r.index
  match ((findSession s sid).bind (·.running)).filter isDone with
  | some r =>
    modSession sid (fun x => { x with running := none, last := some ⟨r.tag, r.opcode, r.index, r.sub, true, r.status, r.flags, r.payload⟩ })
      { s with dict := { s.dict with busy := sdel s.dict.busy r.index } }
  | none =>
    match s.dict.orphans.find? fun r => r.session == sid && isDone r with
    | some r => orphanLog r { s with dict := { s.dict with orphans := s.dict.orphans.erase r,
                                                           busy := sdel s.dict.busy r.index } }
    | none => s

def execCommandFinish (sid : Nat) (s : State) : Host.Outcome State Fault Refusal := .next (commandFinish sid s)

def execSessionIdleTimeout (sid : Nat) (s : State) : Host.Outcome State Fault Refusal := .next (closeSession sid s)

def execSegStageExpiry (sid : Nat) (s : State) : Host.Outcome State Fault Refusal :=
  .next (modSession sid (fun x => { x with staging := none }) s)

/-- NONCE_EXPIRY of a session's expert nonce, or of the provisioning nonce (none) (R53, R516). -/
def execNonceExpiry (who : Option Nat) (s : State) : Host.Outcome State Fault Refusal :=
  match who with
  | some sid => .next (modSession sid (fun x => { x with nonce := x.nonce.map fun n => { n with used := true } }) s)
  | none =>
    .next { s with askar := { s.askar with sec := { s.askar.sec with
      nonce := s.askar.sec.nonce.map fun n => { n with used := true } } } }

def execAuthLockoutEnd (ep : Endpoint) (s : State) : Host.Outcome State Fault Refusal :=
  .next { s with dict := { s.dict with lockouts := sdel s.dict.lockouts (epGroup ep) } }

/-! ### Expert level (R53, R54) -/

/-- A fresh 32-byte nonce (R53, R516): a free value (assumption 2). -/
def freshNonce (s : State) : List Byte := leBytes 32 (Config.freeNat s.freeCtr)

/-- Reading EXPERT_NONCE: a fresh nonce bound to the session (R53). -/
def expertNonce (sid : Nat) (s : State) : State :=
  let n := freshNonce s
  finish 0 n (modSession sid (fun x => { x with nonce := some { value := n, issuedAt := time s } })
    { s with freeCtr := s.freeCtr + 1 })

/-- The key of a stored key record (R514, R515): its payload's 96 bytes. -/
def recordKey (rec : List Byte) : List Byte := slice rec 192 96

/-- The expert authority key of the life-cycle state verifies a signature; none where no key exists (R514). -/
def expertVerify (s : State) (d : BitVec 384) (sig : List Byte) : Option Bool :=
  let byExpert := s.askar.sec.expert.map fun r => Config.ecdsaVerify (recordKey r) d sig
  let byRoot := Config.rootVerify s.part.rootHash d sig
  match s.askar.sec.lc with
  | .blank | .rma => some byRoot
  | .provisioned | .deployed => byExpert
  | .service => some (byRoot || byExpert.getD false)
  | .decommissioned => none

/-- The 42-byte message of the expert unlock (R53). -/
def unlockMsg (nonce : List Byte) (sid serial : Nat) : List Byte := nonce ++ leBytes 2 sid ++ leBytes 8 serial

/-- The nonce of a session can be used now (R53). -/
def nonceGood (s : State) (n : Option Nonce) : Bool :=
  match n with
  | some n => !n.used && decide (time s < n.issuedAt + 60000000000)
  | none => false

/-- A counted failure: three in a row end the session and lock its endpoint out for 10 s (R53). -/
def authFail (x : Session) (s : State) : State :=
  let fails := x.fails + 1
  let s := finish 0x24 [] s
  if 3 ≤ fails then
    closeSession x.id { s with dict := { s.dict with
      lockouts := sput s.dict.lockouts (epGroup x.ep) (time s + 10000000000) } }
  else modSession x.id (fun y => { y with fails := fails, nonce := y.nonce.map fun n => { n with used := true } }) s

/-- EXPERT_AUTH (R53, R54). -/
def expertAuth (sid : Nat) (sig : List Byte) (s : State) : State :=
  match findSession s sid with
  | none => finish 0x17 [] s
  | some x =>
    if (isVf x.ep).isSome || (match sfind s.dict.lockouts (epGroup x.ep) with
        | some t => decide (time s < t)
        | none => false) then finish 0x24 [] s
    else
      match expertVerify s (Config.sha384 (unlockMsg ((x.nonce.map (·.value)).getD []) sid s.part.serial)) sig with
      | none => finish 0x24 [] s
      | some v =>
        if nonceGood s x.nonce && v then
          ok (modSession sid (fun y => { y with level := 1, fails := 0, nonce := y.nonce.map fun n => { n with used := true } }) s)
        else authFail x s

/-- Reading EXPERT_NONCE in a session: NO_SESSION where it names none. -/
def execExpertNonce (sid : Nat) (s : State) : Host.Outcome State Fault Refusal :=
  .next (if (findSession s sid).isSome then expertNonce sid s else finish 0x17 [] s)

def execExpertAuth (sid : Nat) (sig : List Byte) (s : State) : Host.Outcome State Fault Refusal :=
  .next (expertAuth sid sig s)

/-- EXPERT_LOCK (R53): 1 returns the session to basic. -/
def expertLock (sid value : Nat) (s : State) : State :=
  ok (if value = 0 then s else modSession sid (fun x => { x with level := 0 }) s)

/-- EXPERT_LOCK in a session: NO_SESSION where it names none. -/
def execExpertLock (sid value : Nat) (s : State) : Host.Outcome State Fault Refusal :=
  .next (if (findSession s sid).isSome then expertLock sid value s else finish 0x17 [] s)

/-! ### Clamp records (R59, R60) -/

/-- Write one clamp record and its event-log record (R59, R60). -/
def clampRecord (index sub type sid : Nat) (ep : Endpoint) (requested applied : Nat) (s : State) : State :=
  let q := (s.dict.clampSeq + 1) % 2 ^ 32
  let b := leBytes 4 q ++ leBytes 2 index ++ leBytes 1 sub ++ leBytes 1 type ++ leBytes 2 sid ++
    leBytes 1 (epCode ep) ++ leBytes 5 0 ++ leBytes 8 requested ++ leBytes 8 applied
  let s := { s with dict := { s.dict with
    clampSeq := q
    clampTotal := min (s.dict.clampTotal + 1) (2 ^ 32 - 1)
    clampRecs := ((sid, b) :: s.dict.clampRecs).take 16 } }
  logRec { index := 0x1020, sub := 3, sev := 1, payload := b } s

/-! ### Transports with an effect of their own -/

/-- I3C target reset ends every session of the I3C target (R51). -/
def execI3cTargetReset (s : State) : Host.Outcome State Fault Refusal :=
  .next (endSessions (fun x => x.ep == .i3c) s)

/-- The 10BASE-T1S link down for more than 1 s ends every session of that port (R51). -/
def execT1sLinkDown (s : State) : Host.Outcome State Fault Refusal :=
  .next (endSessions (fun x => x.ep == .t1s) s)

/-- A common command of the I3C controller (R74). -/
def execI3cCcc (c : I3cCcc) (s : State) : Host.Outcome State Fault Refusal :=
  let i := s.dict.i3c
  .next { s with dict := { s.dict with i3c := match c with
    | .assignAddress a => { i with dynAddr := some a }
    | .resetAddress => { i with dynAddr := none }
    | .enableIbi => { i with ibiEnabled := true }
    | .disableIbi => { i with ibiEnabled := false } } }

/-- A private read returns the ready response, or is NACKed (R74). -/
def execI3cPrivateRead (s : State) : Host.Outcome State Fault Refusal :=
  match s.dict.i3c.response with
  | some b =>
    let i := { s.dict.i3c with response := none }
    .next { s with dict := { s.dict with i3c := i, out := s.dict.out ++ [⟨.i3c, 0, b⟩] } }
  | none => .next s

end Sys2Proof.Machine
end

