-- ==== Sys2Proof/Machine/Askar.lean ====
section
/-! DEFINITION. Askar's measurements, log, watermarks, alerts, firmware, keys, life cycle, tamper and attestation
(chapter 17): the meanings of its commands. -/
namespace Sys2Proof.Machine

/-- Apply a change to Askar alone. -/
def onAskar (f : Askar → Askar) (s : State) : State := { s with askar := f s.askar }

/-- Apply a change to keys, life cycle and tamper alone. -/
def onSec (f : Security → Security) (s : State) : State := onAskar (fun a => { a with sec := f a.sec }) s

/-- Apply a change to the firmware slots alone. -/
def onFw (f : Firmware → Firmware) (s : State) : State := onAskar (fun a => { a with fw := f a.fw }) s

/-- Fault every context with one cause (R520, R522). -/
def faultAll (cause : Nat) (s : State) : State :=
  s.work.ctxs.foldl (fun s e => ctxFault e.1 { cause := cause, source := 6 } s) s

/-! ### Sensors and power (R490 to R493) -/

/-- The hottest thermal sensor with a valid reading (R502, R504). -/
def hottest (s : State) : Option Int := (s.askar.temps.map (·.2)).max?

/-- A reading of sensor `i` (R490): an invalid one is counted, but for current sensor 175 on the QX4 (R553). -/
def sample1 (kind : SensorKind) (i : Nat) (v : Option Int) (s : State) : State :=
  let s := match kind with
    | .thermal => onAskar (fun a => { a with temps := match v with
        | some t => sput a.temps i t
        | none => sdel a.temps i }) s
    | .voltage => onAskar (fun a => { a with volts := match v with
        | some t => sput a.volts i t.toNat
        | none => sdel a.volts i }) s
    | .current => onAskar (fun a => { a with currs := match v with
        | some t => sput a.currs i t.toNat
        | none => sdel a.currs i }) s
  if v = none && !(kind = .current && i = 175 && s.part.variant = .qx4) then bump 0x2D08 4 s else s

def sampleAll (kind : SensorKind) : Nat → List (Option Int) → State → State
  | _, [], s => s
  | i, v :: t, s => sampleAll kind (i + 1) t (sample1 kind i v s)

/-- SENSOR_SAMPLE: readings of consecutive sensors of one kind; the temperature watermark is evaluated (R490, R499). -/
def sensorSample (kind : SensorKind) (first : Nat) (values : List (Option Int)) (s : State) : State :=
  let s := sampleAll kind first values s
  match kind, hottest s with
  | .thermal, some t => wmEval 7 t s
  | _, _ => s

def execSensorSample (kind : SensorKind) (first : Nat) (values : List (Option Int)) (s : State) :
    Host.Outcome State Fault Refusal := .next (sensorSample kind first values s)

/-- Average of a list of samples; 0 for none. -/
def mean (l : List Nat) : Nat := l.sum / l.length

/-- Highest average over a window of `w` samples, of windows that ended at the samples of the list (newest first).
Until the window's length has elapsed it covers what there is (R491). -/
def peakOf (w : Nat) : List Nat → Nat
  | [] => 0
  | x :: t => if (x :: t).length < w then 0 else max (mean ((x :: t).take w)) (peakOf w t)

/-- Peak of a window over the windows ended within the last 60 s (R491). -/
def peak (w : Nat) (l : List Nat) : Nat :=
  if l.length < w then mean l else peakOf w (l.take (6000000 + w - 1))

/-- A power report from the 10 µs samples, newest first (R491). -/
def reportOf (l : List Nat) : PwrReport :=
  { peak100us := peak 10 l, peak1ms := peak 100 l, peak10ms := peak 1000 l, peak1s := peak 100000 l,
    avg1ms := mean (l.take 100), avg1s := mean (l.take 100000), avg60s := mean (l.take 6000000) }

/-- One more sample of an entity. -/
def pushSample (v : Nat) (e : PwrEntity) : PwrEntity :=
  let l := (v :: e.samples).take 6100000
  { report := reportOf l, samples := l }

def pushAll : Nat → List Nat → SMap PwrEntity → SMap PwrEntity
  | _, [], m => m
  | i, v :: t, m => pushAll (i + 1) t (smod {} m i (pushSample v))

/-- UC requests of all partitions at a B-die since the last sample (R492). -/
def ucRequests (s : State) (b : Nat) : Nat := ((List.range 64).map fun p => sget 0 s.uc.reqCount (64 * b + p)).sum

/-- Power of the B-dies, stacks and IOD attributed to a partition (R492): per B-die its own power and its two stacks',
in proportion to the partition's share of its UC requests; the IOD's in proportion to the share over all B-dies
(assumption 20). -/
def attributed (s : State) (ent : List Nat) (p : Nat) : Nat :=
  let per := (List.range 4).map fun b =>
    let tot := ucRequests s b
    if tot = 0 then 0
    else (ent.getD (5 + b) 0 + ent.getD (10 + 2 * b) 0 + ent.getD (11 + 2 * b) 0) * sget 0 s.uc.reqCount (64 * b + p) / tot
  let all := ((List.range 4).map (ucRequests s)).sum
  let mine := ((List.range 4).map fun b => sget 0 s.uc.reqCount (64 * b + p)).sum
  per.sum + (if all = 0 then 0 else ent.getD 9 0 * mine / all)

/-- A partition's power: its sections' and what is attributed to it (R492). -/
def partPower (s : State) (ent secs : List Nat) (p : Nat) : Nat :=
  ((partGet s p).sections.map fun k => secs.getD k 0).sum + attributed s ent p

/-- POWER_SAMPLE: 10 µs powers of the entities, rails and sections in mW (R491, R492); the power watermark is
evaluated against the device's average over 100 µs (R502). -/
def powerSample (ent rails secs : List Nat) (s : State) : State :=
  let parts := (List.range 64).map (partPower s ent secs)
  let s := onAskar (fun a => { a with
    pwr := pushAll 0 ent a.pwr
    pwrRail := pushAll 0 rails a.pwrRail
    pwrPart := pushAll 0 parts a.pwrPart }) s
  let s := { s with uc := { s.uc with reqCount := [] } }
  wmEval 6 (mean ((sget {} s.askar.pwr 0).samples.take 10)) s

def execPowerSample (entities rails sections : List Nat) (s : State) : Host.Outcome State Fault Refusal :=
  .next (powerSample entities rails sections s)

/-! ### Log, watermark notices and the fan -/

/-- Append records to flash; when it is full, its oldest 1,024 records are erased (R496). -/
def persist : List LogRec → List LogRec → List LogRec
  | [], f => f
  | r :: t, f => persist t ((if f.length < 521216 then f else f.drop 1024) ++ [r])

/-- LOG_PERSIST: records waiting for flash are copied (R496). -/
def execLogPersist (s : State) : Host.Outcome State Fault Refusal :=
  .next (onAskar (fun a => { a with flash := persist a.toFlash a.flash, toFlash := [] }) s)

/-- The 64 bytes of a record (R494). -/
def logBytes (r : LogRec) : List Byte :=
  leBytes 4 r.seq ++ leBytes 2 r.body.index ++ leBytes 1 r.body.sub ++ leBytes 1 r.body.sev ++ leBytes 8 r.time ++
  leBytes 2 r.body.ctx ++ leBytes 1 r.body.part ++ leBytes 1 r.body.die ++ leBytes 1 r.body.payload.length ++
  leBytes 3 0 ++ slice r.body.payload 0 40

/-- `x` follows `y` modulo 2³² (R497). -/
def seqFollows (x y : Nat) : Bool := decide ((x + 2 ^ 32 - y % 2 ^ 32) % 2 ^ 32 < 2 ^ 31)

/-- The records a read of the buffer starts from (R497). -/
def bufferFrom (l : List LogRec) (q : Nat) : List LogRec :=
  if l.any fun r => r.seq == q then l.dropWhile fun r => r.seq != q else l.dropWhile fun r => !seqFollows r.seq q

/-- What LOG_RECORDS reads as in a session (R497). -/
def logRecords (s : State) (x : Session) : List Byte :=
  let l := if x.logSource = 0 then bufferFrom s.askar.log x.logFrom else s.askar.flash.drop x.logFrom
  ((l.take 16).map logBytes).flatten

/-- LOG_RECORDS read in a session (R497). -/
def execLogRecords (sid : Nat) (s : State) : Host.Outcome State Fault Refusal :=
  match findSession s sid with
  | some x => .next (finish 0 (logRecords s x) s)
  | none => .next (finish 0x17 [] s)

/-- WM_NOTICE: a deferred notice is given, 1 ms after the last (R501). -/
def execWmNotice (id : Nat) (s : State) : Host.Outcome State Fault Refusal :=
  .next (if (wmGet s id).due then wmGive id s else s)

/-- FAN_PWM's duty at a temperature, in 0.01 % (R504). -/
def fanDutyAt (t : Int) (low high minDuty : Nat) : Nat :=
  if t ≤ low then minDuty
  else if (high : Int) ≤ t then 10000
  else minDuty + ((10000 - minDuty) * (t - low).toNat) / (high - low)

/-- FAN_UPDATE (R504, R511): held while Askar does not run; a free value while no sensor reads (assumption 2). -/
def fanUpdate (s : State) : State :=
  if s.askar.run = .serving then
    match hottest s with
    | some t =>
      let d := fanDutyAt t (num s 0x2D2C 2 600) (num s 0x2D2C 3 900) (num s 0x2D2C 4 3000)
      onAskar (fun a => { a with fanDuty := d }) s
    | none => onAskar (fun a => { a with fanDuty := Config.freeNat s.freeCtr % 10001 }) { s with freeCtr := s.freeCtr + 1 }
  else s

def execFanUpdate (s : State) : Host.Outcome State Fault Refusal := .next (fanUpdate s)

/-! ### Firmware (R505 to R511) -/

def fwSlot (f : Firmware) (k : Nat) : List Byte := if k = 0 then f.slotA else f.slotB

def fwSetSlot (k : Nat) (b : List Byte) (f : Firmware) : Firmware :=
  if k = 0 then { f with slotA := b } else { f with slotB := b }

/-- One entry of the component table is well formed (R506, assumption 21). -/
def componentOk (img : List Byte) (i : Nat) : Bool :=
  let o := 16 + 16 * i
  let ty := field img o 1
  decide (1 ≤ ty) && decide (ty ≤ 5) && field img (o + 1) 3 == 0 && field img (o + 12) 4 == 0 &&
    decide (160 ≤ field img (o + 4) 4) && decide (field img (o + 4) 4 + field img (o + 8) 4 + 96 ≤ img.length)

/-- The header and component table of an image are well formed (R506). -/
def imageFormOk (img : List Byte) : Bool :=
  let n := field img 6 1
  field img 0 4 == 0x49414B53 && field img 4 2 == 1 && decide (1 ≤ n) && decide (n ≤ 8) &&
    decide (field img 7 1 ≤ 63) && field img 12 4 == img.length && decide (img.length ≤ 16777216) &&
    decide (256 ≤ img.length) && field img 144 16 == 0 && (List.range n).all (componentOk img)

/-- The signature of an image verifies under the ROOT key (R506). -/
def imageSigOk (p : Part) (img : List Byte) : Bool :=
  decide (256 ≤ img.length) &&
    Config.rootVerify p.rootHash (Config.sha384 (img.take (img.length - 96))) (img.drop (img.length - 96))

/-- The reason an image is not valid; 0 for a valid image (R506, R509, in the order of R509). -/
def imageReason (p : Part) (rollback : Nat) (img : List Byte) : Nat :=
  if !imageSigOk p img then 1
  else if field img 7 1 < rollback then 2
  else if !imageFormOk img then 3
  else 0

/-- VERSION of a slot's image; 0 for a slot whose image is not valid (R525). -/
def fwVersion (s : State) (k : Nat) : Nat :=
  let img := fwSlot s.askar.fw k
  if imageReason s.part s.askar.fw.rollback img = 0 then field img 8 4 else 0

/-- A record of a firmware state change (R495). -/
def fwLog (s : State) : State :=
  logEvent 0x2D30 2 2 (leBytes 1 (match s.askar.fw.st with
    | .idle => 0 | .staged => 1 | .verified => 2 | .trial => 3)) s

/-- The slot that an update stages into: the one that is not active (R508). -/
def inactiveSlot (f : Firmware) : Nat := 1 - f.active

/-- Put a staged image in place: the final segment of FW_IMAGE (R508). -/
def fwStaged (img : List Byte) (s : State) : State :=
  fwLog (onFw (fun f => { fwSetSlot (inactiveSlot f) img f with st := .staged }) s)

/-- A segment of FW_IMAGE at an offset (R69, R508, R509): offset 0 erases the slot. -/
def fwImage (off : Nat) (data : List Byte) (last : Bool) (s : State) : State :=
  let f := s.askar.fw
  let cur := if off = 0 then [] else fwSlot f (inactiveSlot f)
  if f.st = .trial then finish 0x19 [] s
  else if off ≠ cur.length then finish 0x1A [] (onFw (fun f => { fwSetSlot (inactiveSlot f) [] f with st := .idle }) s)
  else if 16777216 < off + data.length then
    finish 0x15 [] (onFw (fun f => { fwSetSlot (inactiveSlot f) [] f with st := .idle }) s)
  else if last then ok (fwStaged (cur ++ data) s)
  else ok (onFw (fun f => { fwSetSlot (inactiveSlot f) (cur ++ data) f with st := .idle }) s)

def execFwImage (off : Nat) (data : List Byte) (last : Bool) (s : State) : Host.Outcome State Fault Refusal :=
  .next (fwImage off data last s)

/-- FW_CMD answers CMD_FAILED and FW_REASON reports why (R509). -/
def fwFailed (reason : Nat) (s : State) : State := failed reason (onFw (fun f => { f with reason := reason }) s)

/-- FW_CMD verify (R508, R509). -/
def fwVerify (s : State) : State :=
  let f := s.askar.fw
  if f.st ≠ .staged then fwFailed 5 s
  else
    let r := imageReason s.part f.rollback (fwSlot f (inactiveSlot f))
    if r = 0 then ok (fwLog (onFw (fun f => { f with st := .verified, reason := 0 }) s)) else fwFailed r s

def execFwVerify (s : State) : Host.Outcome State Fault Refusal := .next (fwVerify s)

/-- FW_CMD activate: Askar restarts into the staged slot as a trial (R508). -/
def fwActivate (s : State) : State :=
  let f := s.askar.fw
  if f.st ≠ .verified then fwFailed 5 s
  else
    let s := onFw (fun f => { f with st := .trial, running := inactiveSlot f, trialAt := time s, reason := 0 }) s
    ok (askarStop .updating 2 (fwLog s))

def execFwActivate (s : State) : Host.Outcome State Fault Refusal := .next (fwActivate s)

/-- FW_CMD commit: the trial slot becomes active and the rollback counter rises to its ROLLBACK (R508). -/
def fwCommit (s : State) : State :=
  let f := s.askar.fw
  if f.st ≠ .trial then fwFailed 5 s
  else ok (fwLog (onFw (fun f => { f with
    st := .idle, active := f.running, rollback := max f.rollback (field (fwSlot f f.running) 7 1), reason := 0 }) s))

def execFwCommit (s : State) : Host.Outcome State Fault Refusal := .next (fwCommit s)

/-- A trial fails: Askar restarts into the previous slot, and FW_TRIAL_FAILED is latched (R508). -/
def trialFails (s : State) : State :=
  let s := onFw (fun f => { f with st := .idle, running := f.active, reason := 4 }) s
  latchAlert 4 (askarStop .updating 4 (fwLog s))

/-- FW_CMD abort: discards a STAGED or VERIFIED image, or ends a trial as a failed trial does (R508). -/
def fwAbort (s : State) : State :=
  match s.askar.fw.st with
  | .idle => fwFailed 5 s
  | .staged | .verified => ok (fwLog (onFw (fun f => { fwSetSlot (inactiveSlot f) [] f with st := .idle, reason := 0 }) s))
  | .trial => ok (trialFails s)

def execFwAbort (s : State) : Host.Outcome State Fault Refusal := .next (fwAbort s)

/-- FW_TRIAL_TIMEOUT: no commit within FW_TRIAL_S (R508). -/
def execFwTrialTimeout (s : State) : Host.Outcome State Fault Refusal :=
  .next (if s.askar.fw.st = .trial then trialFails s else s)

/-- WATCHDOG (R508, R510): three restarts within 60 s boot the other slot, three more put Askar in recovery. -/
def watchdog (s : State) : State :=
  if s.askar.fw.st = .trial then trialFails s
  else
    let recent := (time s :: s.askar.watchdogs).filter fun t => decide (time s < t + 60000000000)
    if recent.length < 3 then askarStop .restarting 1 (onAskar (fun a => { a with watchdogs := recent }) s)
    else if !s.askar.otherTried then
      askarStop .restarting 1 (onAskar (fun a => { a with
        watchdogs := [], otherTried := true, fw := { a.fw with running := 1 - a.fw.running } }) s)
    else setReady .failed 1 (askarStop .recovery 1 (onAskar (fun a => { a with watchdogs := [] }) s))

def execWatchdog (s : State) : Host.Outcome State Fault Refusal := .next (watchdog s)

/-- ASKAR_RESTART (R510): 1 restarts Askar. -/
def askarRestart (s : State) : State := ok (askarStop .restarting 3 s)

def execAskarRestart (s : State) : Host.Outcome State Fault Refusal := .next (askarRestart s)

/-- ASKAR_RST_N is asserted: an Askar-only reset, ignored until ASKAR_BOOT has ended (R580). -/
def execAskarOnlyReset (s : State) : Host.Outcome State Fault Refusal :=
  .next (if readyCode s.power.ready ≤ 1 then s else askarStop .restarting 5 s)

/-- Move the hardware event queue to the buffer, in order (R496). -/
def drainQueue : List (Nat × LogBody) → State → State
  | [], s => s
  | e :: t, s => drainQueue t (writeLog e.1 e.2 s)

/-- Askar begins to serve: it resumes its outputs and empties the hardware event queue (R496, R510, R511). -/
def serveAgain (s : State) : State :=
  let q := s.askar.hwQueue
  let s := onAskar (fun a => { a with run := .serving, hwQueue := [] }) s
  driveThrottle (driveAlert (drainQueue q s))

/-- ASKAR_SERVING (R510). -/
def execAskarServing (s : State) : Host.Outcome State Fault Refusal :=
  .next (if s.askar.run = .restarting || s.askar.run = .updating then serveAgain s else s)

/-! ### Boot (R507, R514, R523, R551) -/

/-- The running image's Askar component digest (R523). -/
def imageDigest (img : List Byte) (i : Nat) : BitVec 384 :=
  Config.sha384 (slice img (field img (16 + 16 * i + 4) 4) (field img (16 + 16 * i + 8) 4))

/-- A stored OWNER record still verifies under ROOT, a stored EXPERT record under OWNER (R514). -/
def signedPart (r : List Byte) : List Byte := r.take (r.length - 96)
def signatureOf (r : List Byte) : List Byte := r.drop (r.length - 96)

def ownerRecOk (p : Part) (r : List Byte) : Bool := Config.rootVerify p.rootHash (Config.sha384 (signedPart r)) (signatureOf r)

def expertRecOk (owner : Option (List Byte)) (r : List Byte) : Bool :=
  match owner with
  | some o => Config.ecdsaVerify (recordKey o) (Config.sha384 (signedPart r)) (signatureOf r)
  | none => false

/-- Verify the key records at boot: one that fails is treated as absent and logged as ERROR (R514). -/
def checkKeys (s : State) : State :=
  let s1 := match s.askar.sec.owner with
    | some r => if ownerRecOk s.part r then s
      else logEvent 0x2E03 1 3 [] (onSec (fun c => { c with owner := none }) s)
    | none => s
  match s1.askar.sec.expert with
  | some r => if expertRecOk s1.askar.sec.owner r then s1
    else logEvent 0x2E03 2 3 [] (onSec (fun c => { c with expert := none }) s1)
  | none => s1

/-- Boot the image in slot `k`: keys are verified and the alias certificate is made (R507, R514, R523). -/
def bootSlot (k : Nat) (s : State) : State :=
  let img := fwSlot s.askar.fw k
  let s := onFw (fun f => { f with running := k, st := .idle }) s
  checkKeys (onSec (fun c => { c with aliasCert := Config.aliasCert (imageDigest img 0) }) (serveAgain s))

/-- ASKAR_BOOT: the ROM boots the first valid image, or start-up ends in FAILED (R505, R507, R520, R551). -/
def askarBoot (s : State) : State :=
  if s.power.ready ≠ .askarBoot then s
  else
    let f := s.askar.fw
    if !f.flashOk then setReady .failed 2 s
    else if s.askar.sec.lc = .decommissioned then setReady .failed 3 (serveAgain s)
    else if imageReason s.part f.rollback (fwSlot f f.active) = 0 then setReady .powerUp 0 (bootSlot f.active s)
    else if imageReason s.part f.rollback (fwSlot f (inactiveSlot f)) = 0 then
      setReady .powerUp 0 (logEvent 0x2D30 1 2 (leBytes 1 (inactiveSlot f)) (bootSlot (inactiveSlot f) s))
    else setReady .failed 1 (onAskar (fun a => { a with run := .recovery }) s)

def execAskarBoot (s : State) : Host.Outcome State Fault Refusal := .next (askarBoot s)

/-! ### Signed provisioning (R514 to R517) -/

/-- PROV_NONCE: one nonce at a time, replaced by each read (R516). -/
def provNonce (s : State) : State :=
  let n := freshNonce s
  finish 0 n (onSec (fun c => { c with nonce := some { value := n, issuedAt := time s } })
    { s with freeCtr := s.freeCtr + 1 })

def execProvNonce (s : State) : Host.Outcome State Fault Refusal := .next (provNonce s)

/-- The signature of a record verifies under the key of its SIGNER role (R514, R515). -/
def roleVerify (s : State) (role : Nat) (r : List Byte) : Bool :=
  let d := Config.sha384 (signedPart r)
  match role with
  | 0 => Config.rootVerify s.part.rootHash d (signatureOf r)
  | 1 => (s.askar.sec.owner.map fun k => Config.ecdsaVerify (recordKey k) d (signatureOf r)).getD false
  | 2 => (s.askar.sec.expert.map fun k => Config.ecdsaVerify (recordKey k) d (signatureOf r)).getD false
  | _ => false

/-- The fields of a record are valid, for its kind and target (R515, R516). -/
def recordForm (s : State) (r : List Byte) (kind idx sub : Nat) : Bool :=
  let pl := field r 52 4
  let enc := field r 51 1 == 1
  field r 0 4 == 0x56525050 && field r 4 2 == 1 && field r 6 1 == kind && decide (field r 7 1 ≤ 2) &&
  field r 8 8 == s.part.serial && field r 48 2 == idx && field r 50 1 == sub && decide (field r 51 1 ≤ 1) &&
  decide (pl ≤ 16384) && r.length == 288 + pl && field r 60 4 == 0 && field r 188 4 == 0 &&
  (if kind = 4 then decide (1 ≤ field r 56 4) && decide (field r 56 4 ≤ 604800) else field r 56 4 == 0) &&
  (enc || (field r 64 96 == 0 && field r 160 12 == 0 && field r 172 16 == 0))

/-- The payload of a record, decrypted where it is encrypted (R515). -/
def recordPayload (r : List Byte) : Option (List Byte) :=
  let p := slice r 192 (field r 52 4)
  if field r 51 1 = 1 then Config.decrypt (slice r 64 96) (slice r 160 12) (slice r 172 16) p else some p

/-- Life-cycle states by their values (R519). -/
def lcCode : LcState → Nat
  | .blank => 0 | .provisioned => 1 | .deployed => 2 | .service => 3 | .rma => 4 | .decommissioned => 5

def lcOf : Nat → Option LcState
  | 0 => some .blank | 1 => some .provisioned | 2 => some .deployed | 3 => some .service | 4 => some .rma
  | 5 => some .decommissioned | _ => none

/-- The signers that may sign a transition; none where R519 has no such transition. -/
def lcSigners (a b : LcState) : List Nat :=
  match a, b with
  | .blank, .provisioned => [0]
  | .provisioned, .deployed => [1]
  | .deployed, .service => [1]
  | .service, .deployed => [1]
  | .deployed, .rma => [1]
  | .service, .rma => [1]
  | .rma, .provisioned => [0]
  | .decommissioned, .decommissioned => []
  | .blank, .decommissioned => [1, 0]
  | .rma, .decommissioned => [1, 0]
  | _, .decommissioned => [1]
  | _, _ => []

/-- SIGNER is permitted for the record's kind in the present state (R519). A transition that R519 does not list is left
to NOT_PERMITTED (R520). -/
def signerOk (lc : LcState) (kind signer : Nat) (payload : List Byte) : Bool :=
  match kind with
  | 1 => signer == 1 && lc != .decommissioned
  | 2 => match lcOf (field payload 0 1) with
    | some t => lcSigners lc t == [] || (lcSigners lc t).contains signer
    | none => true
  | 3 => (signer == 0 && (lc == .blank || lc == .provisioned || lc == .rma)) || (signer == 1 && lc != .decommissioned)
  | 4 => signer == 1 && lc == .deployed
  | _ => false

/-- The payload of a record that Askar accepts; none where R516 answers AUTH_FAILED. -/
def provCheck (s : State) (r : List Byte) (kind idx sub : Nat) : Option (List Byte) :=
  match recordPayload r with
  | none => none
  | some p =>
    if recordForm s r kind idx sub && nonceGood s s.askar.sec.nonce &&
       s.askar.sec.nonce.map (·.value) == some (slice r 16 32) && roleVerify s (field r 7 1) r &&
       signerOk s.askar.sec.lc kind (field r 7 1) p
    then some p else none

/-- The provisioning nonce is used up (R516). -/
def useNonce (s : State) : State := onSec (fun c => { c with nonce := c.nonce.map fun n => { n with used := true } }) s

/-- AUTH_FAILED. -/
def authFailed (s : State) : State := finish 0x24 [] s

/-- Wipe the sealed region (R517, R518). -/
def wipe (s : State) : State :=
  { onSec (fun c => { c with sealed := [] }) s with carrak := { s.carrak with crazeGrant := none } }

/-- KEY_UPDATE: a record signed by ROOT installs the OWNER key, one signed by OWNER the EXPERT key (R514, assumption
21). -/
def keyUpdate (r : List Byte) (s : State) : State :=
  match provCheck s r 3 0x2E03 3 with
  | none => authFailed s
  | some p =>
    if p.length ≠ 96 then authFailed s
    else ok (useNonce (onSec (fun c => if field r 7 1 = 0 then { c with owner := some r } else { c with expert := some r }) s))

def execKeyUpdate (record : List Byte) (s : State) : Host.Outcome State Fault Refusal := .next (keyUpdate record s)

/-- SEAL_WRITE of sealed slot `k` (R517): an empty payload empties the slot. -/
def sealWrite (k : Nat) (r : List Byte) (s : State) : State :=
  match provCheck s r 1 0x2E04 (k + 1) with
  | none => authFailed s
  | some p =>
    ok (useNonce (onSec (fun c => { c with sealed := if p = [] then sdel c.sealed k else sput c.sealed k p }) s))

def execSealWrite (slot : Nat) (record : List Byte) (s : State) : Host.Outcome State Fault Refusal :=
  .next (sealWrite slot record s)

/-- What a SEAL object reads as (R46, R517). -/
def sealDigest (s : State) (k : Nat) : List Byte :=
  match sfind s.askar.sec.sealed k with
  | some b => (leBytes 48 (Config.sha384 b).toNat).reverse
  | none => List.replicate 48 0

/-! ### Life cycle (R519, R520) -/

/-- The effects of an accepted transition, in the order of R520. -/
def lcTransition (t : LcState) (s : State) : State :=
  let old := s.askar.sec.lc
  let s := onSec (fun c => { c with lc := t, entriesLeft := c.entriesLeft - 1 }) s
  let s := endSessions (fun _ => true) (wipe s)
  let s := { s with carrak := { s.carrak with craze := none, crazeGrant := none } }
  let s := if old = .blank ∨ old = .rma then setNum 0x6E00 1 0 s else s
  let s := logEvent 0x2E00 1 4 (leBytes 1 (lcCode t)) s
  if t = .decommissioned then faultAll 0xA s else s

/-- LC_REQUEST (R516, R520). -/
def lcRequest (r : List Byte) (s : State) : State :=
  match provCheck s r 2 0x2E02 1 with
  | none => authFailed s
  | some p =>
    match (if p.length = 1 then lcOf (field p 0 1) else none) with
    | none => failed 1 s
    | some t =>
      if lcSigners s.askar.sec.lc t = [] then failed 1 s
      else if s.askar.sec.entriesLeft ≤ 1 ∧ t ≠ .decommissioned then failed 2 s
      else ok (lcTransition t (useNonce s))

def execLcRequest (record : List Byte) (s : State) : Host.Outcome State Fault Refusal := .next (lcRequest record s)

/-! ### Tamper (R521, R522, R581) -/

/-- Each armed source that fires sets its latch, counts, and writes its own record (R521). -/
def tamperOne (b : Nat) (s : State) : State :=
  let s := onSec (fun c => { c with tamperLatch := c.tamperLatch ||| 2 ^ b, tamperCount := min (c.tamperCount + 1) (2 ^ 32 - 1) }) s
  logEvent 0x2E00 4 4 (leBytes 4 s.askar.sec.tamperCount) (latchAlert 1 s)

/-- Tamper sources that fire together (R521, R522): one wipe, a record each. -/
def tamperEvent (sources : Nat) (s : State) : State :=
  let armed := (List.range 4).filter fun b => bit sources b && !bit (num s 0x6E00 1 0) b
  if armed = [] then s
  else
    let s := armed.foldl (fun s b => tamperOne b s) (wipe s)
    if num s 0x6E00 2 0 = 1 then faultAll 0xA (onSec (fun c => { c with tamperStop := true }) s) else s

def execTamperEvent (sources : Nat) (s : State) : Host.Outcome State Fault Refusal := .next (tamperEvent sources s)

/-- TAMPER_LOOP_OPEN: the lid sensor, source 3, fires (R581). -/
def execTamperLoopOpen (s : State) : Host.Outcome State Fault Refusal := .next (tamperEvent 8 s)

/-! ### Attestation (R524) -/

/-- ATTEST_NONCE: a challenge starts a report (R524). -/
def attestNonce (c : List Byte) (s : State) : State :=
  if s.askar.sec.lc = .decommissioned then finish 0x12 [] s
  else if c.length ≠ 32 then finish 0x15 [] s
  else if s.askar.sec.attestBusy then finish 0x19 [] s
  else ok (onSec (fun x => { x with challenge := c, attestBusy := true }) s)

def execAttestNonce (challenge : List Byte) (s : State) : Host.Outcome State Fault Refusal :=
  .next (attestNonce challenge s)

/-- A digest as its 48 bytes in output order (R6). -/
def digestBytes (d : BitVec 384) : List Byte := (leBytes 48 d.toNat).reverse

/-- The report but for its signature (R524). -/
def reportBody (s : State) : List Byte :=
  let img := fwSlot s.askar.fw s.askar.fw.running
  let n := field img 6 1
  s.askar.sec.challenge ++ leBytes 8 s.part.serial ++ leBytes 1 (lcCode s.askar.sec.lc) ++
  leBytes 1 s.askar.fw.rollback ++ leBytes 2 0 ++ leBytes 4 s.askar.sec.tamperCount ++ leBytes 4 s.helda.featureSet ++
  leBytes 12 0 ++
  ((List.range 8).map fun i => if i < n then digestBytes (imageDigest img i) else List.replicate 48 0).flatten ++
  ((List.range 8).map (sealDigest s)).flatten

/-- ATTEST_REPORT: the signed report becomes ready (R524). -/
def execAttestReport (s : State) : Host.Outcome State Fault Refusal :=
  if s.askar.sec.attestBusy then
    let b := reportBody s
    .next (onSec (fun c => { c with
      attestBusy := false
      report := b ++ (leBytes 96 (Config.aliasSign (Config.sha384 b)).toNat).reverse }) s)
  else .next s

end Sys2Proof.Machine
end

