-- ==== Sys2Proof/Machine/DictTable.lean ====
section
/-! DEFINITION. The objects of the dictionary as the tables of chapters 02, 03 and 05 to 19 list them (R43, R45 to R47, R80,
R112, R166, R188, R217, R242, R281, R306, R340, R375, R405, R433, R457, R486, R525, R526, R553, R569). -/
namespace Sys2Proof.Machine

/-- Subindexes `lo` to `hi` of an object: type, access and unit codes (R45 to R47), default, range and step. For a STR or
BLOB the range holds lengths; for an I32 the values are sign-extended to 64 bits. -/
structure Obj where
  idx : Nat
  lo : Nat
  hi : Nat
  ty : Nat
  acc : Nat
  unit : Nat
  dflt : Nat
  mn : Nat
  mx : Nat
  step : Nat
  deriving DecidableEq, Repr

def objsCommon1 : List Obj := [
  ⟨0x1000, 1, 1, 8, 0, 0, 0, 0, 1, 1⟩,
  ⟨0x1000, 2, 2, 10, 0, 0, 0, 0, 32, 1⟩,
  ⟨0x1000, 3, 3, 4, 0, 0, 0, 0, 18446744073709551615, 1⟩,
  ⟨0x1000, 4, 4, 9, 0, 0, 0, 0, 4294967295, 1⟩,
  ⟨0x1000, 5, 5, 4, 0, 1, 0, 0, 18446744073709551615, 1⟩,
  ⟨0x1000, 6, 6, 7, 0, 0, 0, 0, 1, 1⟩,
  ⟨0x1000, 7, 7, 1, 0, 0, 0, 0, 255, 1⟩,
  ⟨0x1001, 1, 1, 8, 0, 0, 0, 0, 9, 1⟩,
  ⟨0x1001, 2, 2, 12, 0, 2, 0, 0, 18446744073709551615, 1⟩,
  ⟨0x1001, 3, 3, 2, 0, 0, 0, 0, 65535, 1⟩,
  ⟨0x1001, 4, 4, 9, 0, 0, 0, 0, 131071, 1⟩,
  ⟨0x1002, 1, 4, 11, 0, 0, 0, 72, 72, 1⟩,
  ⟨0x1003, 1, 4, 2, 0, 0, 0, 0, 65535, 1⟩,
  ⟨0x1003, 5, 8, 2, 0, 0, 0, 0, 65535, 1⟩,
  ⟨0x1003, 9, 9, 2, 0, 0, 0, 0, 65535, 1⟩,
  ⟨0x1004, 1, 1, 8, 0, 0, 0, 0, 4, 1⟩,
  ⟨0x1004, 2, 2, 2, 0, 0, 0, 0, 65535, 1⟩,
  ⟨0x1008, 1, 1, 2, 0, 0, 256, 0, 65535, 1⟩,
  ⟨0x1008, 2, 2, 2, 0, 14, 0, 0, 65535, 1⟩,
  ⟨0x1010, 1, 1, 2, 0, 0, 0, 1, 65534, 1⟩,
  ⟨0x1010, 2, 2, 8, 0, 0, 0, 0, 2, 1⟩,
  ⟨0x1010, 3, 3, 2, 1, 5, 300, 10, 3600, 10⟩,
  ⟨0x1010, 4, 4, 7, 1, 0, 1, 0, 1, 1⟩,
  ⟨0x1011, 1, 1, 11, 0, 0, 0, 32, 32, 1⟩]

def objsCommon2 : List Obj := [
  ⟨0x1012, 1, 1, 11, 4, 0, 0, 96, 96, 1⟩,
  ⟨0x1013, 1, 1, 7, 4, 0, 0, 0, 1, 1⟩,
  ⟨0x1020, 1, 1, 3, 0, 0, 0, 0, 4294967295, 1⟩,
  ⟨0x1020, 2, 2, 1, 0, 14, 0, 0, 16, 1⟩,
  ⟨0x1020, 3, 3, 3, 0, 14, 0, 0, 4294967295, 1⟩,
  ⟨0x1020, 16, 31, 11, 0, 0, 0, 32, 32, 1⟩,
  ⟨0x1030, 1, 1, 3, 1, 14, 0, 0, 0, 1⟩,
  ⟨0x1030, 2, 2, 3, 1, 14, 0, 0, 0, 1⟩,
  ⟨0x1030, 3, 3, 3, 1, 14, 0, 0, 0, 1⟩,
  ⟨0x1030, 4, 4, 3, 1, 14, 0, 0, 0, 1⟩,
  ⟨0x1030, 5, 5, 3, 1, 14, 0, 0, 0, 1⟩]

def objsCore : List Obj := [
  ⟨0x2000, 1, 1, 2, 0, 14, 4608, 0, 65535, 1⟩,
  ⟨0x2000, 2, 2, 2, 0, 14, 144, 0, 65535, 1⟩,
  ⟨0x2001, 1, 144, 2, 1, 6, 1450, 600, 1600, 1⟩,
  ⟨0x2002, 1, 144, 2, 0, 6, 1450, 0, 65535, 1⟩,
  ⟨0x2003, 1, 1, 3, 1, 14, 0, 0, 0, 1⟩,
  ⟨0x2003, 2, 2, 3, 1, 14, 0, 0, 0, 1⟩,
  ⟨0x2004, 1, 1, 9, 1, 0, 48, 0, 127, 1⟩,
  ⟨0x6001, 1, 1, 7, 1, 0, 0, 0, 1, 1⟩]

def objsTile : List Obj := [
  ⟨0x2100, 1, 1, 3, 0, 1, 524288, 0, 4294967295, 1⟩,
  ⟨0x2100, 2, 2, 2, 0, 14, 128, 0, 65535, 1⟩,
  ⟨0x2101, 1, 1, 3, 1, 13, 4096, 64, 1048576, 1⟩,
  ⟨0x2101, 2, 2, 3, 1, 14, 0, 0, 0, 1⟩,
  ⟨0x2102, 1, 144, 8, 0, 0, 0, 0, 3, 1⟩,
  ⟨0x2103, 1, 1, 1, 4, 0, 0, 0, 143, 1⟩,
  ⟨0x2103, 2, 2, 8, 4, 0, 0, 0, 1, 1⟩,
  ⟨0x2104, 1, 1, 3, 1, 14, 0, 0, 0, 1⟩,
  ⟨0x2104, 2, 2, 3, 1, 14, 0, 0, 0, 1⟩,
  ⟨0x2105, 1, 1, 3, 1, 14, 0, 0, 0, 1⟩,
  ⟨0x2105, 2, 2, 1, 1, 14, 96, 1, 128, 1⟩,
  ⟨0x2105, 3, 3, 7, 3, 0, 0, 0, 1, 1⟩,
  ⟨0x2105, 4, 4, 7, 0, 0, 0, 0, 1, 1⟩,
  ⟨0x2105, 5, 5, 2, 1, 14, 0, 0, 0, 1⟩,
  ⟨0x2105, 6, 6, 3, 1, 14, 0, 0, 0, 1⟩,
  ⟨0x2105, 7, 7, 3, 1, 14, 0, 0, 0, 1⟩,
  ⟨0x2105, 8, 8, 3, 1, 14, 0, 0, 0, 1⟩,
  ⟨0x6101, 1, 1, 9, 1, 0, 16, 0, 31, 1⟩]

def objsMem : List Obj := [
  ⟨0x2200, 1, 1, 1, 0, 0, 48, 0, 255, 1⟩,
  ⟨0x2200, 2, 2, 1, 0, 14, 64, 0, 255, 1⟩,
  ⟨0x2201, 1, 1, 7, 1, 0, 0, 0, 1, 1⟩,
  ⟨0x2201, 2, 2, 8, 1, 0, 0, 0, 4, 1⟩,
  ⟨0x2201, 3, 3, 7, 1, 0, 0, 0, 1, 1⟩,
  ⟨0x2201, 4, 4, 7, 1, 0, 1, 0, 1, 1⟩,
  ⟨0x2206, 1, 1, 2, 4, 0, 0, 0, 1023, 1⟩,
  ⟨0x2206, 2, 2, 4, 4, 0, 0, 0, 281474976645120, 65536⟩,
  ⟨0x2206, 3, 3, 3, 4, 14, 0, 0, 4294967295, 1⟩,
  ⟨0x2207, 1, 1, 2, 4, 0, 0, 0, 1023, 1⟩,
  ⟨0x2207, 2, 2, 1, 4, 0, 0, 0, 63, 1⟩,
  ⟨0x2207, 3, 3, 11, 4, 0, 0, 32, 32, 1⟩,
  ⟨0x2208, 1, 1, 3, 1, 14, 0, 0, 0, 1⟩,
  ⟨0x2208, 2, 2, 3, 1, 14, 0, 0, 0, 1⟩,
  ⟨0x2209, 1, 1, 2, 0, 0, 0, 0, 1023, 1⟩,
  ⟨0x2209, 2, 2, 8, 0, 0, 0, 0, 9, 1⟩,
  ⟨0x2209, 3, 3, 4, 0, 0, 0, 0, 18446744073709551615, 1⟩,
  ⟨0x6208, 1, 1, 7, 1, 0, 0, 0, 1, 1⟩]

def objsNet1 : List Obj := [
  ⟨0x2300, 1, 1, 2, 0, 6, 1600, 0, 65535, 1⟩,
  ⟨0x2300, 2, 2, 2, 0, 14, 4096, 0, 65535, 1⟩,
  ⟨0x2300, 3, 3, 1, 0, 14, 64, 0, 255, 1⟩,
  ⟨0x2300, 4, 7, 1, 0, 13, 0, 4, 8, 1⟩,
  ⟨0x2300, 8, 8, 2, 0, 6, 2000, 0, 65535, 1⟩,
  ⟨0x2301, 1, 1, 3, 1, 14, 0, 0, 0, 1⟩,
  ⟨0x2301, 2, 2, 3, 1, 14, 0, 0, 0, 1⟩,
  ⟨0x2301, 3, 3, 3, 1, 14, 0, 0, 0, 1⟩,
  ⟨0x2301, 4, 4, 3, 1, 14, 0, 0, 0, 1⟩,
  ⟨0x2303, 1, 1, 1, 1, 0, 8, 1, 16, 1⟩,
  ⟨0x2303, 2, 2, 1, 1, 0, 4, 1, 16, 1⟩,
  ⟨0x2303, 3, 3, 1, 1, 0, 2, 1, 16, 1⟩,
  ⟨0x2303, 4, 4, 1, 1, 0, 1, 1, 16, 1⟩,
  ⟨0x2303, 5, 5, 1, 1, 0, 2, 0, 3, 1⟩,
  ⟨0x2304, 1, 1, 11, 4, 0, 0, 512, 512, 1⟩,
  ⟨0x2305, 1, 1, 1, 4, 0, 0, 0, 31, 1⟩,
  ⟨0x2305, 2, 2, 11, 4, 0, 0, 16, 16, 1⟩,
  ⟨0x2306, 1, 1, 4, 1, 14, 0, 0, 0, 1⟩,
  ⟨0x2310, 1, 24, 4, 1, 13, 0, 0, 0, 1⟩,
  ⟨0x2311, 1, 64, 4, 1, 13, 0, 0, 0, 1⟩,
  ⟨0x2312, 1, 12, 4, 1, 13, 0, 0, 0, 1⟩,
  ⟨0x2313, 1, 1, 1, 1, 14, 48, 1, 96, 1⟩,
  ⟨0x2313, 2, 2, 7, 3, 0, 0, 0, 1, 1⟩,
  ⟨0x2313, 3, 3, 7, 0, 0, 0, 0, 1, 1⟩]

def objsNet2 : List Obj := [
  ⟨0x2313, 4, 4, 2, 1, 14, 0, 0, 0, 1⟩,
  ⟨0x2314, 1, 1, 4, 1, 14, 0, 0, 0, 1⟩,
  ⟨0x2314, 2, 2, 4, 1, 14, 0, 0, 0, 1⟩,
  ⟨0x2315, 1, 1, 4, 1, 14, 0, 0, 0, 1⟩,
  ⟨0x6303, 1, 1, 3, 1, 13, 1024, 256, 65536, 1⟩]

def objsUc1 : List Obj := [
  ⟨0x2400, 1, 1, 2, 0, 14, 256, 0, 65535, 1⟩,
  ⟨0x2400, 2, 2, 4, 0, 1, 1073741824, 0, 18446744073709551615, 1⟩,
  ⟨0x2400, 3, 3, 1, 0, 14, 12, 0, 255, 1⟩,
  ⟨0x2400, 4, 4, 2, 0, 6, 1200, 0, 65535, 1⟩,
  ⟨0x2401, 1, 1, 8, 1, 0, 1, 0, 2, 1⟩,
  ⟨0x2402, 1, 1, 3, 1, 5, 3600, 60, 86400, 60⟩,
  ⟨0x2403, 1, 1, 4, 1, 14, 0, 0, 0, 1⟩,
  ⟨0x2403, 2, 2, 4, 1, 14, 0, 0, 0, 1⟩,
  ⟨0x2403, 3, 3, 4, 1, 14, 0, 0, 0, 1⟩,
  ⟨0x2403, 4, 4, 4, 1, 14, 0, 0, 0, 1⟩,
  ⟨0x2403, 5, 5, 4, 1, 14, 0, 0, 0, 1⟩,
  ⟨0x2404, 1, 1, 4, 1, 14, 0, 0, 0, 1⟩,
  ⟨0x2404, 2, 2, 4, 1, 14, 0, 0, 0, 1⟩,
  ⟨0x2404, 3, 3, 4, 1, 14, 0, 0, 0, 1⟩,
  ⟨0x2404, 4, 4, 4, 1, 14, 0, 0, 0, 1⟩,
  ⟨0x2404, 5, 5, 4, 1, 13, 0, 0, 0, 1⟩,
  ⟨0x2405, 1, 1, 2, 1, 14, 192, 1, 256, 1⟩,
  ⟨0x2405, 2, 2, 7, 3, 0, 0, 0, 1, 1⟩,
  ⟨0x2405, 3, 3, 7, 0, 0, 0, 0, 1, 1⟩,
  ⟨0x2405, 4, 4, 2, 1, 14, 0, 0, 0, 1⟩,
  ⟨0x2406, 1, 1, 3, 1, 14, 0, 0, 0, 1⟩,
  ⟨0x2406, 2, 2, 3, 1, 14, 0, 0, 0, 1⟩,
  ⟨0x2406, 3, 3, 3, 1, 14, 0, 0, 0, 1⟩,
  ⟨0x2406, 4, 4, 3, 1, 14, 0, 0, 0, 1⟩]

def objsUc2 : List Obj := [
  ⟨0x2407, 1, 1, 3, 1, 14, 0, 0, 0, 1⟩,
  ⟨0x2408, 1, 1, 2, 4, 0, 0, 0, 1023, 1⟩,
  ⟨0x2408, 2, 2, 8, 4, 0, 0, 0, 1, 1⟩,
  ⟨0x2409, 1, 1, 4, 1, 14, 0, 0, 0, 1⟩,
  ⟨0x2409, 2, 2, 4, 1, 14, 0, 0, 0, 1⟩,
  ⟨0x2409, 3, 3, 4, 1, 14, 0, 0, 0, 1⟩,
  ⟨0x6402, 1, 1, 7, 1, 0, 1, 0, 1, 1⟩,
  ⟨0x6404, 1, 1, 7, 1, 0, 0, 0, 1, 1⟩]

def objsBezel : List Obj := [
  ⟨0x2500, 1, 1, 2, 0, 13, 128, 0, 65535, 1⟩,
  ⟨0x2500, 2, 2, 3, 0, 2, 2000, 0, 4294967295, 1⟩,
  ⟨0x2500, 3, 3, 2, 0, 14, 512, 0, 65535, 1⟩,
  ⟨0x2500, 4, 4, 3, 0, 14, 1048576, 0, 4294967295, 1⟩,
  ⟨0x2501, 1, 1, 3, 1, 14, 0, 0, 0, 1⟩,
  ⟨0x2501, 2, 2, 4, 1, 14, 0, 0, 0, 1⟩,
  ⟨0x2501, 3, 3, 4, 1, 14, 0, 0, 0, 1⟩,
  ⟨0x2501, 4, 4, 4, 1, 14, 0, 0, 0, 1⟩,
  ⟨0x2501, 5, 5, 4, 1, 14, 0, 0, 0, 1⟩,
  ⟨0x2501, 6, 6, 4, 1, 14, 0, 0, 0, 1⟩,
  ⟨0x2501, 7, 7, 4, 1, 14, 0, 0, 0, 1⟩,
  ⟨0x2502, 1, 4, 8, 0, 0, 0, 0, 3, 1⟩,
  ⟨0x2502, 5, 8, 2, 0, 0, 0, 1, 65535, 1⟩,
  ⟨0x2503, 1, 1, 1, 4, 0, 0, 0, 3, 1⟩,
  ⟨0x2503, 2, 2, 8, 4, 0, 0, 0, 1, 1⟩,
  ⟨0x2504, 1, 1, 3, 1, 14, 0, 0, 0, 1⟩,
  ⟨0x2504, 2, 2, 3, 1, 14, 0, 0, 0, 1⟩,
  ⟨0x2504, 3, 3, 4, 1, 14, 0, 0, 0, 1⟩,
  ⟨0x2504, 4, 4, 4, 1, 14, 0, 0, 0, 1⟩,
  ⟨0x2505, 1, 1, 2, 1, 14, 384, 1, 512, 1⟩,
  ⟨0x2505, 2, 2, 7, 3, 0, 0, 0, 1, 1⟩,
  ⟨0x2505, 3, 3, 7, 0, 0, 0, 0, 1, 1⟩,
  ⟨0x2505, 4, 4, 2, 1, 14, 0, 0, 0, 1⟩]

def objsHbm1 : List Obj := [
  ⟨0x2600, 1, 1, 1, 0, 14, 8, 0, 255, 1⟩,
  ⟨0x2600, 2, 2, 4, 0, 12, 16384000000000, 0, 18446744073709551615, 1⟩,
  ⟨0x2600, 3, 3, 3, 0, 1, 562500, 0, 4294967295, 1⟩,
  ⟨0x2601, 1, 8, 5, 0, 10, 0, 18446744071562067968, 2147483647, 1⟩,
  ⟨0x2601, 9, 16, 8, 0, 0, 0, 0, 5, 1⟩,
  ⟨0x2601, 17, 24, 3, 1, 14, 0, 0, 0, 1⟩,
  ⟨0x2602, 1, 1, 2, 1, 10, 850, 500, 1010, 1⟩,
  ⟨0x2602, 2, 2, 2, 1, 10, 880, 500, 1020, 1⟩,
  ⟨0x2602, 3, 3, 2, 1, 10, 910, 500, 1030, 1⟩,
  ⟨0x2602, 4, 4, 2, 1, 10, 940, 500, 1040, 1⟩,
  ⟨0x2602, 5, 5, 2, 1, 10, 970, 500, 1050, 1⟩,
  ⟨0x2602, 6, 6, 2, 1, 10, 30, 5, 100, 1⟩,
  ⟨0x2603, 1, 1, 1, 1, 14, 8, 1, 255, 1⟩,
  ⟨0x2603, 2, 2, 3, 1, 5, 3600, 60, 604800, 60⟩,
  ⟨0x2604, 1, 1, 2, 0, 14, 0, 0, 16384, 1⟩,
  ⟨0x2604, 2, 2, 4, 1, 14, 0, 0, 0, 1⟩,
  ⟨0x2604, 3, 3, 3, 1, 14, 0, 0, 0, 1⟩,
  ⟨0x2604, 4, 4, 3, 1, 14, 0, 0, 0, 1⟩,
  ⟨0x2604, 5, 5, 2, 0, 14, 0, 0, 4096, 1⟩,
  ⟨0x2604, 6, 6, 2, 0, 14, 0, 0, 4096, 1⟩,
  ⟨0x2604, 7, 7, 3, 1, 14, 0, 0, 0, 1⟩,
  ⟨0x2605, 1, 1, 1, 4, 0, 0, 0, 7, 1⟩,
  ⟨0x2605, 2, 2, 1, 4, 0, 0, 0, 31, 1⟩,
  ⟨0x2605, 3, 3, 1, 4, 0, 0, 0, 1, 1⟩]

def objsHbm2 : List Obj := [
  ⟨0x2605, 4, 4, 1, 4, 0, 0, 0, 4, 1⟩,
  ⟨0x2605, 5, 5, 1, 4, 0, 0, 0, 15, 1⟩,
  ⟨0x2605, 6, 6, 2, 4, 0, 0, 0, 34207, 1⟩,
  ⟨0x2605, 7, 7, 1, 4, 0, 0, 0, 3, 1⟩,
  ⟨0x2606, 1, 8, 11, 0, 0, 0, 8192, 8192, 1⟩,
  ⟨0x2607, 1, 1, 4, 1, 14, 0, 0, 0, 1⟩,
  ⟨0x2607, 2, 2, 4, 1, 14, 0, 0, 0, 1⟩,
  ⟨0x2607, 3, 3, 4, 1, 14, 0, 0, 0, 1⟩,
  ⟨0x2607, 4, 4, 3, 1, 14, 0, 0, 0, 1⟩,
  ⟨0x2608, 1, 1, 1, 4, 0, 0, 0, 63, 1⟩,
  ⟨0x2608, 2, 5, 4, 4, 12, 0, 0, 18446744073709551615, 1000000000⟩,
  ⟨0x2609, 1, 64, 11, 0, 0, 0, 32, 32, 1⟩,
  ⟨0x260A, 1, 4, 4, 0, 12, 4096000000000, 0, 18446744073709551615, 1⟩,
  ⟨0x260A, 5, 8, 2, 0, 11, 10000, 0, 10000, 1⟩,
  ⟨0x260A, 9, 9, 7, 3, 0, 0, 0, 1, 1⟩,
  ⟨0x260A, 10, 10, 7, 0, 0, 0, 0, 1, 1⟩,
  ⟨0x260A, 11, 11, 2, 1, 14, 0, 0, 0, 1⟩,
  ⟨0x260B, 1, 4, 4, 1, 1, 0, 0, 0, 1⟩,
  ⟨0x260B, 5, 8, 4, 1, 1, 0, 0, 0, 1⟩,
  ⟨0x6603, 1, 1, 7, 1, 0, 1, 0, 1, 1⟩,
  ⟨0x6607, 1, 1, 7, 1, 0, 1, 0, 1, 1⟩]

def objsHelda : List Obj := [
  ⟨0x2700, 1, 1, 1, 0, 14, 8, 0, 255, 1⟩,
  ⟨0x2700, 2, 2, 2, 0, 0, 256, 0, 65535, 1⟩,
  ⟨0x2701, 1, 9, 8, 0, 0, 0, 0, 6, 1⟩,
  ⟨0x2702, 1, 9, 2, 0, 0, 0, 0, 65535, 1⟩,
  ⟨0x2703, 1, 9, 3, 1, 14, 0, 0, 0, 1⟩,
  ⟨0x2704, 1, 9, 3, 1, 14, 0, 0, 0, 1⟩,
  ⟨0x2705, 1, 9, 1, 0, 14, 0, 0, 8, 1⟩,
  ⟨0x2706, 1, 1, 3, 1, 14, 0, 0, 0, 1⟩,
  ⟨0x2707, 1, 1, 7, 1, 0, 1, 0, 1, 1⟩,
  ⟨0x2707, 2, 2, 8, 1, 0, 2, 0, 2, 1⟩,
  ⟨0x2707, 3, 3, 8, 0, 0, 0, 0, 2, 1⟩,
  ⟨0x2707, 4, 4, 2, 0, 0, 0, 0, 65535, 1⟩,
  ⟨0x2707, 5, 5, 2, 0, 0, 0, 0, 65535, 1⟩,
  ⟨0x2707, 6, 6, 2, 0, 0, 0, 0, 65535, 1⟩,
  ⟨0x2707, 7, 7, 2, 0, 0, 0, 0, 65535, 1⟩,
  ⟨0x2708, 1, 8, 4, 1, 0, 0, 0, 18446744073709486080, 65536⟩,
  ⟨0x2708, 9, 16, 4, 1, 1, 0, 0, 72057594037927936, 65536⟩,
  ⟨0x2709, 1, 6, 5, 0, 10, 18446744071562067968, 18446744071562067968, 2147483647, 1⟩,
  ⟨0x2709, 7, 12, 3, 0, 9, 0, 0, 4294967295, 1⟩,
  ⟨0x2709, 13, 18, 3, 1, 14, 0, 0, 0, 1⟩,
  ⟨0x6701, 1, 1, 1, 4, 0, 0, 0, 8, 1⟩,
  ⟨0x6701, 2, 2, 8, 4, 0, 0, 0, 2, 1⟩,
  ⟨0x6703, 1, 1, 2, 1, 3, 100, 20, 1000, 1⟩]

def objsLink1 : List Obj := [
  ⟨0x2800, 1, 1, 1, 0, 14, 24, 0, 255, 1⟩,
  ⟨0x2800, 2, 2, 1, 0, 0, 1, 0, 255, 1⟩,
  ⟨0x2801, 1, 1, 8, 1, 0, 1, 0, 1, 1⟩,
  ⟨0x2801, 2, 2, 1, 1, 0, 0, 0, 255, 1⟩,
  ⟨0x2801, 3, 3, 8, 0, 0, 0, 0, 3, 1⟩,
  ⟨0x2801, 4, 4, 8, 4, 0, 0, 0, 1, 1⟩,
  ⟨0x2801, 5, 5, 3, 1, 14, 0, 0, 0, 1⟩,
  ⟨0x2802, 1, 24, 8, 0, 0, 0, 0, 6, 1⟩,
  ⟨0x2803, 1, 24, 2, 0, 0, 0, 0, 65535, 1⟩,
  ⟨0x2804, 1, 24, 3, 0, 0, 0, 0, 4294967295, 1⟩,
  ⟨0x2805, 1, 24, 1, 0, 14, 0, 0, 8, 1⟩,
  ⟨0x2806, 1, 24, 1, 1, 0, 0, 0, 7, 1⟩,
  ⟨0x2807, 1, 24, 7, 1, 0, 0, 0, 1, 1⟩,
  ⟨0x2808, 1, 24, 7, 0, 0, 0, 0, 1, 1⟩,
  ⟨0x2809, 1, 24, 11, 0, 0, 0, 64, 64, 1⟩,
  ⟨0x280A, 1, 1, 1, 4, 0, 0, 0, 23, 1⟩,
  ⟨0x280B, 1, 1, 11, 0, 0, 0, 1024, 1024, 1⟩,
  ⟨0x280B, 2, 2, 2, 0, 14, 0, 0, 255, 1⟩,
  ⟨0x280B, 3, 3, 3, 1, 14, 0, 0, 0, 1⟩,
  ⟨0x280B, 4, 4, 3, 1, 14, 0, 0, 0, 1⟩,
  ⟨0x280C, 1, 1, 1, 4, 0, 0, 0, 23, 1⟩,
  ⟨0x280C, 2, 2, 8, 4, 0, 0, 0, 1, 1⟩,
  ⟨0x280C, 3, 3, 3, 1, 14, 0, 0, 0, 1⟩,
  ⟨0x280D, 1, 1, 2, 0, 14, 4096, 0, 65535, 1⟩]

def objsLink2 : List Obj := [
  ⟨0x280D, 2, 2, 4, 1, 14, 0, 0, 0, 1⟩,
  ⟨0x280E, 1, 1, 2, 1, 14, 3072, 1, 4096, 1⟩,
  ⟨0x280E, 2, 2, 7, 3, 0, 0, 0, 1, 1⟩,
  ⟨0x280E, 3, 3, 7, 0, 0, 0, 0, 1, 1⟩,
  ⟨0x280E, 4, 4, 2, 1, 14, 0, 0, 0, 1⟩,
  ⟨0x2820, 1, 1, 8, 0, 0, 0, 0, 2, 1⟩,
  ⟨0x2820, 2, 2, 4, 1, 14, 0, 0, 0, 1⟩,
  ⟨0x2821, 1, 1, 12, 0, 2, 0, 0, 18446744073709551615, 1⟩,
  ⟨0x6802, 1, 1, 1, 4, 0, 0, 0, 23, 1⟩,
  ⟨0x6802, 2, 2, 8, 4, 0, 0, 0, 2, 1⟩,
  ⟨0x6805, 1, 1, 3, 1, 3, 1000, 100, 20000, 1⟩,
  ⟨0x6805, 2, 2, 3, 1, 3, 0, 0, 1000000, 1⟩,
  ⟨0x6820, 1, 1, 8, 4, 0, 0, 0, 1, 1⟩,
  ⟨0x6820, 2, 2, 1, 4, 0, 0, 0, 23, 1⟩,
  ⟨0x6820, 3, 3, 8, 4, 0, 0, 0, 1, 1⟩,
  ⟨0x6820, 4, 4, 9, 4, 0, 1, 0, 7, 1⟩,
  ⟨0x6820, 5, 5, 1, 4, 0, 20, 4, 30, 1⟩,
  ⟨0x6820, 6, 6, 3, 4, 0, 1, 0, 4294967295, 1⟩,
  ⟨0x6820, 7, 7, 3, 4, 4, 1000, 1, 3600000, 1⟩,
  ⟨0x6820, 8, 8, 7, 4, 0, 0, 0, 1, 1⟩,
  ⟨0x6821, 1, 1, 11, 5, 0, 0, 0, 16672, 1⟩]

def objsHost : List Obj := [
  ⟨0x2900, 1, 1, 8, 0, 0, 0, 0, 6, 1⟩,
  ⟨0x2900, 2, 2, 1, 0, 14, 0, 0, 16, 1⟩,
  ⟨0x2900, 3, 3, 7, 0, 0, 0, 0, 1, 1⟩,
  ⟨0x2900, 4, 4, 7, 0, 0, 0, 0, 1, 1⟩,
  ⟨0x2901, 1, 1, 7, 1, 0, 0, 0, 1, 1⟩,
  ⟨0x2902, 1, 64, 1, 0, 0, 64, 0, 64, 1⟩,
  ⟨0x2903, 1, 1, 1, 4, 0, 0, 0, 63, 1⟩,
  ⟨0x2903, 2, 2, 1, 4, 0, 64, 0, 64, 1⟩,
  ⟨0x2903, 3, 3, 4, 4, 0, 0, 0, 549755748352, 65536⟩,
  ⟨0x2903, 4, 4, 4, 4, 1, 0, 0, 18446744073709551615, 65536⟩,
  ⟨0x2905, 1, 1, 2, 4, 0, 0, 0, 1023, 1⟩,
  ⟨0x2905, 2, 2, 8, 4, 0, 0, 0, 1, 1⟩,
  ⟨0x2905, 3, 3, 4, 4, 0, 0, 0, 18446744073709551615, 4096⟩,
  ⟨0x2905, 4, 4, 1, 4, 0, 6, 4, 12, 1⟩,
  ⟨0x2905, 5, 5, 4, 4, 0, 0, 0, 18446744073709551615, 4096⟩,
  ⟨0x2905, 6, 6, 1, 4, 0, 6, 4, 12, 1⟩,
  ⟨0x2905, 7, 7, 2, 4, 0, 16, 16, 1023, 1⟩,
  ⟨0x2905, 8, 8, 3, 4, 2, 0, 0, 1000000, 100⟩,
  ⟨0x2906, 1, 1, 2, 0, 14, 0, 0, 1024, 1⟩,
  ⟨0x2906, 2, 2, 3, 1, 14, 0, 0, 0, 1⟩,
  ⟨0x2906, 3, 3, 3, 1, 14, 0, 0, 0, 1⟩,
  ⟨0x2906, 4, 4, 3, 1, 14, 0, 0, 0, 1⟩,
  ⟨0x2907, 1, 6, 3, 1, 14, 0, 0, 0, 1⟩,
  ⟨0x6905, 1, 1, 1, 1, 14, 4, 1, 8, 1⟩]

def objsPlan : List Obj := [
  ⟨0x2A00, 1, 1, 1, 0, 14, 32, 0, 255, 1⟩,
  ⟨0x2A00, 2, 2, 2, 0, 13, 12000, 0, 65535, 1⟩,
  ⟨0x2A00, 3, 3, 3, 0, 14, 16777216, 0, 4294967295, 1⟩,
  ⟨0x2A00, 4, 7, 1, 0, 14, 64, 0, 64, 1⟩,
  ⟨0x2A01, 1, 1, 2, 4, 0, 0, 0, 1023, 1⟩,
  ⟨0x2A01, 2, 2, 1, 4, 0, 0, 0, 31, 1⟩,
  ⟨0x2A01, 3, 3, 4, 4, 0, 0, 0, 549755809792, 4096⟩,
  ⟨0x2A01, 4, 4, 1, 4, 0, 0, 0, 143, 1⟩,
  ⟨0x2A02, 1, 1, 2, 4, 0, 0, 0, 1023, 1⟩,
  ⟨0x2A02, 2, 2, 1, 4, 0, 0, 0, 31, 1⟩,
  ⟨0x2A03, 1, 1, 3, 1, 14, 0, 0, 0, 1⟩,
  ⟨0x2A03, 2, 2, 3, 1, 14, 0, 0, 0, 1⟩,
  ⟨0x2A03, 3, 3, 4, 1, 14, 0, 0, 0, 1⟩,
  ⟨0x2A03, 4, 4, 3, 1, 14, 0, 0, 0, 1⟩,
  ⟨0x2A03, 5, 5, 4, 1, 14, 0, 0, 0, 1⟩,
  ⟨0x2A04, 1, 64, 11, 0, 0, 0, 16, 16, 1⟩,
  ⟨0x6A03, 1, 1, 7, 1, 0, 0, 0, 1, 1⟩]

def objsPlumb : List Obj := [
  ⟨0x2B00, 1, 1, 1, 0, 14, 4, 0, 255, 1⟩,
  ⟨0x2B00, 2, 2, 2, 0, 14, 256, 0, 65535, 1⟩,
  ⟨0x2B00, 3, 3, 1, 0, 14, 32, 0, 255, 1⟩,
  ⟨0x2B00, 4, 4, 2, 0, 13, 1552, 0, 65535, 1⟩,
  ⟨0x2B01, 1, 4, 1, 0, 14, 64, 0, 64, 1⟩,
  ⟨0x2B02, 1, 1, 1, 4, 0, 0, 0, 63, 1⟩,
  ⟨0x2B02, 2, 5, 1, 4, 14, 0, 0, 64, 1⟩,
  ⟨0x2B03, 1, 64, 3, 0, 0, 0, 0, 4294967295, 1⟩,
  ⟨0x2B04, 1, 1, 4, 1, 14, 0, 0, 0, 1⟩,
  ⟨0x2B04, 2, 2, 4, 1, 14, 0, 0, 0, 1⟩,
  ⟨0x2B04, 3, 3, 4, 1, 14, 0, 0, 0, 1⟩,
  ⟨0x2B04, 4, 4, 4, 1, 14, 0, 0, 0, 1⟩,
  ⟨0x2B04, 5, 5, 4, 1, 14, 0, 0, 0, 1⟩,
  ⟨0x2B04, 6, 6, 3, 1, 14, 0, 0, 0, 1⟩,
  ⟨0x2B05, 1, 4, 4, 1, 13, 0, 0, 0, 1⟩]

def objsPart1 : List Obj := [
  ⟨0x2C00, 1, 1, 1, 0, 14, 64, 0, 255, 1⟩,
  ⟨0x2C00, 2, 2, 1, 0, 14, 16, 0, 255, 1⟩,
  ⟨0x2C00, 3, 3, 3, 0, 1, 742400, 0, 4294967295, 1⟩,
  ⟨0x2C00, 4, 4, 3, 0, 2, 40000, 0, 4294967295, 1⟩,
  ⟨0x2C01, 1, 1, 1, 4, 0, 0, 0, 63, 1⟩,
  ⟨0x2C01, 2, 2, 8, 4, 0, 0, 0, 2, 1⟩,
  ⟨0x2C01, 3, 3, 11, 4, 0, 0, 18, 18, 1⟩,
  ⟨0x2C02, 1, 1, 1, 4, 0, 0, 0, 63, 1⟩,
  ⟨0x2C02, 2, 2, 8, 4, 0, 0, 0, 2, 1⟩,
  ⟨0x2C02, 3, 3, 3, 4, 3, 2000, 100, 1000000, 1⟩,
  ⟨0x2C02, 4, 4, 8, 4, 0, 0, 0, 1, 1⟩,
  ⟨0x2C02, 5, 5, 3, 4, 3, 25, 21, 10000, 1⟩,
  ⟨0x2C02, 6, 6, 3, 4, 3, 1000, 0, 10000000, 1⟩,
  ⟨0x2C03, 1, 1, 2, 4, 0, 0, 0, 1023, 1⟩,
  ⟨0x2C03, 2, 2, 8, 4, 0, 0, 0, 4, 1⟩,
  ⟨0x2C03, 3, 3, 11, 4, 0, 0, 64, 64, 1⟩,
  ⟨0x2C03, 4, 4, 1, 4, 0, 0, 0, 7, 1⟩,
  ⟨0x2C04, 1, 1, 4, 1, 14, 0, 0, 0, 1⟩,
  ⟨0x2C04, 2, 2, 4, 1, 14, 0, 0, 0, 1⟩,
  ⟨0x2C04, 3, 3, 4, 1, 14, 0, 0, 0, 1⟩,
  ⟨0x2C04, 4, 4, 4, 1, 14, 0, 0, 0, 1⟩,
  ⟨0x2C04, 5, 5, 4, 1, 14, 0, 0, 0, 1⟩,
  ⟨0x2C04, 6, 6, 3, 1, 14, 0, 0, 0, 1⟩,
  ⟨0x2C04, 7, 7, 3, 1, 2, 0, 0, 0, 1⟩]

def objsPart2 : List Obj := [
  ⟨0x2C04, 8, 8, 4, 1, 14, 0, 0, 0, 1⟩,
  ⟨0x2C05, 1, 1, 7, 1, 0, 1, 0, 1, 1⟩,
  ⟨0x2C10, 1, 1, 8, 0, 0, 0, 0, 2, 1⟩,
  ⟨0x2C10, 2, 2, 11, 0, 0, 0, 18, 18, 1⟩,
  ⟨0x2C10, 3, 3, 2, 0, 0, 65535, 0, 65535, 1⟩,
  ⟨0x2C10, 16, 31, 2, 0, 0, 0, 0, 65535, 1⟩,
  ⟨0x2C10, 32, 47, 11, 0, 0, 0, 32, 32, 1⟩,
  ⟨0x2C10, 48, 63, 2, 0, 14, 0, 0, 65535, 1⟩]

def objsAskar1 : List Obj := [
  ⟨0x2D00, 1, 1, 3, 0, 0, 0, 0, 4294967295, 1⟩,
  ⟨0x2D00, 2, 2, 12, 0, 2, 0, 0, 18446744073709551615, 1⟩,
  ⟨0x2D00, 3, 3, 3, 1, 14, 0, 0, 0, 1⟩,
  ⟨0x2D00, 4, 4, 8, 0, 0, 0, 0, 6, 1⟩,
  ⟨0x2D00, 5, 5, 2, 0, 14, 0, 0, 65535, 1⟩,
  ⟨0x2D08, 1, 1, 11, 0, 0, 0, 448, 448, 1⟩,
  ⟨0x2D08, 2, 2, 11, 0, 0, 0, 96, 96, 1⟩,
  ⟨0x2D08, 3, 3, 11, 0, 0, 0, 704, 704, 1⟩,
  ⟨0x2D08, 4, 4, 3, 1, 14, 0, 0, 0, 1⟩,
  ⟨0x2D10, 1, 19, 11, 0, 0, 0, 28, 28, 1⟩,
  ⟨0x2D11, 1, 16, 11, 0, 0, 0, 28, 28, 1⟩,
  ⟨0x2D12, 1, 64, 11, 0, 0, 0, 28, 28, 1⟩,
  ⟨0x2D18, 1, 1, 3, 1, 14, 0, 0, 127, 1⟩,
  ⟨0x2D18, 2, 2, 3, 1, 14, 0, 0, 95, 1⟩,
  ⟨0x2D18, 3, 3, 3, 1, 14, 0, 0, 255, 1⟩,
  ⟨0x2D18, 4, 4, 3, 1, 14, 0, 0, 511, 1⟩,
  ⟨0x2D18, 5, 5, 3, 1, 0, 0, 0, 0, 1⟩,
  ⟨0x2D18, 6, 6, 3, 1, 14, 0, 0, 4095, 1⟩,
  ⟨0x2D18, 7, 7, 3, 1, 9, 0, 0, 500000, 1⟩,
  ⟨0x2D18, 8, 8, 3, 1, 10, 0, 0, 200, 1⟩,
  ⟨0x2D18, 9, 9, 9, 1, 0, 0, 0, 255, 1⟩,
  ⟨0x2D19, 1, 1, 3, 1, 9, 1800000, 100000, 2100000, 1⟩,
  ⟨0x2D19, 2, 2, 7, 3, 0, 0, 0, 1, 1⟩,
  ⟨0x2D19, 3, 3, 7, 0, 0, 0, 0, 1, 1⟩]

def objsAskar2 : List Obj := [
  ⟨0x2D19, 4, 4, 2, 1, 14, 0, 0, 0, 1⟩,
  ⟨0x2D1A, 1, 1, 2, 1, 10, 950, 500, 1100, 1⟩,
  ⟨0x2D1A, 2, 2, 7, 3, 0, 0, 0, 1, 1⟩,
  ⟨0x2D1A, 3, 3, 7, 0, 0, 0, 0, 1, 1⟩,
  ⟨0x2D1A, 4, 4, 2, 1, 14, 0, 0, 0, 1⟩,
  ⟨0x2D20, 1, 1, 3, 0, 0, 0, 0, 4294967295, 1⟩,
  ⟨0x2D20, 2, 2, 3, 0, 0, 0, 0, 4294967295, 1⟩,
  ⟨0x2D20, 3, 3, 3, 1, 14, 0, 0, 0, 1⟩,
  ⟨0x2D20, 4, 4, 8, 1, 0, 2, 0, 4, 1⟩,
  ⟨0x2D20, 5, 5, 3, 0, 14, 0, 0, 521216, 1⟩,
  ⟨0x2D21, 1, 1, 3, 1, 0, 0, 0, 4294967295, 1⟩,
  ⟨0x2D21, 2, 2, 8, 1, 0, 0, 0, 1, 1⟩,
  ⟨0x2D21, 3, 3, 11, 0, 0, 0, 0, 1024, 1⟩,
  ⟨0x2D28, 1, 1, 9, 3, 0, 0, 0, 63, 1⟩,
  ⟨0x2D28, 2, 2, 9, 1, 0, 62, 0, 63, 1⟩,
  ⟨0x2D2C, 1, 1, 2, 0, 11, 10000, 0, 10000, 1⟩,
  ⟨0x2D2C, 2, 2, 2, 1, 10, 600, 200, 1000, 1⟩,
  ⟨0x2D2C, 3, 3, 2, 1, 10, 900, 0, 1050, 1⟩,
  ⟨0x2D2C, 4, 4, 2, 1, 11, 3000, 0, 10000, 1⟩,
  ⟨0x2D30, 1, 1, 8, 0, 0, 0, 0, 1, 1⟩,
  ⟨0x2D30, 2, 2, 8, 0, 0, 0, 0, 3, 1⟩,
  ⟨0x2D30, 3, 3, 2, 0, 0, 0, 0, 65535, 1⟩,
  ⟨0x2D30, 4, 5, 3, 0, 0, 0, 0, 4294967295, 1⟩,
  ⟨0x2D30, 6, 6, 1, 0, 0, 0, 0, 63, 1⟩]

def objsAskar3 : List Obj := [
  ⟨0x2D30, 7, 7, 3, 1, 5, 600, 60, 86400, 1⟩,
  ⟨0x2D31, 1, 1, 11, 2, 0, 0, 0, 16777216, 1⟩,
  ⟨0x2D32, 1, 1, 8, 4, 0, 0, 0, 3, 1⟩,
  ⟨0x6D00, 1, 1, 7, 4, 0, 0, 0, 1, 1⟩]

def objsLife : List Obj := [
  ⟨0x2E00, 1, 1, 8, 0, 0, 0, 0, 5, 1⟩,
  ⟨0x2E00, 2, 2, 1, 0, 14, 0, 0, 63, 1⟩,
  ⟨0x2E00, 3, 3, 9, 3, 0, 0, 0, 15, 1⟩,
  ⟨0x2E00, 4, 4, 3, 0, 14, 0, 0, 4294967295, 1⟩,
  ⟨0x2E01, 1, 1, 11, 0, 0, 0, 32, 32, 1⟩,
  ⟨0x2E02, 1, 1, 11, 4, 0, 0, 0, 16672, 1⟩,
  ⟨0x2E03, 1, 2, 11, 0, 0, 0, 96, 96, 1⟩,
  ⟨0x2E03, 3, 3, 11, 4, 0, 0, 0, 16672, 1⟩,
  ⟨0x2E04, 1, 8, 11, 5, 0, 0, 0, 16384, 1⟩,
  ⟨0x2E05, 1, 1, 11, 4, 0, 0, 32, 32, 1⟩,
  ⟨0x2E05, 2, 2, 11, 0, 0, 0, 928, 928, 1⟩,
  ⟨0x2E05, 3, 3, 11, 0, 0, 0, 0, 2048, 1⟩,
  ⟨0x2E05, 4, 4, 11, 0, 0, 0, 0, 2048, 1⟩,
  ⟨0x6E00, 1, 1, 9, 1, 0, 0, 0, 15, 1⟩,
  ⟨0x6E00, 2, 2, 8, 1, 0, 0, 0, 1, 1⟩]

def objsPower1 : List Obj := [
  ⟨0x2F00, 1, 1, 3, 0, 9, 1600000, 0, 4294967295, 1⟩,
  ⟨0x2F00, 2, 2, 3, 0, 9, 2100000, 0, 4294967295, 1⟩,
  ⟨0x2F00, 3, 3, 2, 0, 4, 10, 0, 65535, 1⟩,
  ⟨0x2F01, 1, 1, 3, 1, 9, 1600000, 0, 1600000, 1000⟩,
  ⟨0x2F01, 2, 2, 3, 1, 9, 2100000, 0, 2100000, 1000⟩,
  ⟨0x2F01, 3, 3, 2, 0, 11, 10000, 0, 10000, 1⟩,
  ⟨0x2F01, 4, 4, 2, 1, 10, 950, 500, 1100, 1⟩,
  ⟨0x2F02, 1, 1, 3, 0, 9, 150000, 0, 4294967295, 1⟩,
  ⟨0x2F02, 2, 2, 3, 0, 9, 150000, 0, 4294967295, 1⟩,
  ⟨0x2F02, 3, 3, 3, 0, 9, 150000, 0, 4294967295, 1⟩,
  ⟨0x2F02, 4, 4, 3, 0, 9, 150000, 0, 4294967295, 1⟩,
  ⟨0x2F02, 5, 5, 3, 0, 9, 60000, 0, 4294967295, 1⟩,
  ⟨0x2F02, 6, 6, 3, 0, 9, 0, 0, 4294967295, 1⟩,
  ⟨0x2F02, 7, 7, 3, 0, 9, 480000, 0, 4294967295, 1⟩,
  ⟨0x2F02, 8, 8, 3, 0, 9, 480000, 0, 4294967295, 1⟩,
  ⟨0x2F02, 9, 9, 3, 0, 9, 480000, 0, 4294967295, 1⟩,
  ⟨0x2F02, 10, 10, 3, 0, 9, 480000, 0, 4294967295, 1⟩,
  ⟨0x2F02, 11, 11, 3, 0, 9, 120000, 0, 4294967295, 1⟩,
  ⟨0x2F02, 12, 12, 3, 0, 9, 0, 0, 4294967295, 1⟩,
  ⟨0x2F03, 1, 1, 2, 1, 10, 1050, 800, 1100, 1⟩,
  ⟨0x2F03, 2, 2, 2, 1, 10, 30, 10, 100, 1⟩,
  ⟨0x2F03, 3, 3, 2, 1, 10, 950, 700, 1090, 1⟩,
  ⟨0x2F03, 4, 4, 2, 1, 10, 1000, 0, 1100, 1⟩,
  ⟨0x2F03, 5, 5, 2, 1, 10, 30, 10, 100, 1⟩]

def objsPower2 : List Obj := [
  ⟨0x2F03, 6, 6, 2, 0, 10, 1150, 0, 65535, 1⟩,
  ⟨0x2F04, 1, 4, 7, 0, 0, 0, 0, 1, 1⟩,
  ⟨0x2F04, 5, 8, 8, 0, 0, 0, 0, 2, 1⟩,
  ⟨0x2F04, 9, 9, 3, 1, 14, 0, 0, 0, 1⟩,
  ⟨0x2F04, 10, 10, 3, 0, 14, 0, 0, 4294967295, 1⟩,
  ⟨0x2F05, 1, 16, 8, 0, 0, 0, 0, 2, 1⟩,
  ⟨0x2F06, 1, 176, 8, 0, 0, 0, 0, 7, 1⟩,
  ⟨0x2F07, 1, 1, 3, 0, 8, 40000, 0, 4294967295, 1⟩,
  ⟨0x2F07, 2, 2, 3, 0, 8, 60000, 0, 4294967295, 1⟩,
  ⟨0x2F07, 3, 3, 3, 0, 8, 30000, 0, 4294967295, 1⟩,
  ⟨0x2F07, 4, 4, 3, 0, 8, 40000, 0, 4294967295, 1⟩,
  ⟨0x2F07, 5, 5, 3, 0, 8, 30000, 0, 4294967295, 1⟩,
  ⟨0x2F07, 6, 6, 3, 0, 8, 30000, 0, 4294967295, 1⟩,
  ⟨0x2F07, 7, 7, 3, 0, 8, 60000, 0, 4294967295, 1⟩,
  ⟨0x2F07, 8, 8, 3, 0, 8, 20000, 0, 4294967295, 1⟩,
  ⟨0x2F07, 9, 9, 3, 0, 8, 20000, 0, 4294967295, 1⟩,
  ⟨0x2F07, 10, 10, 2, 0, 3, 20, 0, 65535, 1⟩,
  ⟨0x2F08, 1, 1, 2, 0, 3, 24, 0, 65535, 1⟩,
  ⟨0x2F08, 2, 2, 2, 0, 3, 40, 0, 65535, 1⟩,
  ⟨0x2F08, 3, 3, 2, 0, 3, 24, 0, 65535, 1⟩,
  ⟨0x2F08, 4, 4, 2, 0, 3, 32, 0, 65535, 1⟩,
  ⟨0x2F08, 5, 5, 2, 0, 3, 32, 0, 65535, 1⟩,
  ⟨0x2F08, 6, 6, 2, 0, 3, 24, 0, 65535, 1⟩,
  ⟨0x2F08, 7, 7, 2, 0, 3, 40, 0, 65535, 1⟩]

def objsPower3 : List Obj := [
  ⟨0x2F08, 8, 8, 2, 0, 3, 24, 0, 65535, 1⟩,
  ⟨0x2F08, 9, 9, 2, 0, 3, 24, 0, 65535, 1⟩,
  ⟨0x2F09, 1, 1, 3, 1, 14, 0, 0, 0, 1⟩,
  ⟨0x2F0A, 1, 1, 8, 4, 0, 0, 0, 7, 1⟩,
  ⟨0x2F0B, 1, 7, 12, 0, 2, 0, 0, 18446744073709551615, 1⟩,
  ⟨0x2F0B, 8, 8, 7, 0, 0, 0, 0, 1, 1⟩,
  ⟨0x2F0B, 9, 9, 8, 0, 0, 0, 0, 1, 1⟩,
  ⟨0x2F0B, 10, 10, 7, 0, 0, 0, 0, 1, 1⟩,
  ⟨0x2F0C, 1, 1, 3, 1, 14, 0, 0, 0, 1⟩,
  ⟨0x2F0C, 2, 2, 7, 0, 0, 1, 0, 1, 1⟩,
  ⟨0x6F07, 1, 1, 3, 1, 8, 40000, 5000, 200000, 1⟩,
  ⟨0x6F07, 2, 2, 3, 1, 8, 60000, 5000, 200000, 1⟩,
  ⟨0x6F07, 3, 3, 3, 1, 8, 30000, 5000, 200000, 1⟩,
  ⟨0x6F07, 4, 4, 3, 1, 8, 40000, 5000, 200000, 1⟩,
  ⟨0x6F07, 5, 5, 3, 1, 8, 30000, 5000, 200000, 1⟩,
  ⟨0x6F07, 6, 6, 3, 1, 8, 30000, 5000, 200000, 1⟩,
  ⟨0x6F07, 7, 7, 3, 1, 8, 60000, 5000, 200000, 1⟩,
  ⟨0x6F07, 8, 8, 3, 1, 8, 20000, 5000, 200000, 1⟩,
  ⟨0x6F07, 9, 9, 3, 1, 8, 20000, 5000, 200000, 1⟩,
  ⟨0x6F07, 10, 10, 2, 1, 3, 20, 5, 50, 1⟩,
  ⟨0x6F08, 1, 9, 1, 1, 14, 8, 4, 16, 1⟩,
  ⟨0x6F08, 10, 10, 1, 1, 3, 3, 1, 100, 1⟩,
  ⟨0x6F08, 11, 11, 1, 1, 3, 5, 1, 100, 1⟩,
  ⟨0x6F08, 12, 12, 1, 1, 3, 3, 1, 100, 1⟩]

def objsPower4 : List Obj := [
  ⟨0x6F08, 13, 13, 1, 1, 3, 4, 1, 100, 1⟩,
  ⟨0x6F08, 14, 14, 1, 1, 3, 4, 1, 100, 1⟩,
  ⟨0x6F08, 15, 15, 1, 1, 3, 3, 1, 100, 1⟩,
  ⟨0x6F08, 16, 16, 1, 1, 3, 5, 1, 100, 1⟩,
  ⟨0x6F08, 17, 17, 1, 1, 3, 3, 1, 100, 1⟩,
  ⟨0x6F08, 18, 18, 1, 1, 3, 3, 1, 100, 1⟩,
  ⟨0x6F09, 1, 1, 1, 4, 0, 0, 0, 175, 1⟩,
  ⟨0x6F09, 2, 2, 8, 4, 0, 0, 0, 0, 1⟩]

def objsErr : List Obj := [
  ⟨0x3000, 1, 1, 4, 1, 14, 0, 0, 0, 1⟩,
  ⟨0x3000, 2, 2, 4, 1, 14, 0, 0, 0, 1⟩,
  ⟨0x3000, 3, 3, 4, 1, 14, 0, 0, 0, 1⟩,
  ⟨0x3000, 4, 4, 3, 1, 14, 0, 0, 0, 1⟩,
  ⟨0x3000, 5, 5, 4, 1, 14, 0, 0, 0, 1⟩,
  ⟨0x3000, 6, 6, 3, 1, 14, 0, 0, 0, 1⟩,
  ⟨0x3001, 1, 1, 3, 0, 0, 0, 0, 4294967295, 1⟩,
  ⟨0x3001, 2, 2, 2, 1, 4, 1000, 0, 60000, 1⟩,
  ⟨0x3001, 3, 3, 9, 1, 0, 12, 0, 15, 1⟩,
  ⟨0x3002, 1, 32, 11, 0, 0, 0, 32, 32, 1⟩,
  ⟨0x7000, 1, 1, 8, 4, 0, 0, 0, 5, 1⟩,
  ⟨0x7000, 2, 2, 8, 4, 0, 0, 0, 3, 1⟩,
  ⟨0x7000, 3, 3, 4, 4, 0, 0, 0, 18446744073709551615, 1⟩,
  ⟨0x7000, 4, 4, 1, 4, 14, 1, 1, 255, 1⟩,
  ⟨0x7000, 5, 5, 7, 4, 0, 0, 0, 1, 1⟩]

/-- Every row of the tables. -/
def objRows : List Obj :=
  objsCommon1 ++ objsCommon2 ++ objsCore ++ objsTile ++ objsMem ++ objsNet1 ++
  objsNet2 ++ objsUc1 ++ objsUc2 ++ objsBezel ++ objsHbm1 ++ objsHbm2 ++
  objsHelda ++ objsLink1 ++ objsLink2 ++ objsHost ++ objsPlan ++ objsPlumb ++
  objsPart1 ++ objsPart2 ++ objsAskar1 ++ objsAskar2 ++ objsAskar3 ++ objsLife ++
  objsPower1 ++ objsPower2 ++ objsPower3 ++ objsPower4 ++ objsErr

end Sys2Proof.Machine
end

