-- ==== Sys2Proof/Machine/HbmOps.lean ====
section
/-! DEFINITION. HBM4 memory: where addresses land, row redirection, the channel queues, throttle steps, reservations
(R34, R204, R220, R284 to R305). -/
namespace Sys2Proof.Machine

/-! ### Folds and placement (R204, R284) -/

/-- XOR fold of the low `w` bits of a number onto `n` bits. -/
def foldBits (n w v : Nat) : Nat :=
  (List.range w).foldl (fun a j => if bit v j then a ^^^ 2 ^ (j % n) else a) 0

/-- The `n`-bit fold of A[55:10] (R204). -/
def lineFold (n a : Nat) : Nat := foldBits n 46 (a / 1024)

/-- A place in a stack (R284). -/
structure HbmLoc where
  stack : Nat
  ch : Nat
  pc : Nat
  bank : Nat
  row : Nat
  deriving DecidableEq, Repr

/-- Where a local address lands (R284). -/
def hbmPlace (l : Nat) : HbmLoc :=
  let u := bits l 19 20
  let s := bits l 10 9 ^^^ foldBits 9 20 u
  { stack := 2 * bits s 6 2 + bits s 8 1, ch := bits s 1 5, pc := s % 2, bank := u % 16, row := u / 16 }

/-- Home B-die of a line in near placement (R284). -/
def homeDie (l : Nat) : Nat := (hbmPlace l).stack / 2

/-- Length of the backed part of the HBM window (R34). -/
def backedBytes : Nat := 267 * 2 ^ 30

/-- Channel number of the device: 32 × stack + channel. -/
def chanOf (p : HbmLoc) : Nat := 32 * p.stack + p.ch

/-- Key of a physical row. -/
def rowKey (p : HbmLoc) : Nat := (((p.stack * 32 + p.ch) * 2 + p.pc) * 16 + p.bank) * 65536 + p.row

def chanGet (s : State) (k : Nat) : HbmChan := sget {} s.hbm.chans k

def setChan (k : Nat) (c : HbmChan) (s : State) : State := { s with hbm := { s.hbm with chans := sput s.hbm.chans k c } }

def stackGet (s : State) (k : Nat) : Stack := sget {} s.hbm.stackOf k

def setStack (k : Nat) (x : Stack) (s : State) : State :=
  { s with hbm := { s.hbm with stackOf := sput s.hbm.stackOf k x } }

/-! ### Row redirection (R293, R294) -/

/-- The entries of a pseudo-channel: entry number and entry, lowest first. -/
def redirectsOf (s : State) (p : HbmLoc) : List (Nat × Redirect) :=
  (List.range 32).filterMap fun i =>
    (sfind s.hbm.redirect (64 * chanOf p + 32 * p.pc + i)).map fun e => (32 * p.pc + i, e)

/-- An entry matches a row. -/
def redirectHit (p : HbmLoc) (e : Redirect) : Bool :=
  decide (e.bank = p.bank ∧ e.row ≤ p.row ∧ p.row < e.row + 2 ^ e.span)

/-- The winning entry: highest priority, then lowest number. -/
def redirectWin : List (Nat × Redirect) → Option (Nat × Redirect)
  | [] => none
  | e :: t =>
    match redirectWin t with
    | some b => if b.2.prio ≤ e.2.prio then some e else some b
    | none => some e

/-- The first row of an entry's slot (R293). -/
def slotLoc (p : HbmLoc) (i : Nat) : HbmLoc :=
  { p with bank := i % 32 % 16, row := 34176 + 16 * (i % 32 / 16) }

/-- Follow the redirect entries from a row: the row used, and how many times entries tied (R294). -/
def resolveRow (s : State) : Nat → HbmLoc → HbmLoc × Nat
  | 0, p => (p, 0)
  | fuel + 1, p =>
    let m := (redirectsOf s p).filter fun e => redirectHit p e.2
    match redirectWin m with
    | none => (p, 0)
    | some e =>
      let tie := if 1 < (m.filter fun x => x.2.prio == e.2.prio).length then 1 else 0
      let q := slotLoc p e.1
      let r := resolveRow s fuel { q with row := q.row + (p.row - e.2.row) }
      (r.1, r.2 + tie)

/-- The physical row that an access to a row uses; ties are counted (R294). -/
def accessRow (p : HbmLoc) (s : State) : Nat × State :=
  let r := resolveRow s 64 p
  (rowKey r.1, bumpBy 0x2604 2 64 r.2 s)

/-! ### Cells -/

/-- A stored sector: its bytes and whether it is poisoned. `k` is the row key, `col` the byte offset. -/
def cellRead (s : State) (k col : Nat) : List Byte × Bool :=
  (memReadN s.hbm.cells (1024 * k + col) 64, s.hbm.poison.contains ((1024 * k + col) / 64))

/-- Store a sector. -/
def cellWrite (k col : Nat) (d : List Byte) (p : Bool) (s : State) : State :=
  let i := (1024 * k + col) / 64
  { s with hbm := { s.hbm with
    cells := memWriteN s.hbm.cells (1024 * k + col) (slice d 0 64)
    poison := if p then ladd s.hbm.poison i else lremove s.hbm.poison i } }

/-- Copy a row, poison with the data. -/
def copyRow (src dst : Nat) (s : State) : State :=
  (List.range 16).foldl (fun t i => let d := cellRead s src (64 * i); cellWrite dst (64 * i) d.1 d.2 t) s

/-! ### Steps and reservations (R290, R302 to R305) -/

/-- Eighths of peak that a step permits (R290). -/
def stepEighths : Nat → Nat
  | 0 => 8
  | 1 => 6
  | 2 => 4
  | 3 => 2
  | 4 => 1
  | _ => 0

/-- Derated peak of a B-die in bytes/s (R302). -/
def deratedPeak (s : State) (b : Nat) : Nat :=
  256000000000 * (stepEighths (stackGet s (2 * b)).step + stepEighths (stackGet s (2 * b + 1)).step)

/-- C_b (R302). -/
def capacity (s : State) (b : Nat) : Nat := deratedPeak s b * 8 / 10

/-- A partition's reservation on a B-die. -/
def resOf (s : State) (p b : Nat) : Nat := sget 0 s.hbm.res (4 * p + b)

/-- G_b: the sum of the reservations on a B-die. -/
def resTotal (s : State) (b : Nat) : Nat := ((s.hbm.res.filter fun e => e.1 % 4 == b).map (·.2)).sum

/-- F_b in 1/10,000, rounded down (R305). -/
def resFraction (s : State) (b : Nat) : Nat :=
  if resTotal s b = 0 then 10000 else min 10000 (capacity s b * 10000 / resTotal s b)

/-- The B-dies whose F_b is below 1. -/
def shortDies (s : State) : List Nat := (List.range 4).filter fun b => decide (capacity s b < resTotal s b)

/-- The shortfall watermark; its rise logs the B-die and F_b (R305). -/
def shortEval (s : State) : State :=
  let rose := !(wmGet s 4).live && !(shortDies s).isEmpty
  let s := wmEval 4 (if (shortDies s).isEmpty then 0 else 1) s
  if rose then (shortDies s).foldl (fun s b =>
    logEvent 0x260A (5 + b) 1 (leBytes 1 b ++ leBytes 1 0 ++ leBytes 2 (resFraction s b)) s) s
  else s

/-- Tokens of a bucket now: filled at F_b × R, at most 10 µs of R (R304). -/
def tokensNow (s : State) (p b : Nat) : Nat :=
  let k : Bucket := sget {} s.hbm.buckets (4 * p + b)
  min (resOf s p b / 100000) (k.tokens + (time s - k.at_) * (resOf s p b * resFraction s b / 10000) / 1000000000)

/-- Charge an access of a reserved partition (R302, R304). -/
def charge (p b : Nat) (s : State) : State :=
  { s with hbm := { s.hbm with
    buckets := sput s.hbm.buckets (4 * p + b) { tokens := tokensNow s p b - 256, at_ := time s } } }

/-- Serving class of a request (R304): 0 reserved with tokens, 1 reserved without, 2 best effort. -/
def serveClass (s : State) (b part : Nat) (reserved : Bool) : Nat :=
  if reserved && resOf s part b != 0 then (if 0 < tokensNow s part b then 0 else 1) else 2

/-! ### Channel queues (R287, R291) -/

/-- The stack is in STOP. -/
def stopped (s : State) (stack : Nat) : Bool := decide (5 ≤ (stackGet s stack).step)

/-- Fill the queues of a channel from what is held: none while the stack is in STOP. -/
def refillChan (k : Nat) (s : State) : State :=
  let c := chanGet s k
  if stopped s (k / 32) then s
  else
    let nr := 64 - c.rq.length
    let nw := 64 - c.wq.length
    setChan k { c with
      rq := c.rq ++ c.rHeld.take nr
      rHeld := c.rHeld.drop nr
      wq := c.wq ++ c.wHeld.take nw
      wHeld := c.wHeld.drop nw } s

/-- Ask a channel for a sector, for an MSHR of a slice. -/
def hbmFetch (sl l part : Nat) (reserved : Bool) (s : State) : State :=
  let k := chanOf (hbmPlace l)
  let c := chanGet s k
  refillChan k (setChan k { c with rHeld := c.rHeld ++ [⟨sl, l / 64 * 64, part, reserved, s.hbm.nextSeq⟩] }
    { s with hbm := { s.hbm with nextSeq := s.hbm.nextSeq + 1 } })

/-- Give a channel a whole-sector write. -/
def hbmStore (sl l : Nat) (d : List Byte) (p : Bool) (part : Nat) (reserved : Bool) (s : State) : State :=
  let k := chanOf (hbmPlace l)
  let c := chanGet s k
  refillChan k (setChan k { c with wHeld := c.wHeld ++ [⟨sl, l / 64 * 64, d, p, part, reserved, s.hbm.nextSeq⟩] }
    { s with hbm := { s.hbm with nextSeq := s.hbm.nextSeq + 1 } })

/-- The first element of least rank. -/
def leastBy {α : Type} (f : α → Nat) : List α → Option α
  | [] => none
  | x :: t =>
    match leastBy f t with
    | some y => if f x ≤ f y then some x else some y
    | none => some x

/-- The read a channel performs next: by serving class, in arrival order, never before an earlier write of its row
(R287, R304). -/
def nextRead (s : State) (k : Nat) : Option HbmRd :=
  let c := chanGet s k
  leastBy (fun r => serveClass s (k / 64) r.part r.reserved) (c.rq.filter fun r =>
    !((c.wq ++ c.wHeld).any fun w => decide (w.seq < r.seq) && hbmPlace w.addr == hbmPlace r.addr) &&
    !(c.rq.any fun x => decide (x.seq < r.seq) && hbmPlace x.addr == hbmPlace r.addr))

/-- The write a channel performs next. -/
def nextWrite (s : State) (k : Nat) : Option HbmWr :=
  let c := chanGet s k
  leastBy (fun w => serveClass s (k / 64) w.part w.reserved) (c.wq.filter fun w =>
    !((c.rq ++ c.rHeld).any fun r => decide (r.seq < w.seq) && hbmPlace r.addr == hbmPlace w.addr) &&
    !(c.wq.any fun x => decide (x.seq < w.seq) && hbmPlace x.addr == hbmPlace w.addr))

/-! ### Automatic redirection (R295) -/

/-- Put a row on the pending-repair list; a row that finds the list full is counted (R295). -/
def pendRepair (p : HbmLoc) (s : State) : State :=
  if s.hbm.ppr.contains (rowKey p) then s
  else if s.hbm.ppr.length < 4096 then { s with hbm := { s.hbm with ppr := s.hbm.ppr ++ [rowKey p] } }
  else bump 0x2604 7 s

/-- The lowest free entry of a pseudo-channel. -/
def freeEntry (s : State) (p : HbmLoc) : Option Nat :=
  ((List.range 32).map (32 * p.pc + ·)).find? fun i => (sfind s.hbm.redirect (64 * chanOf p + i)).isNone

/-- Install an entry and copy its rows into its slot. -/
def installEntry (p : HbmLoc) (i : Nat) (e : Redirect) (s : State) : State :=
  let q := slotLoc p i
  let s := (List.range (2 ^ e.span)).foldl (fun s j =>
    copyRow (rowKey (resolveRow s 64 { p with row := e.row + j }).1) (rowKey { q with row := q.row + j }) s) s
  { s with hbm := { s.hbm with redirect := sput s.hbm.redirect (64 * chanOf p + i) e } }

/-- Redirect a row automatically (R295): `p` is the row as the controller addresses it. -/
def autoRedirect (p : HbmLoc) (s : State) : State :=
  let win := redirectWin ((redirectsOf s p).filter fun e => redirectHit p e.2)
  let prio := (win.map fun e => e.2.prio + 1).getD 0
  match freeEntry s p with
  | some i =>
    if prio ≤ 3 then
      countLog 0x2604 3 32 2 0xFFFF 0xFF (4 + p.stack / 2) (pendRepair p (installEntry p i
        { firmware := false, prio := prio, span := 0, pending := true, bank := p.bank, row := p.row } s))
    else pendRepair p (bump 0x2604 4 s)
  | none => pendRepair p (bump 0x2604 4 s)

/-- The row an access finally reaches, from its place. -/
def finalLoc (s : State) (p : HbmLoc) : HbmLoc := (resolveRow s 64 p).1

/-- A corrected read of a row: counted in its window, and the row redirected at ROW_CE_LIMIT (R295). -/
def correctedRead (p : HbmLoc) (s : State) : State :=
  let q := finalLoc s p
  let w := 1000000000 * num s 0x2603 2 3600
  let old := (sget [] s.hbm.ceTimes (rowKey q)).filter fun t => decide (time s < t + w)
  let l := time s :: old
  let s := { s with hbm := { s.hbm with ceTimes := sput s.hbm.ceTimes (rowKey q) l } }
  if num s 0x6603 1 1 = 1 && decide (num s 0x2603 1 8 ≤ l.length) then
    autoRedirect q { s with hbm := { s.hbm with ceTimes := sdel s.hbm.ceTimes (rowKey q) } }
  else s

/-- The error record of a read of HBM (R556). -/
def hbmError (p : HbmLoc) (l cls cause : Nat) (inj : Bool) (s : State) : State :=
  errReport { cls := cls, source := 4, cause := cause, place := chanOf p, addr := globalOf s l, injected := inj } s

/-- An injected error waits in a stored HBM sector (R567). -/
def plantedHbm (s : State) (l : Nat) : Option (Nat × Nat × Nat) :=
  s.errs.planted.find? fun e => e.1 == 4 && e.2.1 == l / 64

/-- The read result of a sector as the code classifies it: what the sender says, or what has been injected. -/
def readEcc (s : State) (l : Nat) (e : Ecc) : Ecc :=
  match plantedHbm s l with
  | some x => if x.2.2 = 0 then (if e = .double then .double else .single) else .double
  | none => e

/-- Read a stored sector at a local address (R298): its bytes, whether they are poisoned, and the new state. -/
def sectorRead (l : Nat) (e : Ecc) (s : State) : (List Byte × Bool) × State :=
  let p := hbmPlace l
  let ecc := readEcc s l e
  let inj := (plantedHbm s l).isSome
  let s := match plantedHbm s l with
    | some x => { s with errs := { s.errs with planted := s.errs.planted.erase x } }
    | none => s
  let a := accessRow p s
  let s := a.2
  let d := cellRead s a.1 (l % 1024 / 64 * 64)
  if d.2 then (d, bump64 0x2607 3 s)
  else
    match ecc with
    | .clean => (d, s)
    | .single => (d, correctedRead p (hbmError p l 0 1 inj (bump64 0x2607 1 s)))
    | .double =>
      let s := hbmError p l 1 2 inj (bump64 0x2607 2 (cellWrite a.1 (l % 1024 / 64 * 64) d.1 true s))
      ((d.1, true), if num s 0x6603 1 1 = 1 then autoRedirect (finalLoc s p) s else s)

/-- Write a whole sector at a local address; what was injected there is overwritten. -/
def sectorWrite (l : Nat) (d : List Byte) (p : Bool) (s : State) : State :=
  let a := accessRow (hbmPlace l) s
  let s := { a.2 with errs := { a.2.errs with planted := a.2.errs.planted.filter fun e => !(e.1 == 4 && e.2.1 == l / 64) } }
  cellWrite a.1 (l % 1024 / 64 * 64) d p s

end Sys2Proof.Machine
end

