-- ==== Sys2Proof/Machine/LinkOps.lean ====
section
/-! DEFINITION. Carrak Link below the messages: packets as bytes, credits, the replay store, groups, routes, sending and
flooding (R345 to R351, R353, R363 to R365). -/
namespace Sys2Proof.Machine

def portGet (s : State) (p : Nat) : Port := sget {} s.carrak.ports p

def setPort (p : Nat) (x : Port) (s : State) : State :=
  { s with carrak := { s.carrak with ports := sput s.carrak.ports p x } }

def modPort (p : Nat) (f : Port → Port) (s : State) : State := setPort p (f (portGet s p)) s

/-- Advance a counter of a port's record (R375): 0 FEC corrected to 7 protocol errors. -/
def portCount (p i : Nat) (s : State) : State :=
  modPort p (fun x => { x with counters := smod 0 x.counters i fun n => min (n + 1) (2 ^ 64 - 1) }) s

def linkOut (m : LinkOut) (s : State) : State := { s with carrak := { s.carrak with out := s.carrak.out ++ [m] } }

/-! ### Packets as bytes (R206, R347) -/

def b2n (b : Bool) : Nat := if b then 1 else 0

/-- The 32-byte header of a packet on a link. -/
def pktHeader (p : LinkPkt) : List Byte :=
  leBytes 1 p.pkt.vc ++ leBytes 1 p.pkt.opcode ++ leBytes 2 p.pkt.dest ++ leBytes 2 p.pkt.src ++ leBytes 2 p.pkt.txn ++
  leBytes 8 p.pkt.address ++ leBytes 1 ((p.pkt.data.length + 31) / 32) ++ leBytes 1 0 ++
  leBytes 2 (p.pkt.ctx % 1024 + 1024 * (p.pkt.part % 64)) ++ leBytes 1 p.pkt.qos ++
  leBytes 1 (2 * b2n p.pkt.poison + 4 * b2n p.pkt.bcast) ++ leBytes 2 p.pkt.epoch ++ leBytes 2 p.pkt.sectors.toNat ++
  leBytes 1 0 ++ leBytes 1 p.srcDev ++ leBytes 1 p.dstDev ++ leBytes 1 p.hops ++
  leBytes 1 (p.set + 2 * b2n p.deflected) ++ leBytes 1 0

/-- A packet as bytes: header, then its data in whole flits of 32 bytes. -/
def pktBytes (p : LinkPkt) : List Byte := pktHeader p ++ slice p.pkt.data 0 ((p.pkt.data.length + 31) / 32 * 32)

/-- Units of 32 bytes of a packet (R350). -/
def pktUnits (p : LinkPkt) : Nat := 1 + (p.pkt.data.length + 31) / 32

/-- The link VC of a packet (R349). -/
def linkVc (vc opcode : Nat) : Nat :=
  match vc with
  | 0 => 0
  | 4 => 0
  | 1 => 1
  | 2 => if opcode = 0x10 then 4 else 2
  | 3 => 3
  | _ => 5

/-- Cut bytes into payloads of 248 bytes, the last padded with 0xFF (R345, R347). -/
def payloads : Nat → List Byte → List (List Byte)
  | 0, _ => []
  | _, [] => []
  | fuel + 1, b => ((b.take 248) ++ List.replicate (248 - (b.take 248).length) 0xFF) :: payloads fuel (b.drop 248)

/-! ### Sending on a port (R350, R351, R357) -/

/-- A data flit of a Craze run's target is dropped, corrupted or exchanged with the one before it, once in 2^RATE flits
on average (R372); how the faults are drawn from the seed is free (assumption 27). -/
def crazeFlit (p q : Nat) (b : List Byte) (s : State) : State :=
  match s.carrak.craze with
  | none => linkOut (.data p q b) s
  | some r =>
    if r.helda || r.index != p then linkOut (.data p q b) s
    else
      let f := draw s
      if f.1 % 2 ^ r.rateLog2 != 0 then linkOut (.data p q b) f.2
      else
        let kinds := (List.range 3).filter (bit r.kinds)
        let s := bump64 0x2820 2 f.2
        match kinds.getD (f.1 / 2 ^ r.rateLog2 % kinds.length) 3 with
        | 0 => s
        | 1 => linkOut (.data p q (b.modify (f.1 / 2 ^ 40 % 248) fun x => ~~~x)) s
        | 2 => { s with carrak := { s.carrak with
                   out := s.carrak.out.dropLast ++ [.data p q b] ++ (s.carrak.out.getLast?.map fun x => [x]).getD [] } }
        | _ => linkOut (.data p q b) s

/-- Put data flits on a link: each takes the next SEQ and stays in the replay store. -/
def putFlits (p : Nat) : List (List Byte) → State → State
  | [], s => s
  | b :: t, s =>
    let q := (portGet s p).txSeq
    putFlits p t (crazeFlit p q b
      (modPort p (fun x => { x with txSeq := (q + 1) % 1024, replay := x.replay ++ [(q, b)] }) s))

/-- Credit key of a packet on a port (R350). -/
def creditKey (k : LinkPkt) : Nat := 2 * linkVc k.pkt.vc k.pkt.opcode + k.set

/-- The port can take a packet now: ACTIVE, credits for all its units, and room in the replay store. -/
def portRoom (x : Port) (k : LinkPkt) : Bool :=
  x.st == .active && decide (pktUnits k ≤ sget 0 x.credits (creditKey k)) &&
    decide (x.replay.length + ((pktBytes k).length + 247) / 248 ≤ 512)

/-- Send a packet on a port. -/
def portSend (p : Nat) (k : LinkPkt) (s : State) : State :=
  let s := modPort p (fun x => { x with
    credits := smod 0 x.credits (creditKey k) (· - pktUnits k)
    sentPkts := (x.sentPkts + 1) % 2 ^ 32
    unacked := x.unacked ++ [((x.sentPkts + 1) % 2 ^ 32, k)] }) s
  putFlits p (payloads 20 (pktBytes k)) s

/-- Hold a packet for a port (R350, R356). -/
def portHold (p : Nat) (k : LinkPkt) (s : State) : State := modPort p (fun x => { x with held := x.held ++ [k] }) s

/-- Send now, or hold in order behind what is held. -/
def portPut (p : Nat) (k : LinkPkt) (s : State) : State :=
  if portRoom (portGet s p) k && (portGet s p).held.isEmpty then portSend p k s else portHold p k s

/-! ### Groups and routes (R363 to R365) -/

/-- DIM_RANK and DATELINE of a port with its peer's (R363). -/
def effRank (x : Port) : Nat := match x.peer with
  | some q => min x.dimRank q.dimRank
  | none => x.dimRank
def effDateline (x : Port) : Bool := match x.peer with
  | some q => x.dateline || q.dateline
  | none => x.dateline

/-- Ports up to now in a group with port `p`: same peer, same DIM_RANK, in increasing number. -/
def groupPorts (s : State) (p : Nat) : List Nat :=
  (List.range 24).filter fun q =>
    let x := portGet s q
    let y := portGet s p
    (x.peer.map (·.serial)) == (y.peer.map (·.serial)) && x.peer.isSome && effRank x == effRank y

def activePorts (s : State) (p : Nat) : List Nat := (groupPorts s p).filter fun q => (portGet s q).st == .active

def retraining (s : State) (p : Nat) : Bool := (groupPorts s p).any fun q => (portGet s q).st == .retrain

/-- The port of a group that a packet takes (R364). -/
def pickPort (l : List Nat) (k : LinkPkt) : Nat :=
  if k.pkt.vc = 5 then l.getD 0 0 else l.getD (lineFold 5 k.pkt.address % l.length) 0

/-- This device's route to a device ID, if it reaches it (R363). -/
def routeTo (s : State) (d : Nat) : Option Route :=
  if s.carrak.unreachable.contains d then none
  else match sfind s.carrak.routes d with
    | some r => if r.dist ≤ 31 && r.primary.isSome then some r else none
    | none => none

/-- The buffer set of a packet that leaves through a port (R365). -/
def outSet (s : State) (arrival : Option Nat) (p : Nat) (k : LinkPkt) : Nat :=
  let x := portGet s p
  if k.deflected || effDateline x then 1
  else match arrival with
    | none => 0
    | some a => if effRank (portGet s a) < effRank x then 0 else k.set

/-- Send a packet toward its destination device: the primary group, the alternate group with DEFLECTED, or held
(R356, R364, R365). -/
def linkSend (arrival : Option Nat) (k : LinkPkt) (s : State) : State :=
  match routeTo s k.dstDev with
  | none => s
  | some r =>
    let g := r.primary.getD 0
    let a := activePorts s g
    if !a.isEmpty then
      let p := pickPort a k
      portPut p { k with set := outSet s arrival p k } s
    else if retraining s g || k.deflected then portHold g k s
    else
      match r.alt with
      | none => portHold g k s
      | some h =>
        let b := activePorts s h
        if b.isEmpty then portHold g k s
        else portPut (pickPort b k) { k with set := 1, deflected := true }
          { s with carrak := { s.carrak with routes := sput s.carrak.routes k.dstDev { r with deflecting := true } } }

/-- Send what is held for a port, in order, as far as there is room; a packet that another port of the group can take
goes there. -/
def flushPort : Nat → Nat → State → State
  | 0, _, s => s
  | fuel + 1, p, s =>
    match (portGet s p).held with
    | [] => s
    | k :: t =>
      if portRoom (portGet s p) k then flushPort fuel p (portSend p k (modPort p (fun x => { x with held := t }) s))
      else s

/-- Flush the held packets of every port. -/
def flushPorts (s : State) : State := (List.range 24).foldl (fun s p => flushPort 4096 p s) s

/-- Hold everything a port had held under a new route (R356, R365). -/
def rerouteHeld (p : Nat) (s : State) : State :=
  let l := (portGet s p).held
  l.foldl (fun s k => linkSend none k s) (modPort p (fun x => { x with held := [] }) s)

/-! ### Link messages (R348) -/

/-- A CTL packet of the link agent. -/
def ctlPkt (s : State) (dst opcode : Nat) (bcast : Bool) (body : List Byte) : LinkPkt :=
  { pkt := { vc := 5, set := 0, opcode := opcode, dest := 0, src := 0, txn := 0, address := 0, data := body, list := [],
             ctx := 0, part := 0, qos := 0, poison := false, bcast := bcast, epoch := 0, sectors := 0 },
    srcDev := devId s, dstDev := dst, hops := 0, set := 0, deflected := false }

/-- The lowest ACTIVE port of every group. -/
def groupHeads (s : State) : List Nat :=
  (List.range 24).filter fun p => (activePorts s p).head? == some p

/-- Flood a message to every ACTIVE group except the one it arrived through (R348). -/
def floodPkt (arrival : Option Nat) (k : LinkPkt) (s : State) : State :=
  ((groupHeads s).filter fun p => match arrival with
    | some a => !(groupPorts s a).contains p
    | none => true).foldl (fun s p => portPut p k s) s

/-- Flood a message that this device originates. -/
def flood (opcode : Nat) (body : List Byte) (s : State) : State := floodPkt none (ctlPkt s 0 opcode true body) s

/-! ### LSAs (R362) -/

def idCode : IdState → Nat
  | .none => 0 | .claiming => 1 | .held => 2 | .conflict => 3

/-- This device's LSA now. -/
def ownLsa (s : State) : LsaBody :=
  { serial := s.part.serial
    seq := s.askar.bootCount % 65536 * 65536 + s.carrak.lsaSeq
    deviceId := s.carrak.deviceId
    idState := idCode s.carrak.idState
    admin := num s 0x2801 1 1 == 0
    entries := (List.range 24).filterMap fun p =>
      let x := portGet s p
      if x.st = .active || x.st = .retrain then x.peer.map fun q => ⟨q.serial, p, q.port, effRank x, effDateline x, x.lanes == 4⟩ else none }

/-- An LSA as bytes (R362). -/
def lsaBytes (b : LsaBody) : List Byte :=
  leBytes 8 b.serial ++ leBytes 4 b.seq ++ leBytes 1 b.deviceId ++ leBytes 1 (b.idState + 4 * b2n b.admin) ++
  leBytes 1 b.entries.length ++ leBytes 1 0 ++
  b.entries.flatMap fun e => leBytes 8 e.peerSerial ++ leBytes 1 e.port ++ leBytes 1 e.peerPort ++
    leBytes 1 (e.dimRank + 8 * b2n e.dateline + 16 * b2n e.half) ++ leBytes 1 0

/-- Flood this device's LSA and keep it; the routes are to be recomputed (R362, R363). -/
def floodLsa (s : State) : State :=
  let s := { s with carrak := { s.carrak with lsaSeq := (s.carrak.lsaSeq + 1) % 65536, stale := true } }
  let b := ownLsa s
  let s := { s with carrak := { s.carrak with lsas := b :: s.carrak.lsas.filter fun x => x.serial != b.serial } }
  flood 2 (lsaBytes b) s

/-! ### Transactions in flight (R353) -/

/-- The highest count of outstanding transactions of any port. -/
def txnHigh (s : State) : Nat := ((s.carrak.ports.map fun e => e.2.txns.length).max?).getD 0

/-- The port by which a request to a device would leave. -/
def leavingPort (s : State) (k : LinkPkt) : Option Nat :=
  (routeTo s k.dstDev).map fun r =>
    let a := activePorts s (r.primary.getD 0)
    if a.isEmpty then r.primary.getD 0 else pickPort a k

/-- Send a request that expects a completion, counted at its port; at 4,096 it is held (R353). -/
def linkRequest (k : LinkPkt) (s : State) : State :=
  match leavingPort s k with
  | none => s
  | some p =>
    if 4096 ≤ (portGet s p).txns.length then portHold p k (bump64 0x280D 2 s)
    else
      let s := linkSend none k (modPort p (fun x => { x with txns := x.txns ++ [(k.pkt.txn, k.dstDev)] }) s)
      wmEval 5 (txnHigh s) s

/-- A transaction ends (R353). -/
def txnEnd (txn dev : Nat) (s : State) : State :=
  let s := { s with carrak := { s.carrak with
    ports := s.carrak.ports.map fun e => (e.1, { e.2 with txns := e.2.txns.erase (txn, dev) }) } }
  wmEval 5 (txnHigh s) s

/-- Another device can be reached with requests (R32, R359, R365). -/
def canReach (s : State) (d : Nat) : Bool := s.carrak.idState == .held && (routeTo s d).isSome

end Sys2Proof.Machine
end

