-- ==== Sys2Proof/Machine/UcOps.lean ====
section
/-! DEFINITION. The unified cache: roles of slices, messages, replies, hints, victims and evictions (R218 to R236, R247 to
R256, R561 to R563). -/
namespace Sys2Proof.Machine

/-! ### Lines, slices and roles (R220, R221, R245) -/

/-- Local address of a global one. -/
def localOf (g : Nat) : Nat := g % 2 ^ 56

/-- Device ID of a global address. -/
def devOf (g : Nat) : Nat := g / 2 ^ 56

/-- An address of the host window (R33). -/
def isHostAddr (g : Nat) : Bool := localOf g / 2 ^ 52 == 1

/-- An address of the site P window (R33). -/
def sitePAddr (s : State) (g : Nat) : Bool := devOf g == devId s && localOf g / 2 ^ 40 == 4

/-- Site P takes part (R324). -/
def sitePServes (s : State) : Bool := s.helda.siteP.st == 2 || s.helda.siteP.st == 3

/-- An address of the tile window (R33, R35). -/
def isTileWin (s : State) (g : Nat) : Bool :=
  devOf g == devId s && localOf g / 2 ^ 40 == 1 && decide (localOf g % 2 ^ 40 / 2 ^ 20 < Config.nCores) &&
    decide (localOf g % 2 ^ 20 < 0x80000)

/-- Global line number and its address. -/
def lineOf (g : Nat) : Nat := g / 1024
def lineAddr (l : Nat) : Nat := 1024 * l

/-- The home slice of a line in a device's memory: spread or near (R221, R245). -/
def homeSlice (g : Nat) (near : Bool) : Nat :=
  if near then 64 * homeDie (localOf g) + lineFold 6 (localOf g) else lineFold 8 (localOf g)

/-- The proxy slice of a line of another device or of the host window (R221). -/
def proxySlice (g : Nat) : Nat := lineFold 8 (localOf g)

/-- What a slice is to a line. -/
inductive Role | home | guest | proxy
  deriving DecidableEq, Repr

/-- The role of a slice for a line, if it has one (R221). -/
def roleOf (s : State) (k g : Nat) (near : Bool) : Option Role :=
  if devOf g != devId s || isHostAddr g then (if k = proxySlice g then some .proxy else none)
  else if k = homeSlice g near then some .home
  else if near && k % 64 == lineFold 6 (localOf g) && decide (k < 256) then some .guest
  else none

/-- The set of a line in its slice (R221). -/
def setOf (s : State) (g : Nat) (near : Bool) : Nat :=
  if near && devOf g == devId s && !isHostAddr g then bits g 16 8 else bits g 18 8

/-- The B-die of the home of a line of this device. -/
def homeBdie (g : Nat) (near : Bool) : Nat := homeSlice g near / 64

/-! ### Access to the state -/

def sliceGet (s : State) (k : Nat) : Slice := sget {} s.uc.slices k
def setSlice (k : Nat) (x : Slice) (s : State) : State := { s with uc := { s.uc with slices := sput s.uc.slices k x } }
def modSlice (k : Nat) (f : Slice → Slice) (s : State) : State := setSlice k (f (sliceGet s k)) s

/-- The cache of a caching agent held here: a slice or a control core's L2. -/
def cacheGet (s : State) : Agent → Cache
  | .slice k => (sliceGet s k).c
  | .cc c => sget {} s.uc.cc c
  | _ => {}

def setCache (a : Agent) (c : Cache) (s : State) : State :=
  match a with
  | .slice k => modSlice k (fun x => { x with c := c }) s
  | .cc n => { s with uc := { s.uc with cc := sput s.uc.cc n c } }
  | _ => s

def modCache (a : Agent) (f : Cache → Cache) (s : State) : State := setCache a (f (cacheGet s a)) s

def homeGet (s : State) (b : Nat) : HomeDie := sget {} s.uc.homes b
def setHome (b : Nat) (h : HomeDie) (s : State) : State := { s with uc := { s.uc with homes := sput s.uc.homes b h } }
def modHome (b : Nat) (f : HomeDie → HomeDie) (s : State) : State := setHome b (f (homeGet s b)) s

/-- The way that holds a line: its key and contents. -/
def findWay (c : Cache) (line : Nat) : Option (Nat × Way) := c.ways.find? fun e => e.2.tag == line

def findMshr (c : Cache) (line : Nat) : Option Mshr := c.mshrs.find? fun m => m.line == line

def findEvict (c : Cache) (line : Nat) : Option Evict := c.evicts.find? fun e => e.line == line

/-- Change the way of a line. -/
def modWay (a : Agent) (line : Nat) (f : Way → Way) (s : State) : State :=
  modCache a (fun c => { c with ways := c.ways.map fun e => (e.1, if e.2.tag = line then f e.2 else e.2) }) s

def dropWay (a : Agent) (line : Nat) (s : State) : State :=
  modCache a (fun c => { c with ways := c.ways.filter fun e => e.2.tag != line }) s

def modMshr (a : Agent) (line : Nat) (f : Mshr → Mshr) (s : State) : State :=
  modCache a (fun c => { c with mshrs := c.mshrs.map fun m => if m.line = line then f m else m }) s

/-- The highest MSHR occupancy of any slice (R236). -/
def mshrHigh (s : State) : Nat := ((s.uc.slices.map fun e => e.2.c.mshrs.length).max?).getD 0

def dropMshr (a : Agent) (line : Nat) (s : State) : State :=
  let s := modCache a (fun c => { c with mshrs := c.mshrs.filter fun m => m.line != line }) s
  wmEval 2 (mshrHigh s) s

def addMshr (a : Agent) (m : Mshr) (s : State) : State :=
  let s := modCache a (fun c => { c with mshrs := c.mshrs ++ [m] }) s
  wmEval 2 (mshrHigh s) s

def findTracker (s : State) (k line : Nat) : Option Tracker := (sliceGet s k).trackers.find? fun t => t.line == line

def modTracker (k line : Nat) (f : Tracker → Tracker) (s : State) : State :=
  modSlice k (fun x => { x with trackers := x.trackers.map fun t => if t.line = line then f t else t }) s

/-- The busy trackers of the busiest slice (R281). -/
def trackerHigh (s : State) : Nat := ((s.uc.slices.map fun e => e.2.trackers.length).max?).getD 0

/-! ### Masks and data of lines -/

/-- The sectors of a mask, lowest first. -/
def sectorsIn (m : BitVec 16) : List Nat := (List.range 16).filter fun i => m.getLsbD i

def bit16 (i : Nat) : BitVec 16 := 1 <<< i

/-- Bytes of a sector of a line. -/
def sectorBytes (d : Memory) (i : Nat) : List Byte := memReadN d (64 * i) 64

/-- All 1,024 bytes of a line. -/
def lineBytes (d : Memory) : List Byte := memReadN d 0 1024

/-- Take the sectors of a mask from line data. -/
def takeSectors (d : Memory) (m : BitVec 16) (bytes : List Byte) : Memory :=
  (sectorsIn m).foldl (fun d i => memWriteN d (64 * i) (slice bytes (64 * i) 64)) d

/-- The poison that a message carries (R561): any poisoned sector marks every sector of `carried`. -/
def msgPoison (poison carried : BitVec 16) : BitVec 16 := if poison &&& carried = 0 then 0 else carried

/-! ### Messages (R206, R249, R252, R253) -/

/-- Virtual channel and opcode of a Bezel message. -/
def bezelCode : BOp → Nat × Nat
  | .getS => (0, 1) | .getM => (0, 2) | .putS => (0, 3) | .putE => (0, 4) | .atom => (0, 5) | .readOnce => (0, 6)
  | .writeOnce => (0, 7)
  | .fwdGetS => (1, 1) | .fwdGetM => (1, 2) | .fwdGetMAp => (1, 3) | .inv => (1, 4) | .recallS => (1, 5)
  | .recallI => (1, 6)
  | .gntM => (2, 1) | .gntAcks => (2, 2) | .invAck => (2, 3) | .fwdDoneO => (2, 4) | .fwdDoneS => (2, 5)
  | .fwdDoneI => (2, 6) | .fwdMiss => (2, 7) | .rspWbpend => (2, 8) | .wbAck => (2, 9) | .comp => (2, 0xA)
  | .homeLost => (2, 0xB) | .remoteLost => (2, 0xC) | .compAck => (2, 0x10)
  | .dataS => (3, 1) | .dataE => (3, 2) | .dataM => (3, 3) | .dataMAp => (3, 4) | .rspData => (3, 5) | .putM => (3, 6)
  | .putO => (3, 7) | .dataOnce => (3, 8) | .atomData => (3, 9)

/-- Node ID of a slice (R202, R203). -/
def sliceNode (k : Nat) : Nat :=
  4 * (k % 8) + 2 + 64 * (3 * (k % 64 / 8) + 1) + 4096 * (k / 64) + 32768

/-- Node ID of an agent of this device; the IOD and site P are no meshes (R201, R202). -/
def nodeOf : Agent → Nat
  | .slice k => sliceNode k
  | .siteP => 4096 * 5
  | .core c => coreLx c + 64 * coreLy c + 4096 * coreDie c
  | .plumb n => 1 + 64 * 12 + 4096 * n + 32768
  | _ => 4096 * 4

/-- Where a message to another device goes: snoops and grants to its proxy slice, everything else to the home. -/
def remoteNode (op : BOp) (g : Nat) : Nat :=
  match op with
  | .inv | .recallS | .recallI | .gntM | .dataS | .dataE | .dataM | .dataOnce | .atomData | .comp | .wbAck | .homeLost
  | .remoteLost => sliceNode (proxySlice g)
  | _ => sliceNode (homeSlice g true)

/-- A Bezel message as a packet for another device. -/
def bezelPkt (s : State) (op : BOp) (m : BMsg) (d : Nat) : LinkPkt :=
  { pkt := { vc := (bezelCode op).1, set := 0, opcode := (bezelCode op).2, dest := remoteNode op m.addr,
             src := nodeOf m.src, txn := m.txn, address := m.addr, data := m.data, list := [], ctx := m.ctx,
             part := ctxPart m.ctx, qos := 0, poison := m.spoison != 0, bcast := false, epoch := m.epoch,
             sectors := m.sectors },
    srcDev := devId s, dstDev := d, hops := 0, set := 0, deflected := false }

def agent20 (s : State) (l : Nat) : Agent20 := sget {} s.host.agent20 l
def setAgent20 (l : Nat) (x : Agent20) (s : State) : State :=
  { s with host := { s.host with agent20 := sput s.host.agent20 l x } }

/-- CXL message codes of `HostOut.cxl`: device-to-host cache requests, back-invalidate snoops, memory data and
completions (R402, R403). -/
def cxlRdShared : Nat := 1
def cxlRdOwn : Nat := 2
def cxlRdOwnNoData : Nat := 3
def cxlRdCurr : Nat := 4
def cxlWOWrInvF : Nat := 5
def cxlWOWrInv : Nat := 6
def cxlDirtyEvict : Nat := 7
def cxlCleanEvictNoData : Nat := 8
def cxlBiSnpInv : Nat := 9
def cxlBiSnpData : Nat := 10
def cxlMemData : Nat := 11
def cxlCmp : Nat := 12
def cxlSnoopRsp : Nat := 13

/-- Send a CXL message for each of the 16 host lines of a line. -/
def cxl16 (code line : Nat) (s : State) : State :=
  (List.range 16).foldl (fun s i => hostSend (.cxl code (lineAddr line + 64 * i) [] false) s) s

/-- Back-invalidate snoops for a line of agent 20 (R403). -/
def biStart (op : BOp) (m : BMsg) (s : State) : State :=
  let l := lineOf m.addr
  let code := if op = .recallS then cxlBiSnpData else cxlBiSnpInv
  cxl16 code l { s with host := { s.host with
    bi := s.host.bi ++ [{ line := l, near := m.near, op := op, left := 16, dirty := 0, data := [] }] } }

/-- A proxy slice answers a host snoop (R272, R402): the snooped line as CXL.cache requires, the other sectors given up, dirty
ones with DirtyEvict, and clean ones with CleanEvictNoData where nothing is kept (`txn` 0, SnpInv). -/
def snoopAnswer (m : BMsg) (s : State) : State :=
  let l := lineOf m.addr
  let i := m.addr % 1024 / 64
  let dirty := fun (j : Nat) => m.sectors.getLsbD j
  let bad := fun (j : Nat) => m.spoison.getLsbD j
  let data := fun (j : Nat) => slice m.data (64 * j) 64
  let s := hostSend (.cxl cxlSnoopRsp (m.addr / 64 * 64) (if dirty i then data i else []) (bad i)) s
  ((List.range 16).filter (· != i)).foldl (fun s j =>
    if dirty j then hostSend (.cxl cxlDirtyEvict (lineAddr l + 64 * j) (data j) (bad j)) s
    else if m.txn = 0 then hostSend (.cxl cxlCleanEvictNoData (lineAddr l + 64 * j) [] false) s else s) s

/-- A message reaches agent 20, the host (R263, R403), or answers a snoop of a host-window line (R272). -/
def hostReceive (op : BOp) (m : BMsg) (s : State) : State :=
  let l := lineOf m.addr
  let x := agent20 s l
  let give := fun s : State => match x.read with
    | some r => hostSend (.cxl cxlMemData (m.addr + r.1) (slice m.data r.1 64) (m.spoison != 0)) s
    | none => s
  match op with
  | .inv | .recallI | .recallS =>
    if x.hold then bump64 0x2501 3 (setAgent20 l { x with deferred := some (op, m) } s) else biStart op m s
  | .dataS => give (setAgent20 l { x with st := 1, read := none } s)
  | .dataE | .dataM | .dataMAp => give (setAgent20 l { x with st := 2, hold := true, read := none } s)
  | .gntM => setAgent20 l { x with st := 2, hold := true } s
  | .dataOnce => give (setAgent20 l { x with read := none } s)
  | .invAck | .rspData | .rspWbpend => if isHostAddr m.addr then snoopAnswer m s else s
  | _ => s

/-- A request expects a completion (R353). -/
def isRequest (op : BOp) : Bool := (bezelCode op).1 == 0

/-- Send a Bezel message: over Carrak Link to another device, to the host interface, or in the package. -/
def sendB (op : BOp) (m : BMsg) (s : State) : State :=
  match m.dst with
  | .device d =>
    let s := { s with uc := { s.uc with sent := s.uc.sent ++ [⟨op, m⟩] } }
    if isRequest op then linkRequest (bezelPkt s op m d) s else linkSend none (bezelPkt s op m d) s
  | .host => hostReceive op m s
  | _ => { s with uc := { s.uc with sent := s.uc.sent ++ [⟨op, m⟩] } }

/-- A message has been received: it is no longer on its way. -/
def received (op : BOp) (m : BMsg) (s : State) : State :=
  { s with uc := { s.uc with sent := s.uc.sent.erase ⟨op, m⟩ } }

/-- The agent that is the home of a line. -/
def homeAgent (s : State) (g : Nat) (near : Bool) : Agent :=
  if sitePAddr s g then .siteP else if isHostAddr g then .host else if devOf g = devId s then .slice (homeSlice g near) else .device (devOf g)

/-- The epoch of a line's home as this device knows it (R273): none for a remote home never heard from. -/
def knownEpoch (s : State) (g : Nat) (near : Bool) : Option Nat :=
  if isHostAddr g then none
  else if devOf g = devId s then some (homeGet s (homeBdie g near)).epoch
  else sfind s.uc.remoteEpochs (4 * devOf g + homeDie (localOf g))

/-- A fresh transaction number. -/
def newTxn (s : State) : Nat × State := (s.uc.nextTxn, { s with uc := { s.uc with nextTxn := (s.uc.nextTxn + 1) % 65536 } })

/-! ### Replies (R212, R276, R559) -/

/-- Answer a requester. -/
def reply (a : Agent) (txn addr : Nat) (data : List Byte) (poison : Bool) (status : Nat) (s : State) : State :=
  { s with uc := { s.uc with replies := s.uc.replies ++ [⟨a, txn, addr, data, poison, status⟩] } }

/-- Answer a UC request. -/
def replyReq (r : UcReq) (data : List Byte) (poison : Bool) (status : Nat) (s : State) : State :=
  reply r.src r.txn r.addr data poison status s

/-- Complete a request with HOME_LOST (R276) or REMOTE_LOST (R279), counted. -/
def replyLost (r : UcReq) (status : Nat) (s : State) : State :=
  replyReq r [] false status (bump 0x2504 (if status = 9 then 1 else 2) s)

/-- Answer waiters of one sector together (R212, R232): more than one as one replicated packet. -/
def answerWaiters (l : List Waiter) (line : Nat) (data : List Byte) (poison : Bool) (status : Nat) (s : State) : State :=
  let s := if 1 < l.length then bump64 0x2314 1 s else s
  l.foldl (fun s w => reply w.dest w.txn (lineAddr line + 64 * w.sector) data poison status s) s

/-! ### Holding a request (R234 to R236) -/

/-- Put a request in the held state for a cause, counted (R235, R236). -/
def holdReq (k : Nat) (r : UcReq) (cause : HeldFor) (s : State) : State :=
  let s := modSlice k (fun x => { x with c := { x.c with held := x.c.held ++ [⟨r, cause⟩] } }) s
  let o : Option (Nat × Nat) := match cause with
    | .mshr => some (0x2404, 1)
    | .waiterPool => some (0x2404, 2)
    | .victim => some (0x2404, 3)
    | .wbBuffer => some (0x2404, 4)
    | .waiterLimit => some (0x2403, 5)
    | _ => none
  match o with
  | none => s
  | some (i, j) =>
    let s := bump64 i j s
    let now := time s / 1000000000
    if num s 0x6404 1 0 = 1 && sfind s.dict.ignLogged (256 * i + j) != some now then
      logRec { index := i, sub := j, sev := 1, ctx := r.ctx, part := r.part, payload := leBytes 8 (num s i j 0) }
        { s with dict := { s.dict with ignLogged := sput s.dict.ignLogged (256 * i + j) now } }
    else s

/-! ### Hints (R226, R227, R230) -/

/-- A Reserved hint acts as NORMAL and is counted (R227). -/
def countHint (h : Nat) (s : State) : State := if 5 ≤ h then bump64 0x2403 1 s else s

/-- Retention order of hints (R230), most retentive highest. -/
def retention (h : Nat) : Nat :=
  match h with
  | 1 => 4
  | 3 => 2
  | 4 => 1
  | 2 => 0
  | _ => 3

/-- The most retentive hint of a list. -/
def mostRetentive : List Nat → Nat
  | [] => 2
  | [h] => h
  | h :: t => if retention (mostRetentive t) ≤ retention h then h else mostRetentive t

/-- Ways of a set that hold KEEP, other than one line. -/
def keepWays (c : Cache) (set line : Nat) : Nat :=
  (c.ways.filter fun e => e.1 / 16 == set && e.2.keep && e.2.tag != line).length

/-- A hit under a hint (R226, R227); LAST_USE that does not discard acts as EVICT_FIRST (R228). -/
def hitHint (a : Agent) (line h : Nat) (s : State) : State :=
  let c := cacheGet s a
  match findWay c line with
  | none => s
  | some (i, _) =>
    match h with
    | 1 => if keepWays c (i / 16) line < 12 then modWay a line (fun w => { w with keep := true, rrv := 0 }) s
           else bump64 0x2403 2 (modWay a line (fun w => { w with rrv := 0 }) s)
    | 2 => s
    | 3 => modWay a line (fun w => { w with keep := false }) s
    | 4 => modWay a line (fun w => { w with keep := false }) s
    | _ => modWay a line (fun w => { w with rrv := 0 }) s

/-- KEEP and RRV of a line filled under a hint (R226, R227), counting a KEEP beyond the twelfth. -/
def fillHint (c : Cache) (set line h : Nat) : Bool × Nat × Bool :=
  match h with
  | 1 => if keepWays c set line < 12 then (true, 0, false) else (false, 2, true)
  | 3 => (false, 3, false)
  | 4 => (false, 3, false)
  | _ => (false, 2, false)

/-! ### Victims and evictions (R225, R236, R256, R260, R265) -/

/-- A line is in a transient state or holds (R260: no eviction). -/
def transient : LineState → Bool
  | .i | .s | .e | .o | .m | .home => false
  | _ => true

/-- A way may not be chosen: LOCK, a transient state, an MSHR, a tracker or a held request on its line (R219, R225,
R235). -/
def wayLocked (s : State) (a : Agent) (w : Way) : Bool :=
  let c := cacheGet s a
  w.lock || transient w.st || (findMshr c w.tag).isSome || (c.held.any fun h => lineOf h.req.addr == w.tag) ||
    (match a with
     | .slice k => (findTracker s k w.tag).isSome
     | _ => false)

/-- The remote-sharer entry of a line (R268). -/
def dirOf (s : State) (g : Nat) (near : Bool) : Option DirOut :=
  (homeGet s (homeBdie g near)).dir.find? fun d => d.line == lineOf g

/-- A home copy has holders in the package (R256). -/
def hasHolders (w : Way) : Bool := w.dir.sharers != 0 || w.dir.own != .none

/-- The state a copy's eviction waits in, and the request sent (R260). -/
def evictOf : LineState → Option (LineState × BOp)
  | .s => some (.siA, .putS)
  | .e => some (.eiA, .putE)
  | .o => some (.miA, .putO)
  | .m => some (.miA, .putM)
  | _ => none

/-- The message with which a copy is evicted. -/
def putMsg (s : State) (a : Agent) (w : Way) (dirty : Bool) : BMsg :=
  let g := lineAddr w.tag
  { dst := homeAgent s g w.near, src := a, txn := s.uc.nextTxn, addr := g, near := w.near, ctx := w.ctx,
    epoch := (knownEpoch s g w.near).getD 0, sectors := if dirty then w.sdirty else 0,
    spoison := if dirty then msgPoison w.spoison w.sdirty else 0, data := if dirty then lineBytes w.data else [] }

/-- A host-window line leaves a proxy slice (R402): DirtyEvict for dirty sectors, CleanEvictNoData for the others. -/
def cxlEvict (w : Way) (s : State) : State :=
  let s := (List.range 16).foldl (fun s i =>
    if w.sdirty.getLsbD i then hostSend (.cxl cxlDirtyEvict (lineAddr w.tag + 64 * i) (sectorBytes w.data i) (w.spoison.getLsbD i)) s
    else hostSend (.cxl cxlCleanEvictNoData (lineAddr w.tag + 64 * i) [] false) s) s
  { s with host := { s.host with cxlWait := sput s.host.cxlWait w.tag 16 } }

/-- Evict a guest or proxy copy, or a control core's: its way is freed and the line waits for WB_ACK (R260). -/
def evictCopy (a : Agent) (w : Way) (s : State) : State :=
  match evictOf w.st with
  | none => s
  | some (st, op) =>
    let dirty := op = .putM || op = .putO
    let m := putMsg s a w dirty
    let s := modCache a (fun c => { c with evicts := c.evicts ++ [⟨w.tag, w.near, st, w.sdirty, w.spoison, w.data⟩] })
      (dropWay a w.tag s)
    if isHostAddr (lineAddr w.tag) then cxlEvict w s
    else sendB op m { s with uc := { s.uc with nextTxn := (s.uc.nextTxn + 1) % 65536 } }

/-- Write the dirty sectors of a line of this device to HBM (R225, R250). -/
def writeSectors (k line : Nat) (d : Memory) (dirty poison : BitVec 16) (part : Nat) (s : State) : State :=
  (sectorsIn dirty).foldl (fun s i =>
    hbmStore k (localOf (lineAddr line) + 64 * i) (sectorBytes d i) (poison.getLsbD i) part false s) s

/-- Evict a home copy that has no holders: its dirty sectors go to HBM through the write-back buffer. -/
def evictHome (k : Nat) (w : Way) (s : State) : State :=
  let s := dropWay (.slice k) w.tag s
  if w.sdirty = 0 then s
  else writeSectors k w.tag w.data w.sdirty w.spoison (ctxPart w.ctx)
    (modCache (.slice k) (fun c => { c with evicts := c.evicts ++ [⟨w.tag, w.near, .home, w.sdirty, w.spoison, w.data⟩] }) s)

/-- The outcome of asking for a way. -/
inductive WayAsk
  | got (i : Nat)
  | recall (w : Way)
  | noVictim
  | noBuffer
  deriving DecidableEq, Repr

/-- Ways of a set that R225 may choose: index and contents, lowest first. -/
def candidates (s : State) (k set : Nat) : List (Nat × Way) :=
  ((sliceGet s k).c.ways.filter fun e => e.1 / 16 == set && !e.2.keep && !wayLocked s (.slice k) e.2)

/-- Raise the RRV of the candidates until one reaches 3 (R225). -/
def raiseRrv (k set n : Nat) (s : State) : State :=
  let l := (candidates s k set).map (·.1)
  modSlice k (fun x => { x with c := { x.c with
    ways := x.c.ways.map fun e => (e.1, if l.contains e.1 then { e.2 with rrv := min 3 (e.2.rrv + n) } else e.2) } }) s

/-- Find a way for a fill (R225, R236, R256), evicting its line unless copies must be recalled first. -/
def askWay (k set : Nat) (s : State) : WayAsk × State :=
  let c := (sliceGet s k).c
  match (List.range 16).find? fun i => (sfind c.ways (16 * set + i)).isNone with
  | some i => (.got (16 * set + i), s)
  | none =>
    let l := candidates s k set
    match ((l.map fun e => e.2.rrv).max?) with
    | none => (.noVictim, s)
    | some m =>
      let s := raiseRrv k set (3 - m) s
      match (candidates s k set).find? fun e => 3 ≤ e.2.rrv with
      | none => (.noVictim, s)
      | some (i, w) =>
        if 32 ≤ c.evicts.length then (.noBuffer, s)
        else if w.st = .home then
          if hasHolders w then (.recall w, s) else (.got i, evictHome k w s)
        else (.got i, evictCopy (.slice k) w s)

/-- Put a line into a way. -/
def putWay (k i : Nat) (w : Way) (s : State) : State :=
  modSlice k (fun x => { x with c := { x.c with ways := sput x.c.ways i w } }) s

end Sys2Proof.Machine
end

