-- ==== Sys2Proof/Machine/Bezel.lean ====
section
/-! DEFINITION. Bezel: home trackers and directories, the cache tables, deferred snoops, once-requests, and a home that goes
away (R243 to R281, R561 to R565). Handlers answer `none` for a protocol error (R264). -/
namespace Sys2Proof.Machine

/-! ### Agents (R243) -/

/-- Agent number of a caching agent of the package. -/
def agentNum : Agent → Nat
  | .slice k => k / 64
  | .cc c => 4 + c
  | .host => 20
  | .siteP => 21
  | _ => 31

/-- The caching agent with a number, for a line. -/
def agentOf (n g : Nat) : Agent :=
  if n < 4 then .slice (64 * n + lineFold 6 (localOf g)) else if n < 20 then .cc (n - 4)
  else if n = 20 then .host else .siteP

def bit22 (n : Nat) : BitVec 22 := 1 <<< n

/-- The agents of a SHARERS mask. -/
def sharerNums (m : BitVec 22) : List Nat := (List.range 22).filter fun i => m.getLsbD i

/-- The home copy of a line, if the home slice holds one. -/
def homeWay (s : State) (k line : Nat) : Option Way :=
  match findWay (cacheGet s (.slice k)) line with
  | some e => if e.2.st = .home then some e.2 else none
  | none => none

def homeDirIn (s : State) (k line : Nat) : DirIn := ((homeWay s k line).map (·.dir)).getD {}

def modDir (k line : Nat) (f : DirIn → DirIn) (s : State) : State :=
  modWay (.slice k) line (fun w => { w with dir := f w.dir }) s

/-- Remove an agent from a directory entry. -/
def dropHolder (n : Nat) (d : DirIn) : DirIn :=
  { d with
    sharers := d.sharers &&& ~~~(bit22 n)
    own := if d.own != .none && d.owner == n then .none else d.own
    owner := if d.own != .none && d.owner == n then 0 else d.owner }

def addSharer (n : Nat) (d : DirIn) : DirIn := { d with sharers := d.sharers ||| bit22 n }

/-! ### Merging write-backs at the home (R250) -/

/-- Merge dirty sectors into the home copy, into a fill in progress, or into HBM. -/
def mergeHome (k line : Nat) (m : BMsg) (s : State) : State :=
  let pz := msgPoison m.spoison m.sectors
  if (homeWay s k line).isSome then
    modWay (.slice k) line (fun w => { w with
      data := takeSectors w.data m.sectors m.data
      svalid := w.svalid ||| m.sectors
      sdirty := w.sdirty ||| m.sectors
      spoison := (w.spoison &&& ~~~m.sectors) ||| pz }) s
  else
    match findMshr (cacheGet s (.slice k)) line with
    | some _ => modMshr (.slice k) line (fun x => { x with
        data := takeSectors x.data m.sectors m.data
        got := x.got ||| m.sectors
        gotDirty := x.gotDirty ||| m.sectors
        gotPoison := (x.gotPoison &&& ~~~m.sectors) ||| pz }) s
    | none => writeSectors k line (takeSectors [] m.sectors m.data) m.sectors pz (ctxPart m.ctx) s

/-! ### Fills of a home copy (R231, R247) -/

/-- Sectors fetched for a demanded one (R231). -/
def fillMask (s : State) (i : Nat) : BitVec 16 :=
  match num s 0x2401 1 1 with
  | 0 => bit16 i
  | 2 => 0xFFFF
  | _ => 0xF <<< (4 * (i / 4))

/-- Ask HBM for the sectors of a mask for an MSHR. -/
def fetchSectors (k line : Nat) (m : BitVec 16) (part : Nat) (reserved : Bool) (s : State) : State :=
  (sectorsIn m).foldl (fun s i => hbmFetch k (localOf (lineAddr line) + 64 * i) part reserved s) s

/-- The home copy holds the sectors of a mask. -/
def homeHas (s : State) (k line : Nat) (m : BitVec 16) : Bool :=
  match homeWay s k line with
  | some w => w.svalid &&& m == m
  | none => false

/-- Start or extend the fill of a home copy; nothing happens where all 256 MSHRs are busy (R236). -/
def startFill (k line : Nat) (near : Bool) (ctx : Nat) (m : BitVec 16) (s : State) : State :=
  let c := cacheGet s (.slice k)
  let have_ := ((homeWay s k line).map (·.svalid)).getD 0
  match findMshr c line with
  | some x =>
    let extra := m &&& ~~~(have_ ||| x.got ||| x.fetch)
    fetchSectors k line extra (ctxPart ctx) false
      (modMshr (.slice k) line (fun x => { x with fetch := x.fetch ||| extra }) s)
  | none =>
    if 256 ≤ c.mshrs.length then s
    else
      fetchSectors k line (m &&& ~~~have_) (ctxPart ctx) false
        (addMshr (.slice k) { line := line, near := near, ctx := ctx, bz := .home, fetch := m &&& ~~~have_ } s)

/-! ### The remote-sharer directory (R268 to R270) -/

/-- Set of a line in the directory cache (R268). -/
def dirSet (line : Nat) : Nat := foldBits 16 46 (line % 2 ^ 46)

/-- Replace the entry of a line (it becomes the most recently updated), or free it. -/
def setDir (g : Nat) (near : Bool) (d : Option DirOut) (s : State) : State :=
  let b := homeBdie g near
  let rest := (homeGet s b).dir.filter fun x => x.line != lineOf g
  let s := modHome b (fun h => { h with dir := match d with
    | some x => rest ++ [x]
    | none => rest }) s
  modDir (homeSlice g near) (lineOf g) (fun x => { x with remote := d.isSome }) s

/-- The devices that an entry tracks; for a vector every device of its groups (R269). -/
def dirDevices (s : State) (d : DirOut) : List Nat :=
  match d.mode with
  | .vector => (List.range 256).filter fun x => d.vec.getLsbD (x / 8) && x != devId s && canReach s x
  | _ => d.ptrs

/-- Add a sharer to an entry (R269). -/
def dirAddSharer (line dev : Nat) (d : Option DirOut) : DirOut × Bool :=
  match d with
  | none => ({ line := line, mode := .pointers, ptrs := [dev], vec := 0 }, false)
  | some e =>
    match e.mode with
    | .vector => ({ e with vec := e.vec ||| (1 <<< (dev / 8)) }, false)
    | _ =>
      if e.ptrs.contains dev then ({ e with mode := .pointers }, false)
      else if e.ptrs.length < 4 then ({ e with mode := .pointers, ptrs := e.ptrs ++ [dev] }, false)
      else ({ line := line, mode := .vector, ptrs := [],
              vec := (dev :: e.ptrs).foldl (fun v x => v ||| (1 <<< (x / 8))) 0 }, true)

/-- Remove a device from an entry; a vector is left unchanged (R267, R269). -/
def dirRemove (dev : Nat) (d : DirOut) : Option DirOut :=
  match d.mode with
  | .vector => some d
  | _ => if (d.ptrs.filter (· != dev)).isEmpty then none else some { d with ptrs := d.ptrs.filter (· != dev) }

/-! ### Messages of a home -/

/-- A message that a home sends for a tracker. -/
def homeMsg (s : State) (k : Nat) (t : Tracker) (dst src : Agent) : BMsg :=
  { dst := dst, src := src, txn := t.txn, addr := lineAddr t.line, near := t.near, ctx := 0,
    epoch := (homeGet s (k / 64)).epoch, sectors := 0, spoison := 0, data := [] }

/-- A response without data to the requester. -/
def answerB (op : BOp) (k : Nat) (t : Tracker) (s : State) : State :=
  sendB op (homeMsg s k t t.req (.slice k)) s

/-- Data of the home copy to the requester; the home stays responsible for its own dirty sectors (DEDUCED,
notes/assumptions/22.md). -/
def answerData (op : BOp) (k : Nat) (t : Tracker) (s : State) : State :=
  let w := (homeWay s k t.line).getD { tag := t.line, st := .home }
  sendB op { homeMsg s k t t.req (.slice k) with
    data := lineBytes w.data
    spoison := msgPoison w.spoison 0xFFFF } s

/-- The reply opcode of a request (R565). -/
def replyOp : BOp → BOp
  | .getS => .dataS
  | .getM => .dataM
  | .readOnce => .dataOnce
  | .writeOnce => .comp
  | .atom => .atomData
  | _ => .wbAck

/-- Answer a request without a tracker. -/
def answerMsg (op : BOp) (k : Nat) (m : BMsg) (poison : Bool) (s : State) : State :=
  sendB op { dst := m.src, src := .slice k, txn := m.txn, addr := m.addr, near := m.near, ctx := 0,
             epoch := (homeGet s (k / 64)).epoch, sectors := 0, spoison := if poison then 0xFFFF else 0, data := [] } s

/-! ### Snoops (R258, R267, R269) -/

/-- A request or recall that leaves nothing with the others. -/
def takesAll : BOp → Bool
  | .getM | .atom | .writeOnce => true
  | _ => false

def isDevice : Agent → Bool
  | .device _ => true
  | _ => false

/-- The remote snoops that a tracker needs (R267). -/
def remoteSnoops (s : State) (t : Tracker) : List (Agent × BOp) :=
  match dirOf s (lineAddr t.line) t.near with
  | none => []
  | some d =>
    let keep := fun x => t.op = .getM && t.req == Agent.device x
    match d.mode with
    | .exclusive =>
      (d.ptrs.filter fun x => !keep x && canReach s x).map fun x =>
        (.device x, if takesAll t.op then .recallI else .recallS)
    | _ => if takesAll t.op then ((dirDevices s d).filter fun x => !keep x && canReach s x).map fun x => (.device x, .inv)
           else []

/-- The agent is a caching agent of the package whose own request the tracker serves. -/
def cachingReq (t : Tracker) : Bool := decide (t.kind = .request) && decide (agentNum t.req < 22)

/-- The in-package snoops that a tracker needs (R258): forwards where the owner can supply the requester, recalls
elsewhere. Agent 20 answers recalls only (R403). -/
def localSnoops (t : Tracker) (d : DirIn) : List (Agent × BOp) :=
  let g := lineAddr t.line
  let r := if cachingReq t then agentNum t.req else 31
  let others := (sharerNums d.sharers).filter (· != r)
  let fwd := cachingReq t && d.owner != 20
  let owner : List (Agent × BOp) :=
    if d.own = .none || d.owner == r then []
    else match t.op with
      | .getS => [(agentOf d.owner g, if fwd then .fwdGetS else .recallS)]
      | .getM => [(agentOf d.owner g, if fwd then (if others.isEmpty then .fwdGetM else .fwdGetMAp) else .recallI)]
      | .readOnce => [(agentOf d.owner g, .recallS)]
      | _ => [(agentOf d.owner g, .recallI)]
  owner ++ (if takesAll t.op then others.map fun n => (agentOf n g, .inv) else [])

/-- Send the snoops of a tracker: a forward names the requester as SRC (R252). -/
def sendSnoops (k : Nat) (t : Tracker) (l : List (Agent × BOp)) (s : State) : State :=
  l.foldl (fun s e =>
    let src := match e.2 with
      | .fwdGetS | .fwdGetM | .fwdGetMAp => t.req
      | _ => .slice k
    sendB e.2 (homeMsg s k t e.1 src) s) s

/-! ### Atomics at the home (R119, R174, R253) -/

/-- The new value of an atomic on `n` bits: ADD, MIN, MAX, AND, OR, XCHG, CAS by the codes of R119. -/
def atomNew (op n old operand comparand : Nat) : Nat :=
  let lt := fun a b =>
    if Config.atomSigned && bit a (n - 1) != bit b (n - 1) then bit a (n - 1) else decide (a < b)
  match op with
  | 0 => (old + operand) % 2 ^ n
  | 1 => if lt operand old then operand else old
  | 2 => if lt old operand then operand else old
  | 3 => old &&& operand
  | 4 => old ||| operand
  | 5 => operand
  | _ => if old = comparand then operand else old

/-- Size in bytes and offset in the line of an ATOM flit. -/
def atomSize (d : List Byte) : Nat := if field d 1 1 = 8 then 8 else 4
def atomOff (d : List Byte) : Nat := field d 2 2 % 1024 / atomSize d * atomSize d

/-- Perform an ATOM flit on line data: the old value and the new data. -/
def atomApply (flit : List Byte) (d : Memory) : Nat × Memory :=
  let n := atomSize flit
  let o := atomOff flit
  let old := leNat (memReadN d o n)
  let new := atomNew (field flit 0 1) (8 * n) old (field flit 8 n) (field flit 16 n)
  (old, memWriteN d o (leBytes n new))

/-- The flit of ATOM_DATA: the old value at offset 8. -/
def atomReply (old : Nat) : List Byte := leBytes 8 0 ++ leBytes 8 old ++ leBytes 16 0

/-! ### Writing into a line -/

/-- Merge byte enables and bytes into a sector of a way (R159, R233, R563). -/
def writeWay (w : Way) (i : Nat) (bs : List (Bool × Byte)) (poison : Bool) : Way :=
  let whole := decide (64 ≤ bs.length) && bs.all (·.1)
  { w with
    data := memWriteMasked w.data (64 * i) bs
    svalid := w.svalid ||| bit16 i
    sdirty := w.sdirty ||| bit16 i
    spoison := if poison then w.spoison ||| bit16 i else if whole then w.spoison &&& ~~~(bit16 i) else w.spoison }

/-! ### Trackers (R256 to R258, R267) -/

def startTracker (k : Nat) (t : Tracker) (s : State) : State :=
  let s := modSlice k (fun x => { x with trackers := x.trackers ++ [t] }) s
  wmEval 3 (trackerHigh s) s

def endTracker (k line : Nat) (s : State) : State :=
  let s := modSlice k (fun x => { x with trackers := x.trackers.filter fun t => t.line != line }) s
  wmEval 3 (trackerHigh s) s

/-- A tracker of the home slice's own. -/
def ownTracker (k line : Nat) (near : Bool) (kind : TrkKind) (op : BOp) (stage ctx : Nat) : Tracker :=
  { line := line, near := near, kind := kind, op := op, req := .slice k, txn := 0, ctx := ctx, data := [], sectors := 0,
    spoison := 0, stage := stage }

/-- Start the recall of the in-package copies of a home copy, to evict or discard it (R228, R239, R256). -/
def startRecall (k : Nat) (w : Way) (kind : TrkKind) (s : State) : State :=
  if (findTracker s k w.tag).isSome || decide (512 ≤ (sliceGet s k).trackers.length) then s
  else bump64 0x2501 5 (startTracker k (ownTracker k w.tag w.near kind .writeOnce 1 w.ctx) s)

/-- Ask for a way, starting the recall of a victim's copies where it has some. -/
def wantWay (k set : Nat) (s : State) : Option Nat × State :=
  match askWay k set s with
  | (.got i, s) => (some i, s)
  | (.recall w, s) => (none, startRecall k w .evict s)
  | (.noVictim, s) => (none, s)
  | (.noBuffer, s) => (none, s)

def exclDir (n : Nat) (d : DirIn) : DirIn := { d with sharers := 0, owner := n, own := .excl }

def finishTracker (k line : Nat) (s : State) : State := modTracker k line (fun t => { t with finished := true }) s

/-- Wait for the home copy's fill. -/
def waitFill (k : Nat) (t : Tracker) (m : BitVec 16) (s : State) : State :=
  startFill k t.line t.near t.ctx m (modTracker k t.line (fun t => { t with awaitFill := true }) s)

/-- The last stage of a request from inside the package (R258). -/
def finalLocal (k : Nat) (t : Tracker) (s : State) : State :=
  let d := homeDirIn s k t.line
  let n := agentNum t.req
  match t.op with
  | .getS =>
    if t.served then finishTracker k t.line (modDir k t.line (addSharer n) s)
    else if !homeHas s k t.line 0xFFFF then waitFill k t 0xFFFF s
    else if d.own = .none && d.sharers == 0 && (dirOf s (lineAddr t.line) t.near).isNone then
      finishTracker k t.line (modDir k t.line (exclDir n) (answerData .dataE k t s))
    else finishTracker k t.line (modDir k t.line (addSharer n) (answerData .dataS k t s))
  | _ =>
    if t.served then
      finishTracker k t.line (modDir k t.line (exclDir n) (if t.ap then answerB .gntAcks k t s else s))
    else if t.hadCopy then finishTracker k t.line (modDir k t.line (exclDir n) (answerB .gntM k t s))
    else if !homeHas s k t.line 0xFFFF then waitFill k t 0xFFFF s
    else finishTracker k t.line (modDir k t.line (exclDir n) (answerData .dataM k t s))

/-- The directory set of a line is full of other lines (R270). -/
def dirFull (s : State) (g : Nat) (near : Bool) : Bool :=
  (dirOf s g near).isNone &&
    decide (16 ≤ ((homeGet s (homeBdie g near)).dir.filter fun d => dirSet d.line == dirSet (lineOf g)).length)

/-- Recall what the least recently updated entry of the set tracks (R270). -/
def dirEvict (g : Nat) (near : Bool) (s : State) : State :=
  let v := (homeGet s (homeBdie g near)).dir.find? fun d =>
    dirSet d.line == dirSet (lineOf g) && (findTracker s (homeSlice (lineAddr d.line) near) d.line).isNone
  match v with
  | some d =>
    let k := homeSlice (lineAddr d.line) near
    bump64 0x2501 6 (startTracker k (ownTracker k d.line near .dirEvict .writeOnce 0 0) s)
  | none => s

/-- The last stage of a GET_S or GET_M from another device (R267). -/
def finalRemote (k dev : Nat) (t : Tracker) (s : State) : State :=
  let g := lineAddr t.line
  let d := homeDirIn s k t.line
  let fin := fun s => modTracker k t.line (fun t => { t with finished := true, awaitComp := true }) s
  if !t.hadCopy && !homeHas s k t.line 0xFFFF then waitFill k t 0xFFFF s
  else if dirFull s g t.near then dirEvict g t.near (modTracker k t.line (fun t => { t with awaitDir := true }) s)
  else
    let excl : DirOut := { line := t.line, mode := .exclusive, ptrs := [dev], vec := 0 }
    if t.op = .getM then
      fin (setDir g t.near (some excl) (if t.hadCopy then answerB .gntM k t s else answerData .dataM k t s))
    else if (dirOf s g t.near).isNone && d.own = .none && d.sharers == 0 then
      fin (setDir g t.near (some excl) (answerData .dataE k t s))
    else
      let e := dirAddSharer t.line dev (dirOf s g t.near)
      let s := if e.2 then bump64 0x2501 7 s else s
      fin (setDir g t.near (some e.1) (answerData .dataS k t s))

/-- The last stage of READ_ONCE, WRITE_ONCE and ATOM (R258, R267). -/
def finalOnce (k : Nat) (t : Tracker) (s : State) : State :=
  match t.op with
  | .readOnce =>
    if !homeHas s k t.line 0xFFFF then waitFill k t 0xFFFF s
    else finishTracker k t.line (answerData .dataOnce k t s)
  | .writeOnce =>
    let m := { homeMsg s k t t.req t.req with sectors := t.sectors, spoison := t.spoison, data := t.data, ctx := t.ctx }
    let fin := fun s => finishTracker k t.line (answerB .comp k t s)
    if (homeWay s k t.line).isSome || (findMshr (cacheGet s (.slice k)) t.line).isSome then fin (mergeHome k t.line m s)
    else
      match wantWay k (setOf s (lineAddr t.line) t.near) s with
      | (some i, s) => fin (mergeHome k t.line m (putWay k i { tag := t.line, st := .home, rrv := 2, ctx := t.ctx, near := t.near } s))
      | (none, s) => modTracker k t.line (fun t => { t with awaitFill := true }) s
  | _ =>
    let i := atomOff t.data / 64
    if !homeHas s k t.line (bit16 i) then waitFill k t (fillMask s i) s
    else
      let w := (homeWay s k t.line).getD { tag := t.line, st := .home }
      let pz := w.spoison.getLsbD i
      let r := atomApply t.data w.data
      let s := if pz then s else modWay (.slice k) t.line (fun w => { w with data := r.2, sdirty := w.sdirty ||| bit16 i }) s
      finishTracker k t.line (sendB .atomData { homeMsg s k t t.req (.slice k) with
        data := atomReply r.1
        spoison := if pz then 0xFFFF else 0 } s)

/-- Trackers that wait for a fill or a way of a slice, or for a directory entry, try again. -/
def wakeFill (k : Nat) (s : State) : State :=
  modSlice k (fun x => { x with trackers := x.trackers.map fun t => { t with awaitFill := false } }) s
def wakeDir (b : Nat) (s : State) : State :=
  { s with uc := { s.uc with slices := s.uc.slices.map fun e =>
    (e.1, if e.1 / 64 = b then { e.2 with trackers := e.2.trackers.map fun t => { t with awaitDir := false } } else e.2) } }

/-- The last stage of a tracker. -/
def finalStep (k : Nat) (t : Tracker) (s : State) : State :=
  match t.kind with
  | .request =>
    match t.op, t.req with
    | .getS, .device d => finalRemote k d t s
    | .getM, .device d => finalRemote k d t s
    | .getS, _ => finalLocal k t s
    | .getM, _ => finalLocal k t s
    | _, _ => finalOnce k t s
  | .evict =>
    let s := endTracker k t.line s
    wakeFill k (match homeWay s k t.line with
      | some w => if (cacheGet s (.slice k)).evicts.length < 32 || w.sdirty == 0 then evictHome k w s else s
      | none => s)
  | .discard => wakeFill k (dropWay (.slice k) t.line (endTracker k t.line s))
  | .dirEvict => wakeDir (k / 64) (endTracker k t.line s)
  | _ => endTracker k t.line s

/-- After the remote snoops: the directory entry is empty, or its owner has become a sharer (R267, R269). -/
def afterRemote (t : Tracker) (s : State) : State :=
  let g := lineAddr t.line
  match dirOf s g t.near with
  | none => s
  | some d =>
    if t.kind = .evict || t.kind = .discard then s
    else if takesAll t.op then setDir g t.near none s
    else if d.mode = .exclusive then setDir g t.near (some { d with mode := .pointers }) s
    else s

/-- One step of a tracker that waits for nothing. -/
def trackerStep (k : Nat) (t : Tracker) (s : State) : State :=
  if t.finished then endTracker k t.line s
  else
    match t.stage with
    | 0 =>
      let l := remoteSnoops s t
      let mine := match t.req, dirOf s (lineAddr t.line) t.near with
        | .device x, some d => decide (t.op = .getM) && decide (d.mode = .pointers) && d.ptrs.contains x
        | _, _ => false
      sendSnoops k t l (modTracker k t.line (fun t => { t with stage := 1, outs := l, hadCopy := mine }) s)
    | 1 =>
      let s := afterRemote t s
      let d := homeDirIn s k t.line
      let l := if t.kind = .dirEvict then [] else localSnoops t d
      let r := agentNum t.req
      let up := cachingReq t && d.own != .none && d.owner == r
      let mine := cachingReq t && decide (t.op = .getM) && (up || d.sharers.getLsbD r)
      sendSnoops k t l (modTracker k t.line (fun t => { t with
        stage := 2
        outs := l
        hadCopy := t.hadCopy || mine
        ap := l.any fun e => e.2 == .fwdGetMAp
        awaitComp := up && decide (t.op = .getM) }) s)
    | _ => finalStep k t s

def trackerReady (t : Tracker) : Bool :=
  t.outs.isEmpty && !t.awaitFill && !t.awaitDir && (!t.finished || (t.absorb.isEmpty && !t.awaitComp))

/-! ### Accepting requests at a home (R257, R258, R267, R276) -/

/-- A home serves requests. -/
def homeServes (s : State) (b : Nat) : Bool := (homeGet s b).st == .online

/-- A line that this device's homes cannot serve: beyond the backed part, or on a stack out of service (R36, R286). -/
def lineBad (s : State) (g : Nat) : Bool :=
  decide (backedBytes ≤ localOf g) || isOut s (8 + (hbmPlace (localOf g)).stack)

/-- A control core's L2 has sent a request: its line waits as R260 states. -/
def ccWaits (op : BOp) (m : BMsg) (s : State) : State :=
  match m.src with
  | .cc c =>
    let a := Agent.cc c
    let x := cacheGet s a
    let line := lineOf m.addr
    if (findMshr x line).isSome then s
    else
      let bz : LineState := match op, (findWay x line).map (·.2.st) with
        | .getS, _ => .isD
        | _, some LineState.s => .smAD
        | _, some LineState.o => .omA
        | _, _ => .imAD
      modWay a line (fun w => { w with st := bz }) (modCache a (fun x => { x with
        mshrs := x.mshrs ++ [{ line := line, near := m.near, ctx := m.ctx, bz := bz, txn := m.txn,
                               epoch := knownEpoch s m.addr m.near }] }) s)
  | _ => s

/-- A control core's L2 evicts a line. -/
def ccEvicts (m : BMsg) (s : State) : State :=
  match m.src with
  | .cc c =>
    match findWay (cacheGet s (.cc c)) (lineOf m.addr) with
    | some e =>
      match evictOf e.2.st with
      | some p => modCache (.cc c) (fun x => { x with
          evicts := x.evicts ++ [⟨e.2.tag, e.2.near, p.1, e.2.sdirty, e.2.spoison, e.2.data⟩] }) (dropWay (.cc c) e.2.tag s)
      | none => s
    | none => s
  | _ => s

/-- A holder other than the requester's own write-back leaves the directory. -/
def holderGone (k : Nat) (m : BMsg) (s : State) : State :=
  match m.src with
  | .device d =>
    match dirOf s m.addr m.near with
    | some e => setDir m.addr m.near (dirRemove d e) s
    | none => s
  | a => modDir k (lineOf m.addr) (dropHolder (agentNum a)) s

/-- Remove a sharer only (PUT_S). -/
def sharerGone (k : Nat) (m : BMsg) (s : State) : State :=
  match m.src with
  | .device _ => holderGone k m s
  | a => modDir k (lineOf m.addr) (fun d => { d with sharers := d.sharers &&& ~~~(bit22 (agentNum a)) }) s

/-- Remove an owner only (PUT_E). -/
def ownerGone (k : Nat) (m : BMsg) (s : State) : State :=
  match m.src with
  | .device _ => holderGone k m s
  | a => modDir k (lineOf m.addr) (fun d =>
      if d.own != .none && d.owner == agentNum a then { d with own := .none, owner := 0 } else d) s

/-- A home acts on a request whose line has no tracker. -/
def homeAccept (k : Nat) (op : BOp) (m : BMsg) (s : State) : State :=
  if !homeServes s (k / 64) then answerMsg .homeLost k m false (bump 0x2504 1 s)
  else if lineBad s m.addr then answerMsg (replyOp op) k m true s
  else
    match op with
    | .putS => answerMsg .wbAck k m false (sharerGone k m (ccEvicts m s))
    | .putE => answerMsg .wbAck k m false (ownerGone k m (ccEvicts m s))
    | _ =>
      let s := if op = .getS || op = .getM then ccWaits op m s else s
      startTracker k { line := lineOf m.addr, near := m.near, kind := .request, op := op, req := m.src, txn := m.txn,
                       ctx := m.ctx, data := m.data, sectors := m.sectors,
                       spoison := msgPoison m.spoison (if op = .writeOnce then m.sectors else 0xFFFF) } s

/-- The first tracker that can go on. -/
def nextReady (s : State) : Option (Nat × Tracker) :=
  s.uc.slices.findSome? fun e => (e.2.trackers.find? trackerReady).map fun t => (e.1, t)

/-- The first request held at a home whose line is free and that has a tracker. -/
def nextHomeHeld (s : State) : Option (Nat × BPkt) :=
  s.uc.slices.findSome? fun e =>
    if 512 ≤ e.2.trackers.length then none
    else (e.2.homeHeld.find? fun p => !(e.2.trackers.any fun t => t.line == lineOf p.m.addr)).map fun p => (e.1, p)

/-- Let the homes work until every tracker waits for something. -/
def settle : Nat → State → State
  | 0, s => s
  | fuel + 1, s =>
    match nextReady s with
    | some (k, t) => settle fuel (trackerStep k t s)
    | none =>
      match nextHomeHeld s with
      | some (k, p) =>
        settle fuel (homeAccept k p.op p.m (modSlice k (fun x => { x with homeHeld := x.homeHeld.erase p }) s))
      | none => s

/-! ### A quiesce (R275) -/

def nextEpoch (e : Nat) : Nat := if 0xFFFF ≤ e then 1 else e + 1

/-- A home copy of a home being quiesced: its copies are recalled, then its dirty sectors are written to HBM. -/
def quiesceWay (k : Nat) (w : Way) (s : State) : State :=
  if (findTracker s k w.tag).isSome then s
  else if hasHolders w || (dirOf s (lineAddr w.tag) w.near).isSome then
    if 512 ≤ (sliceGet s k).trackers.length then s
    else startTracker k (ownTracker k w.tag w.near .quiesce .writeOnce 0 w.ctx) s
  else if (cacheGet s (.slice k)).evicts.length < 32 || w.sdirty == 0 then evictHome k w s
  else s

/-- A slice of a home being quiesced. -/
def quiesceSlice (k : Nat) (s : State) : State :=
  (cacheGet s (.slice k)).ways.foldl (fun s e =>
    if e.2.st = .home then quiesceWay k e.2 s
    else if (findMshr (cacheGet s (.slice k)) e.2.tag).isNone && decide ((cacheGet s (.slice k)).evicts.length < 32) then
      evictCopy (.slice k) e.2 s
    else s) s

/-- Recall the lines of a home that only other devices hold. -/
def quiesceDir (b : Nat) (s : State) : State :=
  (homeGet s b).dir.foldl (fun s d =>
    let k := homeSlice (lineAddr d.line) true
    if (findTracker s k d.line).isSome || decide (512 ≤ (sliceGet s k).trackers.length) then s
    else startTracker k (ownTracker k d.line true .quiesce .writeOnce 0 0) s) s

/-- Nothing is left for a quiesce to wait for. -/
def quiesced (s : State) (b : Nat) : Bool :=
  (homeGet s b).dir.isEmpty && s.uc.slices.all fun e => e.1 / 64 != b ||
    (e.2.trackers.isEmpty && e.2.c.ways.isEmpty && e.2.c.mshrs.isEmpty && e.2.c.evicts.isEmpty)

/-- Work on a quiesce; at its end the epoch increments and the home is OFFLINE. -/
def quiesceStep (b : Nat) (s : State) : State :=
  if (homeGet s b).st != .quiescing then s
  else
    let s := quiesceDir b s
    let s := (s.uc.slices.filter fun e => e.1 / 64 == b).foldl (fun s e => quiesceSlice e.1 s) s
    let s := settle 4096 s
    if quiesced s b then modHome b (fun h => { h with st := .offline, epoch := nextEpoch h.epoch }) s else s

/-! ### A context flush (R239) -/

/-- Flush one way: a home copy is written back or discarded once its copies are recalled, another copy is surrendered. -/
def flushWay (k mode : Nat) (w : Way) (s : State) : State :=
  let a := Agent.slice k
  if (findMshr (cacheGet s a) w.tag).isSome || (findTracker s k w.tag).isSome || transient w.st then s
  else
    let room := decide ((cacheGet s a).evicts.length < 32)
    if w.st = .home then
      let drop := decide (mode = 1) && w.scr
      if hasHolders w then startRecall k w (if drop then .discard else .evict) s
      else if drop then dropWay a w.tag s
      else if room || w.sdirty == 0 then evictHome k w s
      else s
    else if room then evictCopy a w s
    else s

/-- Ways of a slice that a context allocated. -/
def ctxWays (s : State) (k ctx : Nat) : List Way :=
  ((cacheGet s (.slice k)).ways.filter fun e => e.2.ctx == ctx).map (·.2)

/-- A context has MSHRs outstanding. -/
def ctxMshrs (s : State) (ctx : Nat) : Bool := s.uc.slices.any fun e => e.2.c.mshrs.any fun m => m.ctx == ctx

/-- Work on a flush: it waits for the context's MSHRs, and ends when no way of the context is left. -/
def flushStep (f : Nat × Nat) (s : State) : State :=
  if ctxMshrs s f.1 then s
  else
    let s := s.uc.slices.foldl (fun s e => (ctxWays s e.1 f.1).foldl (fun s w => flushWay e.1 f.2 w s) s) s
    let s := settle 4096 s
    if s.uc.slices.all fun e => !(e.2.c.ways.any fun w => w.2.ctx == f.1) then
      { s with uc := { s.uc with flushing := s.uc.flushing.erase f } }
    else s

/-- Everything the homes and slices do after a message or a fill. -/
def homesGoOn (s : State) : State :=
  let s := (List.range 4).foldl (fun s b => quiesceStep b s) (settle 4096 s)
  s.uc.flushing.foldl (fun s f => flushStep f s) s

/-! ### Write-backs and responses at a home (R258, R265, R274) -/

/-- A stale or unmatched message is discarded (R274). -/
def staleMsg (s : State) : State := bump64 0x2501 2 s

def isOwnerSnoop : BOp → Bool
  | .fwdGetS | .fwdGetM | .fwdGetMAp | .recallS | .recallI => true
  | _ => false

/-- PUT_M and PUT_O (R250, R258, R265). -/
def homePut (k : Nat) (m : BMsg) (s : State) : State :=
  if m.epoch != (homeGet s (k / 64)).epoch then staleMsg s
  else
    let line := lineOf m.addr
    let s := holderGone k { m with addr := m.addr } (mergeHome k line m (ccEvicts m s))
    let s := match findTracker s k line with
      | some t =>
        if t.outs.any fun e => e.1 == m.src && isOwnerSnoop e.2 then
          if t.wbPend.contains m.src then
            modTracker k line (fun t => { t with
              outs := t.outs.filter fun e => e.1 != m.src
              wbPend := t.wbPend.filter (· != m.src) }) s
          else bump64 0x2501 4 (modTracker k line (fun t => { t with
              outs := t.outs.filter fun e => e.1 != m.src
              absorb := m.src :: t.absorb }) s)
        else s
      | none => s
    homesGoOn (answerMsg .wbAck k m false s)

/-- The directory after a snoop's answer (R258). -/
def answered (op snoop : BOp) (n : Nat) (d : DirIn) : DirIn :=
  match op with
  | .fwdDoneO => { d with own := .o }
  | .fwdDoneS => addSharer n { d with own := .none, owner := 0 }
  | .invAck => if snoop = .recallS then addSharer n { d with own := .none, owner := 0 } else dropHolder n d
  | .rspData => if snoop = .recallS then addSharer n { d with own := .none, owner := 0 } else dropHolder n d
  | _ => dropHolder n d

def isServed : BOp → Bool
  | .fwdDoneO | .fwdDoneS | .fwdDoneI => true
  | _ => false

/-- A response reaches a home. -/
def homeResponse (k : Nat) (op : BOp) (m : BMsg) (s : State) : State :=
  let line := lineOf m.addr
  if m.epoch != (homeGet s (k / 64)).epoch then staleMsg s
  else
    match findTracker s k line with
    | none => staleMsg s
    | some t =>
      match op with
      | .compAck =>
        if t.awaitComp && t.req == m.src then homesGoOn (modTracker k line (fun t => { t with awaitComp := false }) s)
        else staleMsg s
      | .rspWbpend =>
        if t.absorb.contains m.src then
          homesGoOn (modTracker k line (fun t => { t with absorb := t.absorb.filter (· != m.src) }) s)
        else if t.outs.any fun e => e.1 == m.src then
          bump64 0x2501 4 (modTracker k line (fun t => { t with wbPend := m.src :: t.wbPend }) s)
        else staleMsg s
      | _ =>
        match t.outs.find? fun e => e.1 == m.src with
        | none => staleMsg s
        | some e =>
          let s := if op = .rspData then mergeHome k line m s else s
          let s := if isDevice m.src then s else modDir k line (answered op e.2 (agentNum m.src)) s
          homesGoOn (modTracker k line (fun t => { t with
            outs := t.outs.erase e
            served := t.served || isServed op }) s)

/-- A request reaches a home (R257). -/
def homeRequest (k : Nat) (op : BOp) (m : BMsg) (s : State) : State :=
  if op = .putM || op = .putO then
    if (homeGet s (k / 64)).st = .online || (homeGet s (k / 64)).st = .quiescing then homePut k m s
    else answerMsg .homeLost k m false (bump 0x2504 1 s)
  else if (findTracker s k (lineOf m.addr)).isSome || decide (512 ≤ (sliceGet s k).trackers.length) ||
      (sliceGet s k).homeHeld.any (fun p => lineOf p.m.addr == lineOf m.addr) then
    if homeServes s (k / 64) then modSlice k (fun x => { x with homeHeld := x.homeHeld ++ [⟨op, m⟩] }) s
    else answerMsg .homeLost k m false (bump 0x2504 1 s)
  else homesGoOn (homeAccept k op m s)

end Sys2Proof.Machine
end

