-- ==== Sys2Proof/Machine/BezelCache.lean ====
section
/-! DEFINITION. The caching agents of Bezel: snoops, grants, holds, once-requests (R259 to R264, R266, R271, R274, R276), and
the loss of a B-die or of another device (R277 to R279). -/
namespace Sys2Proof.Machine

/-! ### The copy of a line (R254, R260) -/

/-- State of an agent's line: in its way, else in its MSHR, else in the write-back buffer. -/
def copyState (c : Cache) (line : Nat) : LineState :=
  match findWay c line with
  | some e => e.2.st
  | none =>
    match findMshr c line with
    | some m => m.bz
    | none => ((findEvict c line).map (·.st)).getD .i

/-- Data, dirty mask and poison of an agent's line. -/
def copyData (c : Cache) (line : Nat) : Memory × BitVec 16 × BitVec 16 :=
  match findWay c line with
  | some e => (e.2.data, e.2.sdirty, e.2.spoison)
  | none =>
    match findMshr c line with
    | some m => (m.data, m.gotDirty, m.gotPoison)
    | none => ((findEvict c line).map fun e => (e.data, e.sdirty, e.spoison)).getD ([], 0, 0)

/-- Set the state of a line. -/
def setCopy (a : Agent) (line : Nat) (st : LineState) (s : State) : State :=
  modMshr a line (fun m => { m with bz := st }) (modWay a line (fun w => { w with st := st }) s)

/-- The dirty sectors have gone to the home. -/
def cleanCopy (a : Agent) (line : Nat) (s : State) : State :=
  modMshr a line (fun m => { m with gotDirty := 0 }) (modWay a line (fun w => { w with sdirty := 0 }) s)

/-- The copy is dropped; an MSHR that only waited for its way goes with it. -/
def dropCopy (a : Agent) (line : Nat) (s : State) : State :=
  let s := dropWay a line s
  if ((findMshr (cacheGet s a) line).map (·.needWay)).getD false then dropMshr a line s else s

/-! ### Messages of an agent -/

/-- A response of an agent to the home of a line. -/
def toHome (op : BOp) (a : Agent) (m : BMsg) (s : State) : State :=
  sendB op { dst := homeAgent s m.addr m.near, src := a, txn := m.txn, addr := m.addr, near := m.near, ctx := 0,
             epoch := m.epoch, sectors := 0, spoison := 0, data := [] } s

/-- The line with its dirty mask, to the home or to the requester that a forward names (R247, R261). -/
def sendLine (op : BOp) (a dst : Agent) (m : BMsg) (s : State) : State :=
  let d := copyData (cacheGet s a) (lineOf m.addr)
  sendB op { dst := dst, src := a, txn := m.txn, addr := m.addr, near := m.near, ctx := 0, epoch := m.epoch,
             sectors := d.2.1, spoison := msgPoison d.2.2 (if op = .rspData then d.2.1 else 0xFFFF),
             data := lineBytes d.1 } s

/-! ### Snoops (R261, R262) -/

/-- States that defer forwards and recalls. -/
def defers : LineState → Bool
  | .eH | .mH | .isD | .imAD | .imA | .imD | .smAD => true
  | _ => false

/-- Keep a snoop in the line's MSHR. -/
def deferSnoop (op : BOp) (a : Agent) (m : BMsg) (s : State) : State :=
  bump64 0x2501 3 (modMshr a (lineOf m.addr) (fun x => { x with deferred := some ⟨op, m⟩ }) s)

/-- INV at an agent. -/
def snoopInv (a : Agent) (m : BMsg) (s : State) : Option State :=
  let line := lineOf m.addr
  let ack := toHome .invAck a m
  match copyState (cacheGet s a) line with
  | .i => some (ack s)
  | .siA => some (ack s)
  | .s => some (ack (dropCopy a line s))
  | .isD => some (ack (setCopy a line .isDI s))
  | .smAD => some (ack (dropWay a line (setCopy a line .imAD s)))
  | _ => none

/-- FWD_GETS at an agent. -/
def snoopFwdS (a : Agent) (m : BMsg) (s : State) : Option State :=
  let line := lineOf m.addr
  let data := sendLine .dataS a m.src m
  match copyState (cacheGet s a) line with
  | .e => some (setCopy a line .s (toHome .fwdDoneS a m (data s)))
  | .o => some (toHome .fwdDoneO a m (data s))
  | .omA => some (toHome .fwdDoneO a m (data s))
  | .m => some (setCopy a line .o (toHome .fwdDoneO a m (data s)))
  | .miA => some (toHome .rspWbpend a m s)
  | .eiA => some (toHome .fwdMiss a m s)
  | st => if defers st then some (deferSnoop .fwdGetS a m s) else none

/-- FWD_GETM and FWD_GETM_AP at an agent. -/
def snoopFwdM (op : BOp) (a : Agent) (m : BMsg) (s : State) : Option State :=
  let line := lineOf m.addr
  let give := fun s => toHome .fwdDoneI a m (sendLine (if op = .fwdGetMAp then .dataMAp else .dataM) a m.src m s)
  match copyState (cacheGet s a) line with
  | .e => some (dropCopy a line (give s))
  | .o => some (dropCopy a line (give s))
  | .m => some (dropCopy a line (give s))
  | .omA => some (dropWay a line (setCopy a line .imAD (give s)))
  | .miA => some (toHome .rspWbpend a m s)
  | .eiA => some (toHome .fwdMiss a m s)
  | st => if defers st then some (deferSnoop op a m s) else none

/-- RECALL_S and RECALL_I at an agent. -/
def snoopRecall (op : BOp) (a : Agent) (m : BMsg) (s : State) : Option State :=
  let line := lineOf m.addr
  let leave := fun s => if op = .recallS then setCopy a line .s (cleanCopy a line s) else dropCopy a line s
  match copyState (cacheGet s a) line with
  | .e => some (leave (toHome .invAck a m s))
  | .o => some (leave (sendLine .rspData a (homeAgent s m.addr m.near) m s))
  | .m => some (leave (sendLine .rspData a (homeAgent s m.addr m.near) m s))
  | .omA =>
    let s := sendLine .rspData a (homeAgent s m.addr m.near) m s
    some (if op = .recallS then setCopy a line .smAD (cleanCopy a line s)
          else dropWay a line (setCopy a line .imAD s))
  | .miA => some (toHome .rspWbpend a m s)
  | .eiA => some (toHome .invAck a m s)
  | st => if defers st then some (deferSnoop op a m s) else none

/-- A snoop at an agent (R261). -/
def snoop (op : BOp) (a : Agent) (m : BMsg) (s : State) : Option State :=
  match op with
  | .inv => snoopInv a m s
  | .fwdGetS => snoopFwdS a m s
  | .fwdGetM => snoopFwdM .fwdGetM a m s
  | .fwdGetMAp => snoopFwdM .fwdGetMAp a m s
  | .recallS => snoopRecall .recallS a m s
  | _ => snoopRecall .recallI a m s

/-- A host-window line is snooped by the host's CXL messages, not by Bezel; anything else is compared with the epoch of
its home (R273, R274). -/
def snoopIn (op : BOp) (a : Agent) (m : BMsg) (s : State) : Option State :=
  match knownEpoch s m.addr m.near with
  | some e => if e != m.epoch then some (staleMsg s) else snoop op a m s
  | none => snoop op a m s

/-! ### Completing a miss (R260, R263, R266) -/

/-- Answer the waiters of the sectors of a mask from an agent's data. -/
def answerSectors (a : Agent) (line : Nat) (mask : BitVec 16) (s : State) : State :=
  let c := cacheGet s a
  let d := copyData c line
  let ws := ((findMshr c line).map (·.waiters)).getD []
  let s := modMshr a line (fun m => { m with waiters := m.waiters.filter fun w => !mask.getLsbD w.sector }) s
  (sectorsIn mask).foldl (fun s i =>
    answerWaiters (ws.filter fun w => w.sector == i) line (sectorBytes d.1 i) (d.2.2.getLsbD i) 0 s) s

/-- Complete every waiter, the waiting write and the waiting atomic of an MSHR with an error status, and drop it. -/
def failMshr (a : Agent) (line status : Nat) (s : State) : State :=
  match findMshr (cacheGet s a) line with
  | none => s
  | some x =>
    let s := dropMshr a line (dropWay a line s)
    let s := x.waiters.foldl (fun s w => reply w.dest w.txn (lineAddr line + 64 * w.sector) [] false status s) s
    let s := match x.write with
      | some r => replyReq r [] false status s
      | none => s
    match x.atom with
    | some f => reply f.src f.txn f.addr [] false status s
    | none => s

/-- The way that a fill of a copy makes. -/
def copyWay (c : Cache) (set : Nat) (x : Mshr) (st : LineState) : Way × Bool :=
  let h := if x.write.isSome || x.atom.isSome then 0 else mostRetentive (x.hints.map (·.1))
  let f := fillHint c set x.line h
  ({ tag := x.line, st := st, svalid := 0xFFFF, sdirty := x.gotDirty, spoison := x.gotPoison, keep := f.1, rrv := f.2.1,
     ctx := x.ctx, scr := x.hints.any (·.2), data := x.data, near := x.near }, f.2.2)

/-- Put a filled copy into a way, or leave it in its MSHR until one is free (R225). -/
def placeCopy (a : Agent) (line : Nat) (st : LineState) (s : State) : State :=
  let c := cacheGet s a
  match findMshr c line with
  | none => setCopy a line st s
  | some x =>
    if (findWay c line).isSome then
      let s := modMshr a line (fun m => { m with bz := st }) s
      modWay a line (fun w =>
        if x.got = 0 then { w with st := st }
        else { w with st := st, data := x.data, sdirty := x.gotDirty, spoison := x.gotPoison }) s
    else
      match a with
      | .slice k =>
        let set := setOf s (lineAddr line) x.near
        let r := wantWay k set s
        match r.1 with
        | some i =>
          let w := copyWay (cacheGet r.2 a) set x st
          let s := modMshr a line (fun m => { m with bz := st, needWay := false }) (putWay k i w.1 r.2)
          if w.2 then bump64 0x2403 2 s else s
        | none =>
          let s := modMshr a line (fun m => { m with bz := st, needWay := true }) r.2
          if x.needWay then s else bump64 0x2404 3 s
      | _ =>
        let w := copyWay c 0 x st
        modMshr a line (fun m => { m with bz := st }) (modCache a (fun c => { c with ways := sput c.ways line w.1 }) s)

/-- Perform what waited for ownership: a write, or an atomic on a host-window line (R174, R402). -/
def performWaiting (a : Agent) (line : Nat) (s : State) : State :=
  match findMshr (cacheGet s a) line with
  | none => s
  | some x =>
    let s := modMshr a line (fun m => { m with write := none, atom := none }) s
    let s := match x.write with
      | some r =>
        let i := r.addr % 1024 / 64
        let bs := r.write.getD []
        let s := modWay a line (fun w => writeWay w i bs r.poison) s
        let s := if (findWay (cacheGet s a) line).isSome then s
          else modMshr a line (fun m => { m with
            data := memWriteMasked m.data (64 * i) bs
            gotDirty := m.gotDirty ||| bit16 i
            gotPoison := (writeWay { tag := line, st := .mH, spoison := m.gotPoison } i bs r.poison).spoison }) s
        replyReq r [] false 0 s
      | none => s
    match x.atom with
    | some f =>
      let d := copyData (cacheGet s a) line
      let i := atomOff f.data / 64
      let r := atomApply f.data d.1
      let pz := d.2.2.getLsbD i
      let s := if pz then s else
        modMshr a line (fun m => { m with data := r.2, gotDirty := m.gotDirty ||| bit16 i })
          (modWay a line (fun w => { w with data := r.2, sdirty := w.sdirty ||| bit16 i }) s)
      reply f.src f.txn (f.addr + 64 * i) (leBytes (atomSize f.data) r.1) pz 0 s
    | none => s

/-- A read that nobody wants kept: every waiter carried STREAM (R227, R230). -/
def streamOnly (x : Mshr) : Bool :=
  x.write.isNone && x.atom.isNone && !x.hints.isEmpty && x.hints.all fun w => w.1 == 2

/-- The line goes straight to the write-back buffer with its PUT. -/
def releaseStream (a : Agent) (x : Mshr) (st : LineState) (s : State) : State :=
  let w : Way := { tag := x.line, st := if st = .s then .s else .e, near := x.near, ctx := x.ctx, data := x.data }
  evictCopy a w s

/-- A transaction's last message has come: the line enters a stable or holding state (R260, R266). `m` is the message. -/
def finishMiss (a : Agent) (st : LineState) (m : BMsg) (s : State) : State :=
  let line := lineOf m.addr
  match findMshr (cacheGet s a) line with
  | none => s
  | some x =>
    let remote := isDevice (homeAgent s m.addr m.near)
    let s := if remote then toHome .compAck a m s else s
    if st = .i then dropMshr a line (answerSectors a line 0xFFFF s)
    else if streamOnly x && (findWay (cacheGet s a) line).isNone && a matches .slice _ then
      let x := (findMshr (cacheGet s a) line).getD x
      releaseStream a x st (dropMshr a line (answerSectors a line 0xFFFF s))
    else
      let s := answerSectors a line 0xFFFF (placeCopy a line st s)
      let s := if st = .mH then performWaiting a line s else s
      if st = .s && !((findMshr (cacheGet s a) line).map (·.needWay)).getD false then dropMshr a line s else s

/-- Data has come with a message: it is kept in the MSHR. -/
def takeData (a : Agent) (m : BMsg) (s : State) : State :=
  modMshr a (lineOf m.addr) (fun x => { x with
    data := memWriteN [] 0 (slice m.data 0 1024)
    got := 0xFFFF
    gotDirty := m.sectors
    gotPoison := msgPoison m.spoison 0xFFFF }) s

/-- A data message, grant or GNT_ACKS whose transaction is outstanding (R260). -/
def grant (op : BOp) (a : Agent) (m : BMsg) (s : State) : Option State :=
  let line := lineOf m.addr
  match op, copyState (cacheGet s a) line with
  | .dataS, .isD => some (finishMiss a .s { m with sectors := 0 } (takeData a { m with sectors := 0 } s))
  | .dataE, .isD => some (finishMiss a .eH m (takeData a m s))
  | .dataS, .isDI => some (finishMiss a .i m (takeData a m s))
  | .dataE, .isDI => some (finishMiss a .i m (takeData a m s))
  | .dataM, .imAD => some (finishMiss a .mH m (takeData a m s))
  | .dataMAp, .imAD => some (setCopy a line .imA (takeData a m s))
  | .gntAcks, .imAD => some (setCopy a line .imD s)
  | .gntAcks, .imA => some (finishMiss a .mH m s)
  | .dataMAp, .imD => some (finishMiss a .mH m (takeData a m s))
  | .dataM, .smAD => some (finishMiss a .mH m (takeData a m s))
  | .dataMAp, .smAD => some (setCopy a line .imA (takeData a m s))
  | .gntM, .smAD => some (finishMiss a .mH m s)
  | .gntAcks, .smAD => some (setCopy a line .imD s)
  | .gntM, .omA => some (finishMiss a .mH m (toHome .compAck a m s))
  | _, _ => none

/-- An error completion (R565): a data-class reply without data, or an RSP-class reply, with POISON. -/
def isErrorReply (op : BOp) (m : BMsg) : Bool := m.spoison != 0 && (m.data.isEmpty || (bezelCode op).1 == 2)

/-- The epoch recorded for a transaction agrees with a reply's (R274). -/
def epochOk (e : Option Nat) (m : BMsg) : Bool :=
  match e with
  | some x => x == m.epoch
  | none => true

/-- A reply reaches a caching agent (R260, R274). -/
def grantIn (op : BOp) (a : Agent) (m : BMsg) (s : State) : Option State :=
  let line := lineOf m.addr
  let c := cacheGet s a
  match findMshr c line with
  | some x =>
    if x.bz = .home || x.txn != m.txn || x.needWay then some (staleMsg s)
    else if !epochOk x.epoch m then some (staleMsg s)
    else
      let s := modMshr a line (fun y => { y with epoch := some m.epoch }) s
      if op = .homeLost then some (failMshr a line 9 (bump 0x2504 1 s))
      else if op = .remoteLost then some (failMshr a line 0xA (bump 0x2504 2 s))
      else if isErrorReply op m then some (failMshr a line 5 s)
      else grant op a m s
  | none => some (staleMsg s)

/-- WB_ACK: the evicted line is gone (R260). -/
def wbAckIn (a : Agent) (m : BMsg) (s : State) : Option State :=
  let line := lineOf m.addr
  let c := cacheGet s a
  match findEvict c line with
  | some _ => some (homesGoOn (modCache a (fun c => { c with evicts := c.evicts.filter fun e => e.line != line }) s))
  | none =>
    match findMshr c line with
    | some x => if x.txn = m.txn && x.bz != .home then none else some (staleMsg s)
    | none => some (staleMsg s)

/-! ### Holds (R262, R263) -/

/-- A hold ends: the line becomes E or M, its MSHR is released, and the deferred snoop is acted on. -/
def holdEnd (a : Agent) (line : Nat) (s : State) : Option State :=
  let c := cacheGet s a
  let st := copyState c line
  if st = .eH || st = .mH then
    let x := findMshr c line
    let s := setCopy a line (if st = .eH then .e else .m) s
    let s := modMshr a line (fun m => { m with deferred := none }) s
    let s := if (x.map (·.needWay)).getD false then s else dropMshr a line s
    match x.bind (·.deferred) with
    | some p => (snoop p.op a p.m s).map homesGoOn
    | none => some (homesGoOn s)
  else some s

/-- The hold of agent 20 ends (R403). -/
def holdEndHost (line : Nat) (s : State) : State :=
  let x := agent20 s line
  let s := setAgent20 line { x with hold := false, deferred := none } s
  match x.deferred with
  | some p => biStart p.1 p.2 s
  | none => s

/-! ### Once-requests and atomics (R271, R276) -/

/-- Issue READ_ONCE, WRITE_ONCE or ATOM for a requester, from a slice. -/
def sendOnce (op : BOp) (a forWhom : Agent) (txn addr : Nat) (near : Bool) (ctx : Nat) (mask : BitVec 16) (poison : Bool)
    (data : List Byte) (s : State) : State :=
  let n := newTxn s
  let g := lineAddr (lineOf addr)
  let e := knownEpoch s g near
  let s := { n.2 with uc := { n.2.uc with
    once := n.2.uc.once ++ [{ agent := a, forWhom := forWhom, txn := txn, addr := addr, op := op, epoch := e,
                              id := n.1, ctx := ctx }] } }
  sendB op { dst := homeAgent s g near, src := a, txn := n.1, addr := g, near := near, ctx := ctx, epoch := e.getD 0,
             sectors := mask, spoison := if poison then mask else 0, data := data } s

/-- The reply to a once-request. -/
def onceIn (op : BOp) (m : BMsg) (s : State) : State :=
  match s.uc.once.find? fun o => o.agent == m.dst && o.id == m.txn with
  | none => staleMsg s
  | some o =>
    if !epochOk o.epoch m then staleMsg s
    else
      let s := { s with uc := { s.uc with once := s.uc.once.erase o } }
      if op = .homeLost then reply o.forWhom o.txn o.addr [] false 9 (bump 0x2504 1 s)
      else if op = .remoteLost then reply o.forWhom o.txn o.addr [] false 0xA (bump 0x2504 2 s)
      else if m.data.isEmpty && m.spoison != 0 then reply o.forWhom o.txn o.addr [] false 5 s
      else
        let d := match o.op with
          | .readOnce => slice m.data (o.addr % 1024 / 64 * 64) 64
          | .atom => slice m.data 8 8
          | _ => []
        reply o.forWhom o.txn o.addr d (m.spoison != 0) 0 s

/-- The message is the reply of a once-request that an agent has outstanding. -/
def isOnceReply (s : State) (op : BOp) (m : BMsg) : Bool :=
  match op with
  | .dataOnce | .comp | .atomData => true
  | .homeLost | .remoteLost => s.uc.once.any fun o => o.agent == m.dst && o.id == m.txn
  | _ => false

/-! ### A B-die or a device is gone (R277 to R279) -/

/-- Mark a stored sector of HBM poisoned. -/
def poisonSector (l : Nat) (s : State) : State :=
  let a := accessRow (hbmPlace l) s
  { a.2 with hbm := { a.2.hbm with poison := ladd a.2.hbm.poison ((1024 * a.1 + l % 1024) / 64) } }

/-- The owner of a line is gone: its home copy is poisoned, or the stored line where the home holds none (R278). -/
def poisonHome (k line : Nat) (s : State) : State :=
  let s := bump64 0x2504 4 s
  if (homeWay s k line).isSome then
    modWay (.slice k) line (fun w => { w with svalid := 0xFFFF, sdirty := 0xFFFF, spoison := 0xFFFF }) s
  else (List.range 16).foldl (fun s i => poisonSector (localOf (lineAddr line) + 64 * i) s) s

/-- A dirty copy is lost: counted, and the context of its way faulted (R277). -/
def loseDirty (ctx line : Nat) (s : State) : State :=
  containedCtx ctx 5 5 0xB (lineAddr line) 0 (bump64 0x2504 3 s)

/-- Complete the MSHRs of an agent whose lines satisfy a test. -/
def failMshrs (a : Agent) (p : Nat → Bool → Bool) (status : Nat) (s : State) : State :=
  ((cacheGet s a).mshrs.filter fun x => x.bz != .home && p x.line x.near).foldl (fun s x =>
    failMshr a x.line status (bump 0x2504 (if status = 9 then 1 else 2) s)) s

/-- Drop the copies of an agent whose lines satisfy a test; dirty ones are lost. -/
def dropCopies (a : Agent) (p : Nat → Bool → Bool) (s : State) : State :=
  let c := cacheGet s a
  let out := c.ways.filter fun e => e.2.st != .home && p e.2.tag e.2.near
  let s := modCache a (fun c => { c with
    ways := c.ways.filter fun e => e.2.st == .home || !p e.2.tag e.2.near
    evicts := c.evicts.filter fun e => e.st == .home || !p e.line e.near }) s
  let s := (c.evicts.filter fun e => e.st == .miA && p e.line e.near).foldl (fun s e => loseDirty 0xFFFF e.line s) s
  (out.filter fun e => e.2.sdirty != 0).foldl (fun s e => loseDirty e.2.ctx e.2.tag s) s

/-- Complete the once-requests whose lines satisfy a test. -/
def failOnce (p : OnceTxn → Bool) (status : Nat) (s : State) : State :=
  let out := s.uc.once.filter p
  let s := { s with uc := { s.uc with once := s.uc.once.filter fun o => !p o } }
  out.foldl (fun s o => reply o.forWhom o.txn o.addr [] false status
    (if status = 9 then bump 0x2504 1 s else if status = 0xA then bump 0x2504 2 s else s)) s

/-- Answer the held requests of a slice. -/
def failHeld (k : Nat) (p : HeldReq → Bool) (status : Nat) (s : State) : State :=
  let out := (cacheGet s (.slice k)).held.filter p
  let s := modCache (.slice k) (fun c => { c with held := c.held.filter fun h => !p h }) s
  out.foldl (fun s h => replyLost h.req status s) s

/-- Agents that are gone: snoops outstanding to them count as answered, they leave the directories, and lines they owned
are poisoned (R278). -/
def agentsGone (gone : Nat → Agent → Bool) (s : State) : State :=
  s.uc.slices.foldl (fun s e =>
    let k := e.1
    let s := modSlice k (fun x => { x with trackers := x.trackers.map fun t => { t with
      outs := t.outs.filter fun o => !gone k o.1
      wbPend := t.wbPend.filter fun a => !gone k a
      absorb := t.absorb.filter fun a => !gone k a
      awaitComp := t.awaitComp && !gone k t.req } }) s
    (cacheGet s (.slice k)).ways.foldl (fun s w =>
      if w.2.st != .home then s
      else
        let g := lineAddr w.2.tag
        let lost := w.2.dir.own != .none && gone k (agentOf w.2.dir.owner g)
        let s := if lost then poisonHome k w.2.tag s else s
        modDir k w.2.tag (fun d => { d with
          sharers := (sharerNums d.sharers).foldl (fun m n => if gone k (agentOf n g) then m &&& ~~~(bit22 n) else m) d.sharers
          own := if lost then .none else d.own
          owner := if lost then 0 else d.owner }) s) s) s

/-- The slices of a B-die that the state lists. -/
def dieSlices (s : State) (b : Nat) : List Nat := (s.uc.slices.filter fun e => e.1 / 64 == b).map (·.1)

/-- A line of this device whose home is on a B-die. -/
def homedOn (s : State) (b line : Nat) (near : Bool) : Bool :=
  devOf (lineAddr line) == devId s && !isHostAddr (lineAddr line) && homeBdie (lineAddr line) near == b

/-- The control cores whose L2 the state lists. -/
def ccAgents (s : State) : List Agent := s.uc.cc.map fun e => Agent.cc e.1

/-- A B-die's home and its slices are lost (R277, R278). -/
def homeDieLost (b : Nat) (s : State) : State :=
  let on := homedOn s b
  let others := (s.uc.slices.filter fun e => e.1 / 64 != b).map fun e => Agent.slice e.1
  let s := modHome b (fun h => { h with st := .lost, dir := [] }) s
  let s := (dieSlices s b).foldl (fun s k =>
    let s := failHeld k (fun _ => true) 9 s
    let s := failMshrs (.slice k) (fun _ _ => true) 9 s
    let s := ((cacheGet s (.slice k)).mshrs).foldl (fun s x => failMshr (.slice k) x.line 9 s) s
    let s := dropCopies (.slice k) (fun l _ => devOf (lineAddr l) != devId s || isHostAddr (lineAddr l)) s
    let s := (sliceGet s k).homeHeld.foldl (fun s p => answerMsg .homeLost k p.m false (bump 0x2504 1 s)) s
    setSlice k {} s) s
  let s := (others ++ ccAgents s).foldl (fun s a => dropCopies a on (failMshrs a on 9 s)) s
  let s := (s.uc.slices.filter fun e => e.1 / 64 != b).foldl (fun s e =>
    failHeld e.1 (fun h => homedOn s b (lineOf h.req.addr) h.req.near) 9 s) s
  let s := failOnce (fun o => homedOn s b (lineOf o.addr) true || (match o.agent with
    | .slice k => k / 64 == b
    | _ => false)) 9 s
  let s := { s with host := { s.host with
    agent20 := s.host.agent20.filter fun e => !(homedOn s b e.1 true || homedOn s b e.1 false) } }
  let s := agentsGone (fun _ a => match a with
    | .slice k => k / 64 == b
    | _ => false) s
  homesGoOn (flood 3 (leBytes 8 s.part.serial ++ leBytes 1 b ++ leBytes 1 3) s)

/-- Another device is unreachable (R278, R279). -/
def deviceGone (d : Nat) (s : State) : State :=
  let its := fun line (_ : Bool) => devOf (lineAddr line) == d
  let s := s.uc.slices.foldl (fun s e =>
    dropCopies (.slice e.1) its (failMshrs (.slice e.1) its 0xA
      (failHeld e.1 (fun h => devOf h.req.addr == d) 0xA s))) s
  let s := failOnce (fun o => devOf o.addr == d) 0xA s
  let s := agentsGone (fun _ a => a == .device d) s
  let s := (List.range 4).foldl (fun s b =>
    (homeGet s b).dir.foldl (fun s e =>
      if e.ptrs.contains d then
        let s := if e.mode = .exclusive then poisonHome (homeSlice (lineAddr e.line) true) e.line s else s
        modHome b (fun h => { h with dir := h.dir.filterMap fun x => if x.line = e.line then dirRemove d x else some x }) s
      else s) s) s
  homesGoOn s

/-- A device whose home B-die is lost: proxy copies of its lines are dropped, and what waits for it completes (R277). -/
def remoteHomeLost (d b : Nat) (s : State) : State :=
  let its := fun line (_ : Bool) => devOf (lineAddr line) == d && homeDie (localOf (lineAddr line)) == b
  let s := s.uc.slices.foldl (fun s e => dropCopies (.slice e.1) its (failMshrs (.slice e.1) its 9 s)) s
  let s := failOnce (fun o => its (lineOf o.addr) true) 9 s
  { s with uc := { s.uc with remoteEpochs := sdel s.uc.remoteEpochs (4 * d + b) } }

end Sys2Proof.Machine
end

