-- ==== Sys2Proof/Machine/Flags.lean ====
section
/-! DEFINITION. The element formats, exact values, rounding, conversion and the flags they raise (R102 to R109). -/
namespace Sys2Proof.Machine

/-! ### Flags of TG_FLAGS (R106) -/

def flagNV : W32 := 1
def flagDZ : W32 := 2
def flagOF : W32 := 4
def flagUF : W32 := 8
def flagNX : W32 := 16
def flagISAT : W32 := 32
def flagSNAN : W32 := 64
def flagCSAT : W32 := 128

/-- What the top exponent of a format means (R102). -/
inductive Special | none | nanOnly | ieee
  deriving DecidableEq, Repr

/-- A floating-point element format (R102). -/
structure Fmt where
  eb : Nat
  mb : Nat
  bias : Nat
  special : Special
  deriving DecidableEq, Repr

def fE2M1 : Fmt := ⟨2, 1, 1, .none⟩
def fE2M3 : Fmt := ⟨2, 3, 1, .none⟩
def fE3M2 : Fmt := ⟨3, 2, 3, .none⟩
def fE4M3 : Fmt := ⟨4, 3, 7, .nanOnly⟩
def fE5M2 : Fmt := ⟨5, 2, 15, .ieee⟩
def fBF16 : Fmt := ⟨8, 7, 127, .ieee⟩
def fFP16 : Fmt := ⟨5, 10, 15, .ieee⟩
def fFP32 : Fmt := ⟨8, 23, 127, .ieee⟩
def fFP64 : Fmt := ⟨11, 52, 1023, .ieee⟩

/-- The element types by their codes (R116): a float format, or an integer of a width. -/
inductive Elem
  | float (f : Fmt)
  | int (w : Nat)
  deriving DecidableEq, Repr

/-- The type of a code; none for a Reserved code (R116). -/
def elemOf : Nat → Option Elem
  | 0 => some (.float fE2M1)
  | 1 => some (.float fE2M3)
  | 2 => some (.float fE3M2)
  | 3 => some (.float fE4M3)
  | 4 => some (.float fE5M2)
  | 5 => some (.float fBF16)
  | 6 => some (.float fFP16)
  | 7 => some (.int 8)
  | 8 => some (.float fFP32)
  | 9 => some (.int 32)
  | _ => none

/-- Bits of an element of a type code. -/
def elemBits : Nat → Nat
  | 0 => 4
  | 1 => 6
  | 2 => 6
  | 3 => 8
  | 4 => 8
  | 5 => 16
  | 6 => 16
  | 7 => 8
  | _ => 32

/-- A code is an MX type (R103). -/
def isMx (c : Nat) : Bool := decide (c < 5)

/-- A pairing that R103 allows. -/
def pairOk (a b : Nat) : Bool := (isMx a && isMx b) || (a == b && (a == 5 || a == 6 || a == 7))

/-! ### Exact values -/

/-- An exact value: ± m × 2^e, an infinity, or NaN. -/
inductive FVal
  | nan
  | inf (neg : Bool)
  | fin (neg : Bool) (m : Nat) (e : Int)
  deriving DecidableEq, Repr

/-- Exponent of the unit of a format's subnormals. -/
def Fmt.unit (f : Fmt) : Int := 1 - f.bias - f.mb

/-- The value of a code (R102, R107); with DAZ a subnormal reads as signed zero (R105). -/
def decodeFp (f : Fmt) (daz : Bool) (b : Nat) : FVal :=
  let neg := bit b (f.eb + f.mb)
  let x := bits b f.mb f.eb
  let m := bits b 0 f.mb
  let top := 2 ^ f.eb - 1
  if f.special = .ieee ∧ x = top then (if m = 0 then .inf neg else .nan)
  else if f.special = .nanOnly ∧ x = top ∧ m = 2 ^ f.mb - 1 then .nan
  else if x = 0 then .fin neg (if daz then 0 else m) f.unit
  else .fin neg (2 ^ f.mb + m) (f.unit + (x - 1))

/-- Largest finite magnitude as mantissa and exponent (R102). -/
def maxFinite (f : Fmt) : Nat × Int :=
  match f.special with
  | .ieee => (2 ^ (f.mb + 1) - 1, f.unit + (2 ^ f.eb - 3 : Nat))
  | .nanOnly => (2 ^ (f.mb + 1) - 2, f.unit + (2 ^ f.eb - 2 : Nat))
  | .none => (2 ^ (f.mb + 1) - 1, f.unit + (2 ^ f.eb - 2 : Nat))

/-- Compare magnitudes a × 2^x < b × 2^y. -/
def magLt (a : Nat) (x : Int) (b : Nat) (y : Int) : Bool :=
  if x ≤ y then decide (a < b * 2 ^ (y - x).toNat) else decide (a * 2 ^ (x - y).toNat < b)

/-- The sign of an exact value as an integer over the unit 2^u, for u not above its exponent. -/
def toInt (neg : Bool) (m : Nat) (e u : Int) : Int :=
  let v : Int := (m * 2 ^ (e - u).toNat : Nat)
  if neg then -v else v

/-- Sum of two exact values, as an integer and its exponent. -/
def addExact (n1 : Int) (e1 : Int) (n2 : Int) (e2 : Int) : Int × Int :=
  let u := min e1 e2
  (n1 * 2 ^ (e1 - u).toNat + n2 * 2 ^ (e2 - u).toNat, u)

/-- A signed exact value from a finite one. -/
def signed (neg : Bool) (m : Nat) : Int := if neg then -(m : Int) else m

/-! ### Rounding (R105, R107, R109) -/

/-- A magnitude is rounded away from zero, by ROUND: quotient q, remainder r of unit u. -/
def roundsUp (mode : Nat) (neg : Bool) (q r u : Nat) : Bool :=
  match mode with
  | 0 => decide (u < 2 * r) || (decide (2 * r = u) && q % 2 == 1)
  | 1 => false
  | 2 => neg && r != 0
  | _ => !neg && r != 0

/-- Round m × 2^e to a multiple of 2^q: the multiple and whether it is inexact. -/
def roundAt (mode : Nat) (neg : Bool) (m : Nat) (e q : Int) : Nat × Bool :=
  if q ≤ e then (m * 2 ^ (e - q).toNat, false)
  else
    let u := 2 ^ (q - e).toNat
    (if roundsUp mode neg (m / u) (m % u) u then m / u + 1 else m / u, m % u != 0)

/-- Number of bits of a magnitude. -/
def bitLen (m : Nat) : Nat := if m = 0 then 0 else Nat.log2 m + 1

/-- A finite value rounded into a format. -/
structure Rounded where
  /-- Exponent field and mantissa, without the sign. -/
  code : Nat
  inexact : Bool
  tiny : Bool
  overflow : Bool
  deriving DecidableEq, Repr

/-- Round a non-zero magnitude into a format: overflow and tininess are judged on the value rounded to the format's
precision with an unbounded exponent range (R107, R109). -/
def roundFp (f : Fmt) (mode : Nat) (neg : Bool) (m : Nat) (e : Int) : Rounded :=
  let qU : Int := e + bitLen m - (f.mb + 1)
  let ru := roundAt mode neg m e qU
  let q := max qU f.unit
  let r := roundAt mode neg m e q
  let big := maxFinite f
  { code := (q - f.unit).toNat * 2 ^ f.mb + r.1
    inexact := r.2
    tiny := decide (qU + bitLen ru.1 ≤ f.unit + f.mb)
    overflow := magLt big.1 big.2 ru.1 qU }

def signBit (f : Fmt) (neg : Bool) : Nat := if neg then 2 ^ (f.eb + f.mb) else 0

/-- The code of an infinity. -/
def infCode (f : Fmt) (neg : Bool) : Nat := signBit f neg + (2 ^ f.eb - 1) * 2 ^ f.mb

/-- The code of the largest finite value. -/
def maxCode (f : Fmt) (neg : Bool) : Nat :=
  signBit f neg + (match f.special with
    | .ieee => (2 ^ f.eb - 1) * 2 ^ f.mb - 1
    | .nanOnly => 2 ^ (f.eb + f.mb) - 2
    | .none => 2 ^ (f.eb + f.mb) - 1)

/-- The code of a NaN: quiet, its sign and payload taken from a free number (assumption 8). -/
def nanCode (f : Fmt) (free : Nat) : Nat :=
  match f.special with
  | .nanOnly => signBit f (bit free 0) + 2 ^ (f.eb + f.mb) - 1
  | _ => signBit f (bit free 0) + (2 ^ f.eb - 1) * 2 ^ f.mb + 2 ^ (f.mb - 1) + free / 2 % 2 ^ (f.mb - 1)

/-- The overflow result goes to infinity, by ROUND (R109). -/
def toInfinity (mode : Nat) (neg : Bool) : Bool :=
  match mode with
  | 0 => true
  | 1 => false
  | 2 => neg
  | _ => !neg

/-- A code and the flags raised. -/
abbrev Res := Nat × W32

/-- The rounding controls of CORE_MODE (R105). -/
structure Modes where
  round : Nat := 0
  ftz : Bool := false
  daz : Bool := false
  intSat : Bool := true
  cvtSat : Bool := true
  accFtz : Bool := false
  deriving DecidableEq, Repr

/-- The fields of CORE_MODE (R105). -/
def modesOf (m : W32) : Modes :=
  { round := m.toNat % 4, ftz := m.getLsbD 2, daz := m.getLsbD 3, intSat := m.getLsbD 4, cvtSat := m.getLsbD 5,
    accFtz := m.getLsbD 6 }

/-- A finite value into a format that overflows as IEEE 754 says, with flushing (R107, R109). -/
def finIeee (f : Fmt) (mode : Nat) (ftz neg : Bool) (m : Nat) (e : Int) : Res :=
  if m = 0 then (signBit f neg, 0)
  else
    let r := roundFp f mode neg m e
    if r.overflow then (if toInfinity mode neg then infCode f neg else maxCode f neg, flagOF ||| flagNX)
    else if ftz && r.tiny then (signBit f neg, flagUF ||| flagNX)
    else (signBit f neg + r.code, (if r.inexact then flagNX else 0) ||| (if r.inexact && r.tiny then flagUF else 0))

/-- An exact value into a format, as an arithmetic result (no conversion): infinities and NaN kept. -/
def fromVal (f : Fmt) (mode : Nat) (ftz : Bool) (free : Nat) : FVal → Res
  | .nan => (nanCode f free, 0)
  | .inf neg => (infCode f neg, 0)
  | .fin neg m e => finIeee f mode ftz neg m e

/-- Conversion into a floating-point format (R109). -/
def convertFp (f : Fmt) (md : Modes) (free : Nat) : FVal → Res
  | .nan => if f.special = .none then (0, flagNV) else (nanCode f free, 0)
  | .inf neg =>
    match f.special with
    | .ieee => (infCode f neg, 0)
    | .nanOnly => if md.cvtSat then (maxCode f neg, flagCSAT) else (nanCode f free, flagNV)
    | .none => (maxCode f neg, flagCSAT)
  | .fin neg m e =>
    if m = 0 then (signBit f neg, 0)
    else
      let r := roundFp f md.round neg m e
      if r.overflow then
        if f.special = .none || (md.cvtSat && (f = fE4M3 || f = fE5M2)) then (maxCode f neg, flagCSAT ||| flagNX)
        else if toInfinity md.round neg then
          (if f.special = .nanOnly then nanCode f free else infCode f neg, flagOF ||| flagNX)
        else (maxCode f neg, flagOF ||| flagNX)
      else if md.ftz && r.tiny then (signBit f neg, flagUF ||| flagNX)
      else (signBit f neg + r.code, (if r.inexact then flagNX else 0) ||| (if r.inexact && r.tiny then flagUF else 0))

/-- Conversion into a two's-complement integer of `w` bits (R109). -/
def convertInt (w : Nat) (md : Modes) : FVal → Res
  | .nan => (0, flagNV)
  | .inf neg => (if neg then 2 ^ (w - 1) else 2 ^ (w - 1) - 1, flagCSAT)
  | .fin neg m e =>
    let r := roundAt md.round neg m e 0
    let nx := if r.2 then flagNX else 0
    if neg then
      if 2 ^ (w - 1) < r.1 then (2 ^ (w - 1), nx ||| flagCSAT) else ((2 ^ w - r.1) % 2 ^ w, nx)
    else if 2 ^ (w - 1) ≤ r.1 then (2 ^ (w - 1) - 1, nx ||| flagCSAT)
    else (r.1, nx)

/-- The value of an element of a type (R102, R109). -/
def decodeElem (t : Elem) (daz : Bool) (b : Nat) : FVal :=
  match t with
  | .float f => decodeFp f daz b
  | .int w => if bit b (w - 1) then .fin true (2 ^ w - b % 2 ^ w) 0 else .fin false (b % 2 ^ w) 0

/-- Conversion of a value into an element type (R109). -/
def convertElem (t : Elem) (md : Modes) (free : Nat) (v : FVal) : Res :=
  match t with
  | .float f => convertFp f md free v
  | .int w => convertInt w md v

/-! ### FP32 arithmetic of the vector unit (R84, R105 to R107, R119) -/

/-- Whether an exact zero sum is negative: only with ROUND toward −∞, or where both terms are −0. -/
def zeroNeg (mode : Nat) (n1 n2 : Bool) : Bool := if n1 = n2 then n1 else mode == 2

/-- a × b + c exactly, with NV where the operation has no value (R106); a NaN operand raises nothing here. -/
def fmaVal (mode : Nat) (a b c : FVal) : FVal × W32 :=
  match a, b, c with
  | .nan, _, _ => (.nan, 0)
  | _, .nan, _ => (.nan, 0)
  | .inf s1, .inf s2, .nan => let _ := s1; let _ := s2; (.nan, 0)
  | .inf s1, .inf s2, .inf s3 => if (s1 != s2) = s3 then (.inf s3, 0) else (.nan, flagNV)
  | .inf s1, .inf s2, .fin _ _ _ => (.inf (s1 != s2), 0)
  | .inf s1, .fin s2 m _, c => infTimes (s1 != s2) m c
  | .fin s1 m _, .inf s2, c => infTimes (s1 != s2) m c
  | .fin _ _ _, .fin _ _ _, .nan => (.nan, 0)
  | .fin _ _ _, .fin _ _ _, .inf s => (.inf s, 0)
  | .fin s1 m1 e1, .fin s2 m2 e2, .fin s3 m3 e3 =>
    let sp := s1 != s2
    let r := addExact (signed sp (m1 * m2)) (e1 + e2) (signed s3 m3) e3
    if r.1 = 0 then (.fin (if m1 * m2 = 0 ∧ m3 = 0 then zeroNeg mode sp s3 else mode == 2) 0 0, 0)
    else (.fin (decide (r.1 < 0)) r.1.natAbs r.2, 0)
where
  /-- An infinity times a finite magnitude, plus c. -/
  infTimes (s : Bool) (m : Nat) (c : FVal) : FVal × W32 :=
    if m = 0 then (.nan, flagNV)
    else match c with
      | .nan => (.nan, 0)
      | .inf s3 => if s = s3 then (.inf s, 0) else (.nan, flagNV)
      | .fin _ _ _ => (.inf s, 0)

/-- −x. -/
def FVal.neg : FVal → FVal
  | .nan => .nan
  | .inf s => .inf (!s)
  | .fin s m e => .fin (!s) m e

/-- a + b exactly. -/
def addVal (mode : Nat) (a b : FVal) : FVal × W32 :=
  match a, b with
  | .nan, _ => (.nan, 0)
  | _, .nan => (.nan, 0)
  | .inf s1, .inf s2 => if s1 = s2 then (.inf s1, 0) else (.nan, flagNV)
  | .inf s, .fin _ _ _ => (.inf s, 0)
  | .fin _ _ _, .inf s => (.inf s, 0)
  | .fin s1 m1 e1, .fin s2 m2 e2 =>
    let r := addExact (signed s1 m1) e1 (signed s2 m2) e2
    if r.1 = 0 then (.fin (if m1 = 0 ∧ m2 = 0 then zeroNeg mode s1 s2 else mode == 2) 0 0, 0)
    else (.fin (decide (r.1 < 0)) r.1.natAbs r.2, 0)

/-- a × b exactly. -/
def mulVal (a b : FVal) : FVal × W32 :=
  match a, b with
  | .nan, _ => (.nan, 0)
  | _, .nan => (.nan, 0)
  | .inf s1, .inf s2 => (.inf (s1 != s2), 0)
  | .inf s1, .fin s2 m _ => if m = 0 then (.nan, flagNV) else (.inf (s1 != s2), 0)
  | .fin s1 m _, .inf s2 => if m = 0 then (.nan, flagNV) else (.inf (s1 != s2), 0)
  | .fin s1 m1 e1, .fin s2 m2 e2 => (.fin (s1 != s2) (m1 * m2) (e1 + e2), 0)

/-- An FP32 lane and the flags it raises. -/
abbrev Lane := W32 × W32

def laneOf (r : Res) (fl : W32) : Lane := (BitVec.ofNat 32 r.1, fl ||| r.2)

def dec32 (md : Modes) (x : W32) : FVal := decodeFp fFP32 md.daz x.toNat

/-- Round an exact FP32 result (R105, R107). -/
def out32 (md : Modes) (free : Nat) (v : FVal × W32) : Lane := laneOf (fromVal fFP32 md.round md.ftz free v.1) v.2

def nanWord (a : W32) : Bool := bits a.toNat 23 8 == 255 && bits a.toNat 0 23 != 0

/-- A NaN whose quiet bit is 0, which IEEE 754 binary32 calls signalling (R102). -/
def signalling (a : W32) : Bool := nanWord a && !bit a.toNat 22

/-- NV where an operand is a signalling NaN and the operation counts as invalid for it (R106, assumption 8). -/
def signalFlags (op : Nat) (l : List W32) : W32 := if l.any signalling && Config.nanInvalid op true then flagNV else 0

/-- NV of a CMP.F32 with a NaN operand, which the spec leaves open (assumption 8). -/
def cmpFlags (mod : Nat) (a b : W32) : W32 :=
  if (nanWord a || nanWord b) && Config.nanInvalid mod (signalling a || signalling b) then flagNV else 0

/-- An exact value with the flags of its NaN operands. -/
def withSignal (op : Nat) (l : List W32) (v : FVal × W32) : FVal × W32 := (v.1, v.2 ||| signalFlags op l)

/-- FMA.F32 on a lane: one rounding (R119). -/
def fma32 (md : Modes) (a b c : W32) : Lane :=
  out32 md (Config.nanPayload a.toNat b.toNat c.toNat)
    (withSignal 0x20 [a, b, c] (fmaVal md.round (dec32 md a) (dec32 md b) (dec32 md c)))

def add32 (md : Modes) (a b : W32) : Lane :=
  out32 md (Config.nanPayload a.toNat b.toNat 0) (withSignal 0x21 [a, b] (addVal md.round (dec32 md a) (dec32 md b)))

def sub32 (md : Modes) (a b : W32) : Lane :=
  out32 md (Config.nanPayload a.toNat b.toNat 1) (withSignal 0x22 [a, b] (addVal md.round (dec32 md a) (dec32 md b).neg))

def mul32 (md : Modes) (a b : W32) : Lane :=
  out32 md (Config.nanPayload a.toNat b.toNat 2) (withSignal 0x23 [a, b] (mulVal (dec32 md a) (dec32 md b)))

/-- x < y; false where either is NaN. -/
def fLt (x y : FVal) : Bool :=
  match x, y with
  | .nan, _ => false
  | _, .nan => false
  | .inf s1, .inf s2 => s1 && !s2
  | .inf s, .fin _ _ _ => s
  | .fin _ _ _, .inf s => !s
  | .fin s1 m1 e1, .fin s2 m2 e2 =>
    let u := min e1 e2
    decide (toInt s1 m1 e1 u < toInt s2 m2 e2 u)

def isNan : FVal → Bool
  | .nan => true
  | _ => false

/-- x = y as numbers; false where either is NaN. -/
def fEq (x y : FVal) : Bool := !isNan x && !isNan y && !fLt x y && !fLt y x

/-- MIN.F32 or MAX.F32 on a lane; a NaN input gives NaN (R119). -/
def minMax32 (isMin : Bool) (md : Modes) (a b : W32) : Lane :=
  let x := dec32 md a
  let y := dec32 md b
  let v := if isNan x || isNan y then .nan
    else if fLt x y then (if isMin then x else y)
    else if fLt y x then (if isMin then y else x)
    else if Config.pickFirst a b then x else y
  out32 md (Config.nanPayload a.toNat b.toNat (if isMin then 3 else 4)) (withSignal (if isMin then 0x24 else 0x25) [a, b] (v, 0))

/-- CMP.F32 on a lane (R119): a NaN is unequal to and not less than anything. -/
def cmp32 (mod : Nat) (md : Modes) (a b : W32) : Bool :=
  let x := dec32 md a
  let y := dec32 md b
  match mod with
  | 0 => fEq x y
  | 1 => !fEq x y
  | 2 => fLt x y
  | 3 => fLt x y || fEq x y
  | m => Config.cmpF32U m a b

/-- A fixed function of R120 on a lane: subnormal inputs and results as CORE_MODE says; ROUND is ignored. -/
def fixed32 (fn : W32 → W32) (op : Nat) (md : Modes) (a : W32) : Lane :=
  let x := if md.daz && bits a.toNat 23 8 == 0 then a &&& 0x80000000 else a
  let y := fn x
  if md.ftz && bits y.toNat 23 8 == 0 && bits y.toNat 0 23 != 0 then
    (y &&& 0x80000000, (Config.fnFlags op x &&& 0x1F) ||| flagUF ||| flagNX)
  else (y, Config.fnFlags op x &&& 0x1F)

/-- CVT on a lane (R109, R119): an INT8 result is sign-extended, any other narrow result sits in the low bits. -/
def cvt32 (src dst : Elem) (dstCode : Nat) (md : Modes) (a : W32) : Lane :=
  let r := convertElem dst md (Config.nanPayload a.toNat dstCode 5) (decodeElem src md.daz (match src with
    | .int 8 => a.toNat % 256
    | _ => a.toNat))
  let code := if dst = .int 8 ∧ bit r.1 7 then r.1 + (2 ^ 32 - 2 ^ 8) else r.1
  (BitVec.ofNat 32 code, r.2)

/-! ### Tensor accumulation (R104, R107, R108) -/

/-- A dot product of a run: the exact sum, or an infinity or NaN, with flags (R104). -/
def dotVal : List (FVal × FVal) → FVal × W32
  | [] => (.fin false 0 0, 0)
  | (a, b) :: t =>
    let p := mulVal a b
    let d := dotVal t
    let r := addVal 0 p.1 d.1
    (r.1, p.2 ||| d.2 ||| r.2)

/-- Multiply an exact value by 2^k. -/
def scaleVal (k : Int) : FVal → FVal
  | .nan => .nan
  | .inf s => .inf s
  | .fin s m e => .fin s m (e + k)

/-- Add a run's sum to an FP32 accumulator: one rounding to nearest even; subnormal results are flushed by ACC_FTZ
(R104, R107). -/
def accAdd (accFtz : Bool) (acc : W32) (v : FVal × W32) : Lane :=
  let r := addVal 0 (decodeFp fFP32 false acc.toNat) v.1
  laneOf (fromVal fFP32 0 accFtz (Config.nanPayload acc.toNat 0 6) r.1) (v.2 ||| r.2)

/-- Add a run's integer sum to an INT32 accumulator (R108). -/
def accAddInt (sat : Bool) (acc : W32) (v : Int) : Lane :=
  let r := acc.toInt + v
  if sat then
    if 2 ^ 31 ≤ r then (BitVec.ofInt 32 (2 ^ 31 - 1), flagISAT)
    else if r < -(2 ^ 31) then (BitVec.ofInt 32 (-(2 ^ 31)), flagISAT)
    else (BitVec.ofInt 32 r, 0)
  else (BitVec.ofInt 32 r, 0)

/-! ### Scale selection for MX blocks (R136) -/

/-- ⌊log₂⌋ of a finite non-zero magnitude. -/
def floorLog2 (m : Nat) (e : Int) : Int := e + bitLen m - 1

/-- Exponent of the largest normal value of an MX element type (R136). -/
def mxEmax : Nat → Int
  | 0 => 2
  | 1 => 2
  | 2 => 4
  | 3 => 8
  | _ => 15

/-- The larger of two magnitudes. -/
def magMax (a b : Nat × Int) : Nat × Int := if magLt a.1 a.2 b.1 b.2 then b else a

/-- The largest magnitude of a block of finite values. -/
def amax : List FVal → Nat × Int
  | [] => (0, 0)
  | .fin _ m e :: t => magMax (m, e) (amax t)
  | _ :: t => amax t

/-- Every value is finite. -/
def allFinite (l : List FVal) : Bool := l.all fun v => match v with
  | .fin _ _ _ => true
  | _ => false

/-- The scale byte of a block (R136). -/
def mxScale (code : Nat) (l : List FVal) : Nat :=
  let a := amax l
  if !allFinite l then 255
  else if a.1 = 0 then 0
  else (max 0 (min 254 (floorLog2 a.1 a.2 - mxEmax code + 127))).toNat

/-- The element codes of a block under its scale, and the flags (R136). -/
def mxBlock (code : Nat) (f : Fmt) (md : Modes) (l : List FVal) : Nat × List Nat × W32 :=
  let s := mxScale code l
  if !allFinite l then (255, l.map fun _ => 0, flagNV)
  else
    let r := l.map fun v => convertFp f md (Config.nanPayload code s (match v with
      | .fin neg m _ => if neg then 2 * m + 1 else 2 * m
      | _ => 0)) (scaleVal (127 - (s : Int)) v)
    (s, r.map (·.1), r.foldl (fun fl x => fl ||| x.2) 0)

end Sys2Proof.Machine
end

