-- ==== Sys2Proof/Machine/Operands.lean ====
section
/-! DEFINITION. The core instruction word: its fields, what makes it illegal, and the registers it names (R84, R114 to
R118). -/
namespace Sys2Proof.Machine

/-! ### Fields (R114) -/

/-- Bits [lo + n - 1 : lo] of an instruction word. -/
def fld (w : W64) (lo n : Nat) : Nat := bits w.toNat lo n

/-- A signed field. -/
def sfld (w : W64) (lo n : Nat) : Int :=
  if 2 ^ (n - 1) ≤ fld w lo n then (fld w lo n : Int) - 2 ^ n else fld w lo n

def iFmt (w : W64) : Nat := fld w 0 4
def iOp (w : W64) : Nat := fld w 4 8
def iMod (w : W64) : Nat := fld w 12 4

/-- D and A of R3, RI, MEM and CTL; A of BR stands where D does. -/
def iD (w : W64) : Nat := fld w 16 6
def iA (w : W64) : Nat := fld w 22 6
/-- B and C of R3. -/
def iB (w : W64) : Nat := fld w 28 6
def iC (w : W64) : Nat := fld w 34 6
/-- SSEL of R3: bit 0 D, 1 A, 2 B, 3 C. -/
def iSsel3 (w : W64) (i : Nat) : Bool := bit w.toNat (40 + i)
/-- SSEL of RI and CTL: bit 0 D, 1 A. -/
def iSselI (w : W64) (i : Nat) : Bool := bit w.toNat (28 + i)
/-- IMM32, extended as the part extends it (assumption 8). -/
def iImm (w : W64) : W64 :=
  if Config.immSigned then (w.extractLsb' 32 32).signExtend 64 else (w.extractLsb' 32 32).zeroExtend 64
/-- MEM. -/
def iAScalar (w : W64) : Bool := bit w.toNat 28
def iHint (w : W64) : Nat := fld w 29 3
def iSpace (w : W64) : Nat := fld w 32 2
def iBCas (w : W64) : Nat := fld w 34 6
def iOffset (w : W64) : Int := sfld w 40 24
/-- TILE. -/
def iSD (w : W64) : Nat := fld w 16 5
def iSA (w : W64) : Nat := fld w 21 5
def iSB (w : W64) : Nat := fld w 26 5
def iSC (w : W64) : Nat := fld w 31 5
def iTypeA (w : W64) : Nat := fld w 36 4
def iTypeB (w : W64) : Nat := fld w 40 4
/-- M, N and K in elements (R115). -/
def iM (w : W64) : Nat := 16 * (fld w 44 3 + 1)
def iN (w : W64) : Nat := 16 * (fld w 47 3 + 1)
def iK (w : W64) : Nat := 32 * (fld w 50 6 + 1)
def iVbase (w : W64) : Nat := fld w 56 6
/-- BR. -/
def iBrScalar (w : W64) : Bool := bit w.toNat 22
def iNeg (w : W64) : Bool := bit w.toNat 23
def iTarget (w : W64) : Int := sfld w 24 20
def iReconv (w : W64) : Int := sfld w 44 20
/-- CTL. -/
def iCsr (w : W64) : Nat := fld w 32 12
def iImm16 (w : W64) : Nat := fld w 44 16

/-! ### The opcode list and illegal words (R115 to R117, R119) -/

/-- FMT.OP is listed in R119 (the fences with their MOD). -/
def opListed (w : W64) : Bool :=
  let o := iOp w
  match iFmt w with
  | 0 => decide (o ≤ 9) || (decide (0x20 ≤ o) && decide (o ≤ 0x2A)) || (decide (0x30 ≤ o) && decide (o ≤ 0x36)) || o == 0x38
  | 1 => o == 0 || o == 1 || o == 0x20 || o == 0x40
  | 2 => decide (o ≤ 2)
  | 3 => decide (o ≤ 5) || (decide (0x10 ≤ o) && decide (o ≤ 0x12))
  | 4 => decide (o ≤ 4)
  | 5 => decide (o ≤ 3) || (o == 4 && decide (iMod w ≤ 2)) || (decide (5 ≤ o) && decide (o ≤ 0xC))
  | _ => false

/-- The word is the instruction FMT.OP (for a fence also its MOD). -/
def isOp (w : W64) (fmt op : Nat) (fence : Option Nat) : Bool :=
  iFmt w == fmt && iOp w == op && (match fence with
    | some m => iMod w == m
    | none => true)

/-- A scalar-class R3 word: every register field names S0 to S31, SSEL is 0 (R115). -/
def okScalar3 (mods : Nat) (w : W64) : Bool :=
  decide (iMod w < mods) && decide (iD w < 32) && decide (iA w < 32) && decide (iB w < 32) && decide (iC w < 32) &&
    fld w 40 4 == 0 && fld w 44 20 == 0

/-- A scalar-class RI word. -/
def okScalarI (mods : Nat) (w : W64) : Bool :=
  decide (iMod w < mods) && decide (iD w < 32) && decide (iA w < 32) && fld w 28 4 == 0

/-- A source field that names an S register is below 32. -/
def okSrc (ssel : Bool) (r : Nat) : Bool := !ssel || decide (r < 32)

/-- A vector-class R3 word with `n` sources A, B, C (R115). -/
def okVector3 (mods n : Nat) (w : W64) : Bool :=
  decide (iMod w < mods) && !iSsel3 w 0 && okSrc (iSsel3 w 1) (iA w) &&
    (decide (n < 2) || okSrc (iSsel3 w 2) (iB w)) && (decide (n < 3) || okSrc (iSsel3 w 3) (iC w)) && fld w 44 20 == 0

/-- CVT: the source type in C[3:0] and the destination type in MOD are type codes (R116, R119, assumption 7). -/
def okCvt (w : W64) : Bool :=
  (elemOf (iMod w)).isSome && (elemOf (iC w % 16)).isSome && !iSsel3 w 0 && okSrc (iSsel3 w 1) (iA w) && fld w 44 20 == 0

/-- A vector-class RI word. -/
def okVectorI (w : W64) : Bool := iMod w == 0 && !iSselI w 0 && okSrc (iSselI w 1) (iA w) && fld w 30 2 == 0

/-- POS.GEN: A names S[A] (R119). -/
def okPosGen (w : W64) : Bool := iMod w == 0 && !iSselI w 0 && decide (iA w < 32) && fld w 30 2 == 0

/-- A TILE word: Reserved bits, VBASE, MOD and both type codes (R116, R117). -/
def okTile (mods : Nat) (w : W64) : Bool :=
  decide (iMod w < mods) && fld w 62 2 == 0 && iVbase w % 4 == 0 && decide (iTypeA w ≤ 9) && decide (iTypeB w ≤ 9)

def okMma (w : W64) : Bool := okTile 2 w && pairOk (iTypeA w) (iTypeB w)
def okAccLd (w : W64) : Bool := okTile 1 w && [5, 6, 8, 9].contains (iTypeA w)
def okAccSt (w : W64) : Bool := okTile 1 w && [5, 6, 7, 8, 9].contains (iTypeA w)
def okCvtMx (w : W64) : Bool := okTile 1 w && [5, 6, 8].contains (iTypeA w) && isMx (iTypeB w)
def okRope (w : W64) : Bool := okTile 1 w && [5, 8].contains (iTypeA w) && [5, 8].contains (iTypeB w)
def okSmax (w : W64) : Bool := okTile 1 w && [5, 6].contains (iTypeB w)

/-- A 64-bit value or address sits in an even register and the next (R84, assumption 7). -/
def okBase (w : W64) : Bool :=
  decide (iSpace w ≤ 1) && (if iAScalar w then decide (iA w < 32) else iA w % 2 == 0)

def okLd (w : W64) : Bool := okBase w && decide (iMod w ≤ 5) && (iMod w != 5 || iD w % 2 == 0)
def okSt (w : W64) : Bool := okBase w && [0, 2, 4, 5].contains (iMod w) && (iMod w != 5 || iD w % 2 == 0)
def okAtom (w : W64) : Bool :=
  okBase w && decide (iMod w % 8 ≤ 6) &&
    (decide (iMod w < 8) || (iD w % 2 == 0 && (iMod w % 8 != 6 || iBCas w % 2 == 0)))

/-- A BR-format word; `s` says that A names an S register. -/
def okBr (s : Bool) (w : W64) : Bool := iMod w == 0 && (!s || decide (iD w < 32))

/-- A CTL word: Reserved bits and MOD. -/
def okCtl (mods : Nat) (w : W64) : Bool := decide (iMod w < mods) && fld w 30 2 == 0 && fld w 60 4 == 0

/-- INV.L1 and WB.L1: the range form names S[A] and S[D] (R145). -/
def okL1 (mods : Nat) (w : W64) : Bool :=
  okCtl mods w && (iMod w != 1 || (decide (iA w < 32) && decide (iD w < 32)))

/-- CSR numbers (R118), and whether each is 64 bits wide. -/
def csrListed (n : Nat) : Bool := decide (n ≤ 8) || n == 0x10
def csrWide (n : Nat) : Bool := n == 7 || n == 0x10

def okCsrR (w : W64) : Bool :=
  okCtl 1 w && csrListed (iCsr w) && okSrc (iSselI w 0) (iD w) && (iSselI w 0 || !csrWide (iCsr w) || iD w % 2 == 0)
def okCsrW (w : W64) : Bool := okCtl 1 w && decide (iCsr w ≤ 1) && okSrc (iSselI w 1) (iA w)

/-! ### Registers (R84, R86, R115) -/

/-- S0 reads as 0 (R84). -/
def sRead (x : Slot) (r : Nat) : W64 := if r = 0 then 0 else sget 0 x.s r

/-- Writes to S0 are discarded (R84). -/
def sWrite (x : Slot) (r : Nat) (v : W64) : Slot := if r = 0 then x else { x with s := sput x.s r v }

def vRead (x : Slot) (r l : Nat) : W32 := sget 0 x.v (32 * r + l)

def vWrite (x : Slot) (r l : Nat) (v : W32) : Slot := { x with v := sput x.v (32 * r + l) v }

/-- A vector source: V[r] of the lane, or the low half of S[r] for every lane (R115). -/
def vSrc (x : Slot) (ssel : Bool) (r l : Nat) : W32 := if ssel then (sRead x r).truncate 32 else vRead x r l

/-- A 64-bit value in V[r] (low half) and V[r + 1] (R84). -/
def v64 (x : Slot) (r l : Nat) : W64 := (vRead x (r + 1) l) ++ (vRead x r l)

/-- The active lanes, lowest first (R86). -/
def lanesOf (m : W32) : List Nat := (List.range 32).filter fun l => m.getLsbD l

/-- Raise flags (R106). -/
def addFlags (x : Slot) (f : W32) : Slot := { x with flags := x.flags ||| f }

/-- Write V[d] in the lanes of a list, with each lane's flags. -/
def writeLanes (d : Nat) (f : Nat → Lane) : List Nat → Slot → Slot
  | [], x => x
  | l :: t, x => writeLanes d f t (addFlags (vWrite x d l (f l).1) (f l).2)

/-- A per-lane operation into V[d] of the active lanes (R86). -/
def perLane (d : Nat) (f : Nat → Lane) (x : Slot) : Slot := writeLanes d f (lanesOf x.mask) x

/-- The V registers a word reads or writes, by its format. -/
def usedV (w : W64) : List Nat :=
  match iFmt w with
  | 0 => if iOp w < 0x20 then []
    else [iD w] ++ (if iSsel3 w 1 then [] else [iA w]) ++ (if iSsel3 w 2 then [] else [iB w]) ++
      (if iSsel3 w 3 then [] else [iC w])
  | 1 => if iOp w < 0x20 then [] else [iD w] ++ (if iSselI w 1 || iOp w == 0x40 then [] else [iA w])
  | 2 => [iD w, iD w + 1, iBCas w, iBCas w + 1] ++ (if iAScalar w then [] else [iA w, iA w + 1])
  | 3 => if iOp w = 3 || 0x10 ≤ iOp w then [iVbase w, iVbase w + 1, iVbase w + 2, iVbase w + 3] else []
  | 4 => if iOp w = 0 && !iBrScalar w then [iD w] else []
  | 5 => (if iOp w = 0xA && !iSselI w 0 then [iD w, iD w + 1] else []) ++
      (if iOp w = 0xB && !iSselI w 1 then [iA w] else [])
  | _ => []

/-- V registers of a slot that an outstanding load or atomic has still to write (R94). -/
def pendingV (x : Core) (t : Nat) : List Nat :=
  ((x.loads.filter fun l => l.slot == t).map fun l => l.parts.map (·.reg)).flatten

end Sys2Proof.Machine
end

