-- ==== Sys2Proof/Machine/Issue.lean ====
section
/-! DEFINITION. How a core instruction issues, how threads diverge and reconverge, and how an exception is taken
(R85 to R87, R94 to R97, R117, R124 to R126, R134). -/
namespace Sys2Proof.Machine

/-! ### Exceptions (R124 to R126) -/

/-- Raise an exception in a slot: its record is written, the thread group stops, and the context is faulted (R124,
R126, R478). -/
def raiseExc (c t code : Nat) (lanes : W32) (addr : Nat) (step : Option Nat) (s : State) : State :=
  let x := slotGet (coreGet s c) t
  let r : ExcRecord := { code := code, slot := t, gb := x.gb, inLong := step.isSome, laneMask := lanes, pc := x.pc,
                         address := addr, step := step.getD 0, coreRef := coreRef c }
  let s := modCore c (fun k => k.setSlot t { x with exc := some r, stopped := true, long := none }) s
  ctxFault x.ctx { cause := 1, code := code, core := coreRef c, slot := t, source := 0, address := addr, pc := x.pc } s

/-- Consumption of poison by a core (R564): its error record at a global address, and POISON. -/
def raisePoison (c t : Nat) (lanes : W32) (addr gaddr : Nat) (step : Option Nat) (s : State) : State :=
  let ctx := (slotGet (coreGet s c) t).ctx
  raiseExc c t 0xC lanes addr step
    (errReport { cls := 2, source := 0, cause := 4, place := coreRef c, ctx := ctx, addr := gaddr,
                 part := ctxPart ctx } s)

/-! ### Divergence (R87, assumption 17) -/

/-- Reconverge while the next address is the one the top entry names: the stacked threads run, and then the union goes
on. -/
def reconverge : Nat → Slot → Slot
  | 0, x => x
  | fuel + 1, x =>
    match x.stack with
    | [] => x
    | e :: t =>
      if x.pc = e.addr then
        if e.arrived then reconverge fuel { x with mask := x.mask ||| e.mask, stack := t }
        else reconverge fuel { x with
          mask := e.mask, pc := e.resume, stack := { e with mask := x.mask, arrived := true } :: t }
      else x

/-- The thread group goes on at an address. -/
def goTo (pc : Nat) (x : Slot) : Slot := reconverge 66 { x with pc := pc }

/-- The next instruction. -/
def advance (x : Slot) : Slot := goTo (x.pc + 8) x

/-! ### Issue (R85, R94, R134) -/

/-- A slot's state lets it issue: ready, just loaded, or waiting for what the next attempt finds satisfied (R85). -/
def slotReady (x : Slot) : Bool :=
  (x.st = .ready || x.st = .loaded || x.st = .waitDep || x.st = .waitMem) && !x.stopped && x.long.isNone

/-- The core runs: its section is active, its clock is not held, its C-die is in service, no trip has gated it off (R99, R162, R544,
R547). -/
def coreRuns (s : State) (c : Nat) : Bool :=
  s.ret.get (coreSection c) = .active && !s.power.coreStopped.contains c && !isOut s (coreDie c) && !s.power.tripped

/-- The pipe that a long instruction occupies (R119, R150, assumption 7): 2 tensor, 3 load-store. -/
def longPipe (w : W64) : Nat := if iFmt w = 3 && iOp w != 5 then 2 else 3

/-- A long instruction of another slot holds a pipe (R94, R96). -/
def pipeBusy (k : Core) (t pipe : Nat) : Bool :=
  k.slots.any fun e => e.1 != t && (match e.2.long with
    | some r => longPipe r.word == pipe
    | none => false)

/-- What an instruction is, for issue. -/
structure InstrDesc where
  fmt : Nat
  op : Nat
  fence : Option Nat := none
  /-- Pipe: 0 scalar, 1 vector, 2 tensor, 3 load-store, 4 control (R94). -/
  pipe : Nat
  /-- Executes whatever the active mask (R121). -/
  maskFree : Bool
  long : Bool := false

/-- Set a slot of a core. -/
def putSlot (c t : Nat) (x : Slot) (s : State) : State := modCore c (fun k => k.setSlot t x) s

/-- The slot that issued last to each pipe (R95). -/
def noteIssue (c t pipe : Nat) (s : State) : State :=
  modCore c (fun k => { k with lastIssue := sput k.lastIssue pipe t }) s

/-- RESUMING is set and the instruction is not the stopped long one (R134); `steps` is the instruction's step count. -/
def resumeBad (d : InstrDesc) (x : Slot) (steps : Nat) : Bool :=
  x.resuming && (!d.long || !x.prog.valid || x.prog.op != d.op || x.prog.fmt != d.fmt || decide (steps ≤ x.prog.step))

/-- Issue the instruction of a word in a slot: `legal` is R117's judgement, `steps` the step count of a long
instruction, `body` the instruction's effect in a state whose slot is READY with PC on the instruction. -/
def issueNext (d : InstrDesc) (legal : Bool) (steps : Slot → Nat) (c t : Nat) (w : W64) (body : Slot → State → State)
    (s : State) : State :=
  let k := coreGet s c
  let x := slotGet k t
  if !(slotReady x && coreRuns s c) then s
  else
    let x := { x with st := .ready }
    let s := putSlot c t x s
    if !legal then
      if isOp w d.fmt d.op d.fence && !d.maskFree && x.mask == 0 then putSlot c t (advance x) s
      else raiseExc c t 2 (if isOp w d.fmt d.op d.fence && !d.maskFree then x.mask else 0xFFFFFFFF) 0 none s
    else if resumeBad d x (steps x) then raiseExc c t 3 0xFFFFFFFF 0 none s
    else if !d.maskFree && x.mask == 0 then putSlot c t (advance x) s
    else if (usedV w).any (fun r => (pendingV k t).contains r) then putSlot c t { x with st := .waitDep } s
    else if pipeBusy k t d.pipe then putSlot c t { x with st := .waitDep } s
    else body x (noteIssue c t d.pipe s)

/-- A core-instruction command: the word must be the row's instruction, or no instruction at all (which raises
ILLEGAL_INSTR whatever the row). -/
def issue (d : InstrDesc) (legal : W64 → Bool) (steps : W64 → Slot → Nat) (c t : Nat) (w : W64)
    (body : Slot → State → State) (s : State) : Host.Outcome State Fault Refusal :=
  if !(decide (c < Config.nCores) && decide (t < 16)) then .refused .illFormed
  else if isOp w d.fmt d.op d.fence then .next (issueNext d (legal w) (steps w) c t w body s)
  else if opListed w then .refused .illFormed
  else .next (issueNext d false (steps w) c t w body s)

/-- An instruction that changes only its own slot, then goes on at the next address. -/
def issueSlot (d : InstrDesc) (legal : W64 → Bool) (c t : Nat) (w : W64) (f : Slot → Slot) (s : State) :
    Host.Outcome State Fault Refusal :=
  issue d legal (fun _ _ => 0) c t w (fun x s => putSlot c t (advance (f x)) s) s

/-- A scalar-class instruction (R115, R121). -/
def scalarDesc (fmt op : Nat) : InstrDesc := { fmt := fmt, op := op, pipe := 0, maskFree := true }

/-- A vector-class instruction. -/
def vectorDesc (fmt op : Nat) : InstrDesc := { fmt := fmt, op := op, pipe := 1, maskFree := false }

end Sys2Proof.Machine
end

