-- ==== Sys2Proof/Machine/TileOps.lean ====
section
/-! DEFINITION. Tile memory and the landing buffer as a core sees them (R122, R153, R154, R158, R159, R561 to R564). -/
namespace Sys2Proof.Machine

/-! ### Reading (R154) -/

/-- The newest landing-buffer entry for a sector of tile memory (R154); bank D begins at sector 6,144. -/
def landingOf (x : Core) (sec : Nat) : Option Landing :=
  if 6144 ≤ sec then (x.landing.filter fun e => e.sector == sec - 6144).getLast? else none

/-- A byte as a core-side master reads it (R154). -/
def tileByte (x : Core) (o : Nat) : Byte :=
  match landingOf x (o / 64) with
  | some e => e.data.getD (o % 64) 0
  | none => memRead x.tile o

/-- `n` bytes from an offset. -/
def tileBytes (x : Core) (o n : Nat) : List Byte := (List.range n).map fun i => tileByte x (o + i)

/-- A sector is poisoned for a core-side master (R158, R561). -/
def tilePoisoned (x : Core) (sec : Nat) : Bool :=
  match landingOf x sec with
  | some e => e.poison
  | none => x.poison.contains sec

/-- The sectors of `n` bytes from an offset. -/
def sectorsOf (o n : Nat) : List Nat := if n = 0 then [] else (List.range ((o + n - 1) / 64 - o / 64 + 1)).map (o / 64 + ·)

/-- A stored word of a sector is read with an injected error in it (R158, R567): corrected and written back later, or
uncorrectable and the sector poisoned. -/
def detectTile (c sec : Nat) (s : State) : State :=
  match s.errs.planted.find? fun e => e.1 == 0 && e.2.1 == 8192 * c + sec with
  | none => s
  | some e =>
    let s := { s with errs := { s.errs with planted := s.errs.planted.erase e } }
    let g := globalOf s (tileAddr c (64 * sec))
    if e.2.2 = 0 then
      errReport { cls := 0, source := 0, cause := 1, place := coreRef c, addr := g, injected := true }
        (bump 0x2104 1 (modCore c (fun x => { x with eccPending := ladd x.eccPending sec }) s))
    else
      errReport { cls := 1, source := 0, cause := 2, place := coreRef c, addr := g, injected := true }
        (bump 0x2104 2 (modCore c (fun x => { x with poison := ladd x.poison sec }) s))

/-- Reading sectors of the banks detects what is wrong with them (R158). -/
def touchTile (c o n : Nat) (s : State) : State :=
  (sectorsOf o n).foldl (fun s k => if (landingOf (coreGet s c) k).isSome then s else detectTile c k s) s

/-- The first poisoned sector of a range. -/
def firstPoison (x : Core) (o n : Nat) : Option Nat := (sectorsOf o n).find? (tilePoisoned x)

/-! ### Writing (R154, R159, R563) -/

/-- Put bytes into a 64-byte string at an offset. -/
def patch (d : List Byte) (off : Nat) (bs : List Byte) : List Byte :=
  slice d 0 off ++ bs ++ slice d (off + bs.length) (64 - off - bs.length)

/-- A sector's poison after a write (R563). -/
def poisonAfter (old p whole : Bool) : Bool := p || (old && !whole)

/-- Merge a write into the first entry of a list for a sector. -/
def mergeEntry (sec off : Nat) (bs : List Byte) (p : Bool) : List Landing → List Landing
  | [] => []
  | e :: t =>
    if e.sector = sec then
      { e with data := patch e.data off bs, poison := poisonAfter e.poison p (bs.length == 64) } :: t
    else e :: mergeEntry sec off bs p t

/-- Set or clear a member of a set. -/
def setMember (l : List Nat) (k : Nat) (b : Bool) : List Nat := if b then ladd l k else lremove l k

/-- Write bytes of one sector into its bank, as a device-side master does. -/
def bankWriteSec (x : Core) (o : Nat) (bs : List Byte) (p : Bool) : Core :=
  { x with
    tile := memWriteN x.tile o bs
    poison := setMember x.poison (o / 64) (poisonAfter (x.poison.contains (o / 64)) p (bs.length == 64)) }

/-- Write bytes of one sector as a core-side master does: into the newest landing entry where there is one (R154). -/
def tileWriteSec (x : Core) (o : Nat) (bs : List Byte) (p : Bool) : Core :=
  if (landingOf x (o / 64)).isSome then
    { x with landing := (mergeEntry (o / 64 - 6144) (o % 64) bs p x.landing.reverse).reverse }
  else bankWriteSec x o bs p

/-- Split a write at sector boundaries. -/
def splitSectors : Nat → Nat → List Byte → List (Nat × List Byte)
  | 0, _, _ => []
  | _, _, [] => []
  | fuel + 1, o, bs =>
    let n := 64 - o % 64
    (o, bs.take n) :: splitSectors fuel (o + n) (bs.drop n)

/-- Injected errors of sectors that a write covers whole are overwritten (R567). -/
def unplantTile (c o n : Nat) (s : State) : State :=
  { s with errs := { s.errs with planted := s.errs.planted.filter fun e =>
      !(e.1 == 0 && decide (e.2.1 / 8192 = c ∧ o ≤ e.2.1 % 8192 * 64 ∧ e.2.1 % 8192 * 64 + 64 ≤ o + n)) } }

/-- Write bytes of tile memory as a core-side master does. -/
def tileWrite (c o : Nat) (bs : List Byte) (p : Bool) (s : State) : State :=
  unplantTile c o bs.length
    (modCore c (fun x => (splitSectors (bs.length + 1) o bs).foldl (fun x e => tileWriteSec x e.1 e.2 p) x) s)

/-- Write bytes of tile memory as a DMA does: into the banks, whatever waits in the landing buffer (R154). -/
def dmaTileWrite (c o : Nat) (bs : List Byte) (p : Bool) (s : State) : State :=
  unplantTile c o bs.length
    (modCore c (fun x => (splitSectors (bs.length + 1) o bs).foldl (fun x e => bankWriteSec x e.1 e.2 p) x) s)

/-! ### Operands of TILE-format instructions (R122) -/

/-- A tile operand: its offset, length, the bank it must lie in, and whether it is written. -/
structure TileOpnd where
  off : Nat
  len : Nat
  bank : Option Nat := none
  dst : Bool := false
  deriving DecidableEq, Repr

/-- An operand is out of bounds: beyond tile memory, across its bank's end, or in the wrong bank (R122, R125, R135). -/
def outOfBounds (o : TileOpnd) : Bool :=
  decide (0x80000 ≤ o.off) || decide (131072 < o.off % 131072 + o.len) || (match o.bank with
    | some b => o.off / 131072 != b
    | none => false)

/-- Two byte ranges overlap. -/
def overlaps (a b : TileOpnd) : Bool := decide (a.off < b.off + b.len ∧ b.off < a.off + a.len)

/-- A destination overlaps a source (R122). -/
def overlapBad (l : List TileOpnd) : Bool :=
  l.any fun d => d.dst && l.any fun a => !a.dst && overlaps d a

/-- An accumulator operand: entry index and number of entries. -/
def accBad (x : Core) (gb : Nat) (a : Nat × Nat) : Bool :=
  let b := sget {} x.barriers gb
  a.1 % 256 != 0 || decide (a.1 < b.accBase) || decide (b.accBase + b.accLen < a.1 + a.2)

/-- The exception that the operands of a TILE-format instruction raise, lowest code first, with its address (R122,
R125). -/
def tileCheck (x : Core) (gb : Nat) (l : List TileOpnd) (acc : Option (Nat × Nat)) (inPlace extra : Bool) :
    Option (Nat × Nat) :=
  match l.find? fun o => o.off % 64 != 0 with
  | some o => some (4, o.off)
  | none =>
    if extra then some (4, 0)
    else
      match l.find? outOfBounds with
      | some o => some (5, o.off)
      | none =>
        if !inPlace && overlapBad l then some (6, ((l.find? (·.dst)).map (·.off)).getD 0)
        else
          match acc with
          | some a => if accBad x gb a then some (7, 0) else none
          | none => none

/-! ### Elements of tiles (R122, R135) -/

/-- Element number `i` of an array of `n`-bit elements packed low bit first. -/
def elemAt (x : Core) (base n i : Nat) : Nat :=
  leNat (tileBytes x (base + i * n / 8) (if n ≤ 8 then 2 else n / 8)) / 2 ^ (i * n % 8) % 2 ^ n

/-- Pack `n`-bit element codes into bytes, low bit first. -/
def packElems (n : Nat) (l : List Nat) : List Byte :=
  leBytes (l.length * n / 8) (l.foldr (fun e acc => e % 2 ^ n + 2 ^ n * acc) 0)

/-- Bytes of an array of `rows` × `k` elements of a type code, with the scales of an MX type after it (R135). -/
def operandBytes (code rows k : Nat) : Nat := rows * k * elemBits code / 8 + (if isMx code then rows * (k / 32) else 0)

/-- The scale byte of a block of an MX operand (R135). -/
def scaleAt (x : Core) (code base rows k row blk : Nat) : Nat :=
  (tileByte x (base + rows * k * elemBits code / 8 + row * (k / 32) + blk)).toNat

end Sys2Proof.Machine
end

