-- ==== Sys2Proof/Machine/TileMem.lean ====
section
/-! DEFINITION. L1 write-backs, the tile window, the landing buffer's drain, ECC write-back, and retention of sections
(R83, R145, R151 to R165). -/
namespace Sys2Proof.Machine

/-! ### L1 write-backs (R97, R145, R233) -/

/-- Byte enables of a mask with a line's bytes. -/
def maskedBytes (m : W64) (d : List Byte) : List (Bool × Byte) :=
  (List.range 64).map fun i => (m.getLsbD i, d.getD i 0)

/-- The write request that carries a dirty line to the UC. -/
def lineReq (c id key : Nat) (l : L1Line) : UcReq :=
  { src := .core c, txn := id, addr := 64 * key, near := l.near, hint := l.hint, scratch := l.scratch,
    bwClass := l.bwClass, ctx := l.ctx, part := ctxPart l.ctx, write := some (maskedBytes l.dirty l.data),
    poison := l.poison }

/-- Where an operation past the L1 is acknowledged, by its address (R31, R33, R144). -/
def scopeOf (s : State) (g : Nat) : HomeScope :=
  if g / 2 ^ 56 != devId s then .otherDevice else if g / 2 ^ 52 % 16 = 1 then .host else .thisDevice

/-- Send a write past the L1: it stays outstanding until it is acknowledged. -/
def pushStore (c t : Nat) (f : Nat → UcReq) (s : State) : State :=
  let k := coreGet s c
  let r := f k.nextId
  setCore c { k with nextId := k.nextId + 1, stores := k.stores ++ [⟨k.nextId, t, scopeOf s r.addr, r⟩] } s

/-- Write back one dirty line, leaving it valid; slot 16 stands for the core itself. -/
def writeBackLine (c t key : Nat) (s : State) : State :=
  match sfind (coreGet s c).l1d key with
  | none => s
  | some l =>
    if l.dirty = 0 then s
    else pushStore c t (fun id => lineReq c id key l)
      (modCore c (fun k => { k with l1d := sput k.l1d key { l with dirty := 0 } }) s)

/-- Write back every dirty line of a core. -/
def writeBackAll (c : Nat) (s : State) : State :=
  (coreGet s c).l1d.foldl (fun s e => writeBackLine c 16 e.1 s) s

/-- A core's registers, L1 and landing buffer are not held (R162); its tile memory is. -/
def forgetCore (k : Core) : Core :=
  { k with slots := [], barriers := [], acc := [], l1d := [], l1i := [], landing := [], xlat := [], lastIssue := [] }

/-- Zero a core for another context (R474): tile memory, register files, accumulators; the L1s are invalidated. -/
def zeroCore (k : Core) : Core :=
  { forgetCore k with tile := [], poison := [], eccPending := [], loads := [], owner := none }

def zeroSection (sec : Nat) (s : State) : State :=
  { s with cores := s.cores.map fun e => if coreSection e.1 = sec then (e.1, zeroCore e.2) else e }

/-! ### Device-side accesses to tile memory (R154, R165) -/

/-- Read a sector of the banks as a DMA does: bytes and poison. -/
def dmaTileRead (c sec : Nat) (s : State) : (List Byte × Bool) × State :=
  let s := detectTile c sec s
  let k := coreGet s c
  ((memReadN k.tile (64 * sec) 64, k.poison.contains sec), s)

/-- Write the enabled bytes of a sector as a DMA does. -/
def dmaTileMasked (c sec : Nat) (bs : List (Bool × Byte)) (p : Bool) (s : State) : State :=
  let whole := decide (64 ≤ bs.length) && bs.all (·.1)
  let s := if whole then unplantTile c (64 * sec) 64 s else s
  modCore c (fun x => { x with
    tile := memWriteMasked x.tile (64 * sec) bs
    poison := setMember x.poison sec (poisonAfter (x.poison.contains sec) p whole) }) s

/-! ### Retention (R162 to R164) -/

def setRet (sec : Nat) (v : RetState) (s : State) : State := { s with ret := { s.ret with st := sput s.ret.st sec v } }

/-- Sections of a C-die that are waking. -/
def wakingOn (s : State) (die : Nat) : Nat := (s.ret.st.filter fun e => e.1 / 36 == die && e.2 == .waking).length

/-- Add to a list in increasing order. -/
def insertSorted (k : Nat) : List Nat → List Nat
  | [] => [k]
  | x :: t => if k = x then x :: t else if k < x then k :: x :: t else x :: insertSorted k t

/-- Begin to wake RETAINED sections asked for, at most 8 of a C-die at a time, lowest first (R164). -/
def startWakes (die : Nat) (s : State) : State :=
  let l := (s.ret.wakeQueue.filter fun x => x / 36 == die && s.ret.get x == .retained).take (8 - wakingOn s die)
  l.foldl (fun s x => setRet x .waking s)
    { s with ret := { s.ret with wakeQueue := s.ret.wakeQueue.filter fun x => !l.contains x } }

/-- Wake a section (R163): no change where it is ACTIVE, WAKING or asked for already. -/
def wakeSection (sec : Nat) (s : State) : State :=
  match s.ret.get sec with
  | .active => s
  | .waking => s
  | _ => startWakes (sec / 36) { s with ret := { s.ret with wakeQueue := insertSorted sec s.ret.wakeQueue } }

/-- A DMA access reaches the tile memory of a core: its section is woken where it is RETAINED or WAKING (R165). -/
def wakeFor (c : Nat) (s : State) : State :=
  match s.ret.get (coreSection c) with
  | .retained => wakeSection (coreSection c) (bump 0x2105 7 s)
  | .waking => bump 0x2105 7 s
  | _ => s

/-- Every slot of the section's cores is FREE and its landing buffers are empty (R163). -/
def sectionIdle (s : State) (sec : Nat) : Bool :=
  (sectionCores sec).all fun c =>
    (coreGet s c).landing.isEmpty && (coreGet s c).slots.all fun e => e.2.st == .free

/-- Begin to retain a section: its L1s are written back (R162). -/
def retainSection (sec : Nat) (s : State) : State :=
  if s.ret.get sec = .active && sectionIdle s sec then
    (sectionCores sec).foldl (fun s c => writeBackAll c s) (setRet sec .entering s)
  else s

/-- RET_WAKE (R163). -/
def execRetWake (sec : Nat) (s : State) : Host.Outcome State Fault Refusal :=
  if sec < 144 then .next (ok (wakeSection sec s)) else .refused .illFormed

/-- RET_RETAIN (R163): SECTION_OCCUPIED where the section is not idle. -/
def execRetRetain (sec : Nat) (s : State) : Host.Outcome State Fault Refusal :=
  if 144 ≤ sec then .refused .illFormed
  else
    match s.ret.get sec with
    | .active => .next (if sectionIdle s sec then ok (retainSection sec s) else failed 1 s)
    | .waking => .next (if sectionIdle s sec then
        ok ((sectionCores sec).foldl (fun s c => writeBackAll c s) (setRet sec .entering s)) else failed 1 s)
    | _ => .next (ok { s with ret := { s.ret with wakeQueue := s.ret.wakeQueue.filter (· != sec) } })

/-- RETAIN_DONE: registers, L1 and landing buffer are no longer held (R162); a wake asked for meanwhile begins. -/
def execRetainDone (sec : Nat) (s : State) : Host.Outcome State Fault Refusal :=
  if s.ret.get sec = .entering then
    let s := setRet sec .retained ((sectionCores sec).foldl (fun s c => modCore c forgetCore s) s)
    .next (startWakes (sec / 36) (logEvent 0x2102 (sec + 1) 0 [2] s))
  else .next s

/-! ### The tile window (R35, R36, R154, R165) -/

/-- Perform an access of the tile window; one that waits for no section. -/
def tileAccess (addr : Nat) (w : Option (List (Bool × Byte))) (s : State) : State :=
  let c := addr % 2 ^ 40 / 2 ^ 20
  let sec := addr % 2 ^ 20 / 64
  match w with
  | none => let r := dmaTileRead c sec s; reply .host 0 addr r.1.1 r.1.2 0 r.2
  | some bs => reply .host 0 addr [] false 0 (dmaTileMasked c sec bs false s)

/-- TILE_WINDOW_ACCESS: one sector through the window of R35; a write carries the sector's byte enables. An access to a
section that is RETAINED or WAKING is held and wakes it (R165). -/
def execTileWindowAccess (addr : Nat) (data : Option (List (Bool × Byte))) (s : State) :
    Host.Outcome State Fault Refusal :=
  if addr / 2 ^ 40 = 1 && decide (addr % 2 ^ 40 / 2 ^ 20 < Config.nCores) then
    let sec := coreSection (addr % 2 ^ 40 / 2 ^ 20)
    if 0x80000 ≤ addr % 2 ^ 20 then .next (reply .host 0 addr [] false 5 s)
    else
      if s.ret.get sec = .retained || s.ret.get sec = .waking then
        .next (wakeFor (addr % 2 ^ 40 / 2 ^ 20) { s with ret := { s.ret with held := s.ret.held ++ [⟨addr, data⟩] } })
      else .next (tileAccess addr data s)
  else .next (reply .host 0 addr [] false 5 s)

/-- Every section of a partition that was being made or resized is ACTIVE: the command has completed (R460). -/
def partsReady (s : State) : State :=
  { s with work := { s.work with parts := s.work.parts.map fun e =>
    (e.1, if e.2.st = .changing && !e.2.destroying && e.2.sections.all (fun x => s.ret.get x == .active) then
            { e.2 with st := .active } else e.2) } }

/-! ### Banks and the landing buffer (R152, R153, R156, R158) -/

/-- Bit of a master in STARVE_SCOPE (R166). -/
def masterBit : Master → Nat
  | .tuA => 0
  | .tuB => 1
  | .lsu => 2
  | .drain => 3
  | .dma => 4

/-- STARVE_EVENT: a counted master's counter reaches STARVE_THRESHOLD (R152). The counters themselves are time, which the
sender keeps. -/
def execStarveEvent (core bank : Nat) (m : Master) (s : State) : Host.Outcome State Fault Refusal :=
  if 4608 ≤ core || 4 ≤ bank then .refused .illFormed
  else if bit (num s 0x6101 1 0x10) (masterBit m) then
    let s := bump 0x2101 2 s
    .next (logRec { index := 0x2101, sub := 2, sev := 2,
                    payload := leBytes 4 (num s 0x2101 2 0) ++ leBytes 2 (coreRef core) ++ leBytes 1 bank ++
                      leBytes 1 (masterBit m) } s)
  else .next s

/-- The highest occupancy of any landing buffer (R156). -/
def landingHigh (s : State) : Nat := ((s.cores.map fun e => e.2.landing.length).max?).getD 0

/-- DRAIN: the oldest entry is written into bank D (R153). -/
def execDrain (core : Nat) (s : State) : Host.Outcome State Fault Refusal :=
  let k := coreGet s core
  match k.landing with
  | [] => .next s
  | e :: t =>
    let s := setCore core (bankWriteSec { k with landing := t } (0x60000 + 64 * e.sector) (slice e.data 0 64) e.poison) s
    let s := unplantTile core (0x60000 + 64 * e.sector) 64 s
    .next (wmEval 0 (landingHigh s) s)

/-- ECC_WRITEBACK: a corrected sector is written back; the bytes are the corrected ones already (R158). -/
def execEccWriteback (core sector : Nat) (s : State) : Host.Outcome State Fault Refusal :=
  .next (modCore core (fun x => { x with eccPending := lremove x.eccPending sector }) s)

end Sys2Proof.Machine
end

