-- ==== Sys2Proof/Machine/Lath.lean ====
section
/-! DEFINITION. The Lath mesh: schedules, slot tables, injectors, landing of words, and LATH.WAIT (R189 to R200, R472). -/
namespace Sys2Proof.Machine

def routerGet (s : State) (c : Nat) : LathRouter := sget {} s.lath.routers c
def setRouter (c : Nat) (r : LathRouter) (s : State) : State :=
  { s with lath := { s.lath with routers := sput s.lath.routers c r } }
def schedGet (s : State) (ctx : Nat) : LathSched := sget {} s.lath.scheds ctx
def setSched (ctx : Nat) (x : LathSched) (s : State) : State :=
  { s with lath := { s.lath with scheds := sput s.lath.scheds ctx x } }

/-- Pinned latency P of a die (R198). -/
def lathP (s : State) (die : Nat) : Nat := sget 4 s.lath.p die

/-- A router switches in Lath cycle k: its context's schedule runs and has not stopped before it (R192, R472). -/
def lathRuns (s : State) (ctx k : Nat) : Bool :=
  let x := schedGet s ctx
  x.running && (match x.stoppedAt with
    | some e => decide (k < e)
    | none => true)

/-- The neighbour of a core's router on a side, and the side it is entered by (R189). -/
def lathNext (c : Nat) : LathPort → Option (Nat × LathPort)
  | .n => if coreLy c = 0 then none else some (c - 32, .s)
  | .s => if coreLy c = 35 then none else some (c + 32, .n)
  | .e => if coreLx c = 31 then none else some (c + 1, .w)
  | .w => if coreLx c = 0 then none else some (c - 1, .e)
  | _ => none

/-- Code of an input in a slot entry (R193). -/
def portCode : LathPort → Nat
  | .n => 1
  | .s => 2
  | .e => 3
  | .w => 4
  | .inj => 5
  | .core => 7

/-- The outputs of a slot entry, with the bit where each begins. -/
def lathOuts : List (LathPort × Nat) := [(.n, 0), (.s, 3), (.e, 6), (.w, 9), (.core, 12)]

/-- Send a word from the outputs that take an input in cycle k (R191, R193). -/
def switchWord (c k : Nat) (p : LathPort) (entry : W32) (word : LathWordData) (s : State) : State :=
  let l := (lathOuts.filter fun o => bits entry.toNat o.2 3 == portCode p).filterMap fun o =>
    match o.1 with
    | .core => some (LathFlight.mk c .core (k + lathP s (coreDie c)) word)
    | q => (lathNext c q).map fun n => LathFlight.mk n.1 n.2 (k + 2) word
  { s with lath := { s.lath with flight := s.lath.flight ++ l } }

/-- A fault of the Lath, once per context (R155, R195, R200). -/
def lathFault (ctx cause c : Nat) (s : State) : State :=
  ctxFault ctx { cause := cause, core := coreRef c, source := 4 } s

/-- The schedule has come to cycle k. -/
def noteCycle (ctx k : Nat) (s : State) : State :=
  let x := schedGet s ctx
  setSched ctx { x with k := max x.k k } s

/-- LATH_WORD: router `core` switches the word on an input in Lath cycle k of its context's schedule (R191 to R195, R200).
For INJ the word is the oldest of the injection queue. -/
def execLathWord (core : Nat) (port : LathPort) (k : Nat) (parityOk : Bool) (s : State) :
    Host.Outcome State Fault Refusal :=
  if 4608 ≤ core || port = .core then .refused .illFormed
  else
    let r := routerGet s core
    if !lathRuns s r.ctx k || r.tableLen = 0 then .next s
    else
      let s := noteCycle r.ctx k s
      let entry := sget 0 r.table (k % r.tableLen)
      if port = .inj then
        if !bit entry.toNat 15 then .next s
        else
          match r.queue with
          | [] => .next (lathFault r.ctx 3 core (bump 0x2301 1 s))
          | w :: t =>
            let w := { w with mc := bit entry.toNat 22, group := bits entry.toNat 16 6 }
            .next (switchWord core k .inj entry w (setRouter core { r with queue := t } s))
      else
        match s.lath.flight.find? fun f => f.core == core && f.port == port && f.cycle == k with
        | none => .next s
        | some f =>
          let s := { s with lath := { s.lath with flight := s.lath.flight.erase f } }
          if parityOk then .next (switchWord core k port entry f.word s)
          else
            let s := bump 0x2301 2 s
            let s := logRec { index := 0x2301, sub := 2, sev := 3, ctx := r.ctx, part := ctxPart r.ctx,
                              die := coreDie core, payload := leBytes 2 (coreRef core) ++ leBytes 1 f.word.group } s
            .next (lathFault r.ctx 4 core s)

/-- An injected error waits for the next word to land at a core (R567): its kind, and the state that has used it. -/
def takeInject (unit target : Nat) (s : State) : Option Nat × State :=
  match s.errs.injects.find? fun i => i.unit == unit && i.target == target && decide (0 < i.left) with
  | none => (none, s)
  | some i =>
    let l := s.errs.injects.erase i
    (some i.kind, { s with errs := { s.errs with
      injects := if i.left ≤ 1 then l else { i with left := i.left - 1 } :: l } })

/-- LATH_WORD_LAND: the word switched to CORE that arrives in Lath cycle k is accepted into the landing buffer (R153, R155,
R165, R200). -/
def execLathWordLand (core k : Nat) (ecc : Ecc) (s : State) : Host.Outcome State Fault Refusal :=
  match s.lath.flight.find? fun f => f.core == core && f.port == .core && f.cycle == k with
  | none => .next s
  | some f =>
    let s := { s with lath := { s.lath with flight := s.lath.flight.erase f } }
    let ret := s.ret.get (coreSection core)
    let x := coreGet s core
    if ret = .retained || ret = .waking then .next (bump 0x2105 8 s)
    else if 128 ≤ x.landing.length then
      let s := bump 0x2105 1 s
      .next (match x.owner with
        | some c => lathFault c 2 core s
        | none => s)
    else
      let i := takeInject 1 (coreRef core) s
      let inj := i.1.isSome
      let e : Ecc := match i.1 with
        | some 0 => if ecc = .double then .double else .single
        | some _ => .double
        | none => ecc
      let s := i.2
      let g := globalOf s (tileAddr core (0x60000 + 64 * f.word.sector))
      let e := if f.word.poison then .clean else e
      let s := match e with
        | .clean => s
        | .single => errReport { cls := 0, source := 1, cause := 1, place := coreRef core, addr := g, injected := inj }
            (bump 0x2301 3 s)
        | .double => errReport { cls := 1, source := 1, cause := 2, place := coreRef core, addr := g, injected := inj }
            (bump 0x2301 4 s)
      let s := modCore core (fun x => { x with
        landing := x.landing ++ [⟨f.word.sector, f.word.data, f.word.poison || e == .double⟩] }) s
      .next (wmEval 0 (landingHigh s) s)

/-- Where the injector reads next: it reads ahead to the end of its list, and once the schedule runs on from its start, since
the list holds one entry for each INJ entry of a pass (R192, R194, R409). -/
def injNext (running : Bool) (r : LathRouter) : Nat :=
  if running && decide (r.injList.length ≤ r.injPos) then 0 else r.injPos

/-- INJ_REFILL: the injector reads the next source sector of its list into its queue (R194). A poisoned source leaves with
zero data (R561). -/
def execInjRefill (core : Nat) (s : State) : Host.Outcome State Fault Refusal :=
  let r := routerGet s core
  let pos := injNext (schedGet s r.ctx).running r
  if r.queue.length < 32 && pos < r.injList.length then
    let e := (r.injList.getD pos 0).toNat
    let d := dmaTileRead core (bits e 0 13) s
    let w : LathWordData := { data := if d.1.2 then List.replicate 64 0 else d.1.1, sector := bits e 16 11, mc := false,
                              group := 0, poison := d.1.2 }
    .next (setRouter core { r with queue := r.queue ++ [w], injPos := pos + 1 } d.2)
  else .next s

/-- Every injector of a context has filled its queue or exhausted its list (R192). -/
def injectorsReady (s : State) (ctx : Nat) : Bool :=
  s.lath.routers.all fun e => e.2.ctx != ctx || e.2.tableLen == 0 || decide (32 ≤ e.2.queue.length) ||
    decide (e.2.injList.length ≤ e.2.injPos)

/-- LATH_SCHEDULE_START (R192, R472, R475): the schedule of a context's launch starts at cycle 0, or goes on at the saved
cycle k_s. -/
def execLathScheduleStart (ctx : Nat) (s : State) : Host.Outcome State Fault Refusal :=
  let x := ctxGet s ctx
  if !(schedGet s ctx).running && x.launch.isSome && injectorsReady s ctx then
    let back := sget [] s.lath.savedFlight ctx
    .next (setSched ctx { running := true, k := if x.restoring then x.kS else 0, stoppedAt := none }
      { s with lath := { s.lath with flight := s.lath.flight ++ back, savedFlight := sdel s.lath.savedFlight ctx } })
  else .next s

/-- LATH_STOP (R472): a stop of the schedule at cycle k is broadcast, at least 2,048 cycles ahead. -/
def execLathStop (ctx k : Nat) (s : State) : Host.Outcome State Fault Refusal :=
  let x := schedGet s ctx
  if x.running && x.stoppedAt.isNone && (ctxGet s ctx).stop.isSome && decide (x.k + 2048 ≤ k) then
    .next (modCtx ctx (fun c => { c with kS := k }) (setSched ctx { x with stoppedAt := some k } s))
  else .next s

/-- The Lath slot counter of a core (R199). -/
def slotCounter (s : State) (c ctx : Nat) : Nat :=
  let x := schedGet s ctx
  (match x.stoppedAt with
    | some e => min x.k e
    | none => x.k) - lathP s (coreDie c)

/-- LATH.WAIT (R119, R199): waits until the slot counter reaches IMM16 + S[A]. -/
def execLathWait (core slot : Nat) (w : W64) (s : State) : Host.Outcome State Fault Refusal :=
  issue { fmt := 5, op := 7, pipe := 4, maskFree := true } (fun w => okCtl 1 w && decide (iA w < 32)) (fun _ _ => 0) core
    slot w (fun x s =>
      if (BitVec.ofNat 64 (iImm16 w) + sRead x (iA w)).toNat ≤ slotCounter s core x.ctx then
        putSlot core slot (advance x) s
      else putSlot core slot { x with st := .waitDep } s) s

end Sys2Proof.Machine
end

