-- ==== Sys2Proof/Machine/Loss.lean ====
section
/-! DEFINITION. Units that go out of service: a C-die, a B-die, a stack pair; and the end of a partition (R277, R354, R422,
R461, R533, R554). -/
namespace Sys2Proof.Machine

/-! ### Plans and partitions (R422, R461) -/

/-- Free the multicast groups of a plan (R197, R422). -/
def freeGroups (die : List Nat) (s : State) : State :=
  { s with lath := { s.lath with groups := s.lath.groups.filter fun e => !die.contains e.1 } }

/-- Unload the plans of a context that satisfy a test; their groups are keyed 64 × die + group. -/
def unloadPlans (ctx : Nat) (p : Plan → Bool) (s : State) : State :=
  let x := ctxGet s ctx
  let gone := x.plans.filter fun e => p e.2
  let s := gone.foldl (fun s e => freeGroups e.2.groups s) s
  setCtx ctx { x with plans := x.plans.filter fun e => !p e.2 } s

/-- The contexts of a partition that exist. -/
def partCtxs (s : State) (p : Nat) : List Nat :=
  ((List.range 16).map (16 * p + ·)).filter fun c => (ctxGet s c).st != .none

/-- Remove a context from the device: plans, ring, cached translations, Lath schedule. -/
def eraseCtx (c : Nat) (s : State) : State :=
  let s := unloadPlans c (fun _ => true) s
  { s with
    work := { s.work with ctxs := sdel s.work.ctxs c }
    host := { s.host with rings := sdel s.host.rings c }
    lath := { s.lath with
      scheds := sdel s.lath.scheds c
      savedFlight := sdel s.lath.savedFlight c
      routers := s.lath.routers.filter fun e => e.2.ctx != c || e.2.tableLen == 0 }
    cores := s.cores.map fun e => (e.1, { e.2 with xlat := e.2.xlat.filter fun x => x.ctx != c }) }

/-- Free the sections of a list: zeroed, and retained while RETAIN_FREE is 1 (R461, R485). -/
def freeSections (l : List Nat) (s : State) : State :=
  let s := l.foldl (fun s x => zeroSection x s) s
  if num s 0x2C05 1 1 = 1 then l.foldl (fun s x => retainSection x s) s else s

/-- The end of a destroy: contexts, reservations, shares and VF mapping go, sections are zeroed and freed (R461). -/
def finishDestroy (p : Nat) (s : State) : State :=
  let l := (partGet s p).sections
  let s := (partCtxs s p).foldl (fun s c => eraseCtx c s) s
  let s := { s with
    hbm := { s.hbm with
      res := s.hbm.res.filter fun e => e.1 / 4 != p
      buckets := s.hbm.buckets.filter fun e => e.1 / 4 != p }
    work := { s.work with
      parts := sdel s.work.parts p
      arrays := s.work.arrays.map fun e => (e.1, { e.2 with share := sdel e.2.share p }) }
    host := { s.host with vfMap := s.host.vfMap.filter fun e => e.2.part != p } }
  freeSections l (shortEval s)

/-- A destroy goes on once every context of the partition has been torn down. -/
def destroyStep (p : Nat) (s : State) : State :=
  if (partGet s p).destroying && (partCtxs s p).all (fun c => (ctxGet s c).st == .faulted) then finishDestroy p s else s

/-- Begin to destroy a partition: its contexts are stopped urgently and in parallel (R461, R481). -/
def beginDestroy (p : Nat) (s : State) : State :=
  let s := modPart p (fun x => { x with st := .changing, destroying := true }) s
  destroyStep p ((partCtxs s p).foldl (fun s c => ctxFault c { cause := 0xA, source := 6 } s) s)

/-! ### A C-die out of service (R458, R533) -/

/-- Sections of a C-die leave their partitions; the contexts that used them are faulted; an empty partition is destroyed. -/
def dieSectionsOut (n code : Nat) (s : State) : State :=
  s.work.parts.foldl (fun s e =>
    if e.2.st != .none && e.2.sections.any (fun x => x / 36 == n) then
      let p := e.1
      let s := (partCtxs s p).foldl (fun s c =>
        unloadPlans c (fun pl => pl.sections.any fun x => x / 36 == n)
          (ctxFault c { cause := 9, code := code, source := 0 } s)) s
      let s := modPart p (fun x => { x with sections := x.sections.filter fun y => y / 36 != n }) s
      if (partGet s p).sections.isEmpty then beginDestroy p s else s
    else s) s

/-- C-die n is out of service: its OUT_OF_SERVICE bit and what follows (R533, R554). -/
def cdieOut (n reason code : Nat) (s : State) : State :=
  if isOut s n then s else dieSectionsOut n code (takeOut (2 ^ n) reason s)

/-! ### A B-die lost (R277, R336, R354, R533) -/

/-- The ports of a B-die are OFF with reason BDIE_LOST (R354). -/
def portsOff (n : Nat) (s : State) : State :=
  let l := (List.range 6).map (6 * n + ·)
  let any := l.any fun p => (portGet s p).st == .active
  let s := l.foldl (fun s p => modPort p (fun x => { x with st := .off, reason := 0xC, peer := none }) s) s
  let s := l.foldl (fun s p => rerouteHeld p s) s
  if any then floodLsa s else s

/-- B-die n is lost, and C-die n with it: the stack pair is out of service. -/
def bDieLost (n reason code : Nat) (s : State) : State :=
  if s.helda.lost.contains n then s
  else
    let s := { s with helda := { s.helda with lost := ladd s.helda.lost n } }
    let s := takeOut (2 ^ n + 2 ^ (4 + n)) reason s
    portsOff n (homeDieLost n (dieSectionsOut n code s))

/-- A FATAL error of a B-die (R240, R264) or of a stack pair (R216): its record, and the loss. R552 lists no
READY_REASON for these causes: a free value (notes/assumptions/23.md). -/
def fatalDie (n source cause place : Nat) (addr : Nat) (injected : Bool) (s : State) : State :=
  let f := draw s
  bDieLost n (f.1 % 65536) cause
    (errReport { cls := 3, source := source, cause := cause, place := place, addr := addr, injected := injected } f.2)

/-- A protocol error at an agent (R264): counted, and fatal for its die. The IOD, die of the control cores, has no home to
lose (R277). -/
def protoError (a : Agent) (addr : Nat) (s : State) : State :=
  let s := bump 0x2501 1 s
  match a with
  | .slice k => fatalDie (k / 64) 5 0x12 k addr false s
  | _ => errReport { cls := 3, source := 5, cause := 0x12, place := 8, addr := addr } s

end Sys2Proof.Machine
end

