-- ==== Sys2Proof/Machine/ScrimNet.lean ====
section
/-! DEFINITION. Scrim: nodes, routing, arbitration tiers, the QoS classifier, replicated and broadcast packets, and damaged
flits (R20, R21, R201 to R217). -/
namespace Sys2Proof.Machine

/-! ### Nodes (R201, R202) -/

def nX (n : Nat) : Nat := n % 64
def nY (n : Nat) : Nat := n / 64 % 64
def nStack (n : Nat) : Nat := n / 4096 % 8
/-- On the B-mesh. -/
def nB (n : Nat) : Bool := n / 32768 % 2 = 1

def cNode (st x y : Nat) : Nat := x + 64 * y + 4096 * st
def bNode (st x y : Nat) : Nat := x + 64 * y + 4096 * st + 32768

def iodNode : Nat := 0x4000
def sitePNode : Nat := 0x5000

/-- A node ID that names a router or an endpoint. -/
def nodeOk (n : Nat) : Bool :=
  if nStack n < 4 then decide (n < 65536) && decide (nX n < 32) && (if nB n then decide (nY n < 24) else decide (nY n < 36))
  else n == iodNode || n == sitePNode

/-- C-mesh row joined to a B-mesh row, and the B-mesh row joined to a C-mesh row (R201). -/
def upRow (by_ : Nat) : Nat := by_ + by_ / 2
def downRow (cy : Nat) : Nat := 2 * (cy / 3) + cy % 3

/-- A B-router with an attachment at an edge of its mesh (R203, R205). -/
def edgeNode (n : Nat) : Bool := nB n && decide (nStack n < 4) && (nY n == 0 || nX n == 0 || nY n == 23 || nX n == 31)

/-! ### Helda links between stack pairs (R18, R20, R21) -/

/-- Position on the ring 0, 1, 3, 2, and back. Link i joins positions i and i + 1. -/
def ringPos (n : Nat) : Nat := if n = 2 then 3 else if n = 3 then 2 else n

/-- Both ends of a link are ACTIVE. -/
def linkUp (s : State) (j : Nat) : Bool :=
  (sget {} s.helda.ends (2 * j)).st == .active && (sget {} s.helda.ends (2 * j + 1)).st == .active

/-- The ring link by which traffic from one B-die to another leaves, for a line address. -/
def ringLink (s : State) (src dst addr : Nat) : Nat :=
  let p := ringPos src
  let cw := (ringPos dst + 4 - p) % 4
  let right := p
  let left := (p + 3) % 4
  match cw with
  | 1 => if linkUp s right then right else left
  | 3 => if linkUp s left then left else right
  | _ =>
    let r := linkUp s right && linkUp s ((p + 1) % 4)
    let l := linkUp s left && linkUp s ((p + 2) % 4)
    if Config.diagHash (addr / 1024) then (if r || !l then right else left) else (if l || !r then left else right)

/-- The ring neighbours of a B-die, lower number first. -/
def ringNeighbours (n : Nat) : List Nat := if n = 0 || n = 3 then [1, 2] else [0, 3]

/-- The B-die whose IOD link serves B-die n: its own, or the lower-numbered ring neighbour's that is in service (R334). -/
def iodVia (s : State) (n : Nat) : Nat :=
  if linkUp s (4 + n) then n else ((ringNeighbours n).find? fun m => linkUp s (4 + m)).getD n

/-- The link toward a stack number (4 the IOD, 5 site P). -/
def linkToward (s : State) (src dst addr : Nat) : Nat :=
  if src = 5 then 8
  else if src = 4 then (if dst = 5 then 8 else 4 + iodVia s dst)
  else if 4 ≤ dst then (if iodVia s src = src then 4 + src else ringLink s src (iodVia s src) addr)
  else ringLink s src dst addr

/-- The stack number at the other end of a link. -/
def linkOther (j src : Nat) : Nat :=
  match j with
  | 0 => if src = 0 then 1 else 0
  | 1 => if src = 1 then 3 else 1
  | 2 => if src = 3 then 2 else 3
  | 3 => if src = 2 then 0 else 2
  | 8 => if src = 4 then 5 else 4
  | _ => if src = 4 then j - 4 else 4

/-- The attachment of a link on a B-die for a line (R203, R204): one of the 55 routers of row 23 and column 31. -/
def heldaRouter (st j addr : Nat) : Nat :=
  let i := Config.heldaEntry st j (lineFold 5 addr) % 55
  if i < 32 then bNode st i 23 else bNode st 31 (i - 32)

/-! ### Routes (R207) -/

/-- X first, then Y. -/
def meshStep (n x y : Nat) : ScrimOut :=
  if nX n < x then .e else if x < nX n then .w else if nY n < y then .s else if y < nY n then .n else .here

/-- The output that a packet takes at a node toward a destination. -/
def routeOut (s : State) (n dst addr : Nat) : ScrimOut :=
  if n = dst then .here
  else if 4 ≤ nStack n then .helda (linkToward s (nStack n) (nStack dst) addr)
  else
    let far := nStack n != nStack dst
    let j := linkToward s (nStack n) (nStack dst) addr
    let t := if far then heldaRouter (nStack n) j addr else dst
    if nB n then
      if nB t then
        match meshStep n (nX t) (nY t) with
        | .here => if far then .helda j else .here
        | o => o
      else .up
    else if nB t then
      match meshStep n (nX t) (upRow (nY t)) with
      | .here => .down
      | o => o
    else meshStep n (nX t) (nY t)

/-- The node at the other side of an output. -/
def nextNode (n : Nat) (o : ScrimOut) (addr : Nat) : Nat :=
  match o with
  | .n => n - 64
  | .s => n + 64
  | .e => n + 1
  | .w => n - 1
  | .up => cNode (nStack n) (nX n) (upRow (nY n))
  | .down => bNode (nStack n) (nX n) (downRow (nY n))
  | .here => n
  | .helda j =>
    let t := linkOther j (nStack n)
    if t = 4 then iodNode else if t = 5 then sitePNode else heldaRouter t j addr

/-! ### Tiers (R208) and flits (R206) -/

/-- The tier of a waiting packet. -/
def tierOf (w : ScrimWait) : Nat :=
  match w.pkt.vc with
  | 5 => 1
  | 2 => 2
  | 3 => 2
  | 1 => if w.promoted then 2 else 3
  | _ => if w.promoted then 2 else 4

/-- Flits of a packet. -/
def pktFlits (p : ScrimPkt) : Nat := 1 + (p.list.length + 7) / 8 + (p.data.length + 31) / 32

/-- The highest occupancy of an edge router (R215). -/
def edgeHigh (s : State) : Nat :=
  ((s.scrim.waiting.map fun w =>
    if edgeNode w.node then
      ((s.scrim.waiting.filter fun v => v.node == w.node).map fun v => pktFlits v.pkt).sum
    else 0).max?).getD 0

/-! ### The classifier (R209 to R211) -/

def parseCls (b : List Byte) : ClsEntry :=
  { base := field b 0 8, lines := field b 8 4, part := bits (field b 12 1) 0 6, anyPart := bit (field b 12 1) 6,
    valid := bit (field b 12 1) 7, src := bits (field b 13 1) 0 6, cls := bits (field b 14 1) 0 2,
    prio := bits (field b 14 1) 2 3 }

/-- No Reserved bit of an entry is set. -/
def clsOk (b : List Byte) : Bool :=
  field b 0 8 % 1024 == 0 && bits (field b 13 1) 6 2 == 0 && bits (field b 14 1) 5 3 == 0 && field b 15 1 == 0

/-- The address is in the entry's range. -/
def clsHolds (e : ClsEntry) (a : Nat) : Bool := e.lines == 0 || (decide (e.base ≤ a) && decide (a < e.base + 1024 * e.lines))

/-- Two ranges, partition sets and source masks all intersect. -/
def clsMeet (a b : ClsEntry) : Bool :=
  (a.lines == 0 || b.lines == 0 || (decide (a.base < b.base + 1024 * b.lines) && decide (b.base < a.base + 1024 * a.lines))) &&
  (a.anyPart || b.anyPart || a.part == b.part) && a.src &&& b.src != 0

/-- The source bit of a packet at the node where it enters (assumption 25): none for a source that R209 does not list;
at the IOD, control core or host is free. -/
def srcBit (n : Nat) (p : ScrimPkt) (k : Nat) : Option Nat :=
  if n = iodNode then some (3 + k % 2)
  else if 4 ≤ nStack n then none
  else if !nB n then some (if p.vc = 4 then 1 else 0)
  else if nX n == 0 && p.src != n then some 5
  else if nY n = 12 && nX n % 4 = 1 then some 2
  else none

/-- The class of a packet that enters (R209, R210). -/
def classify (n : Nat) (p : ScrimPkt) (s : State) : ScrimPkt × State :=
  if p.vc != 0 && p.vc != 4 then (p, s)
  else
    let f := draw s
    let b := srcBit n p f.1
    let m := (List.range 32).filterMap fun i =>
      match sfind f.2.scrim.cls i with
      | some e => if e.valid && clsHolds e p.address && (e.anyPart || e.part == p.part) &&
          (match b with
           | some i => bit e.src i
           | none => false) then some e else none
      | none => none
    match (m.map (·.prio)).max? with
    | none => ({ p with qos := num s 0x2303 5 2 }, f.2)
    | some h =>
      let t := m.filter fun e => e.prio == h
      ({ p with qos := ((t.head?).map (·.cls)).getD 0 }, if 1 < t.length then bump64 0x2306 1 f.2 else f.2)

/-! ### Packets at a node (R207, R212, R213, R216) -/

/-- A packet has been consumed. -/
def scrimDeliver (n : Nat) (p : ScrimPkt) (s : State) : State :=
  { s with scrim := { s.scrim with delivered := s.scrim.delivered ++ [(n, p)] } }

/-- A packet waits at an output; beyond its first mesh it uses buffer set 1 (R205). -/
def waitAt (n : Nat) (o : ScrimOut) (p : ScrimPkt) (s : State) : State :=
  let leaves := match o with
    | .up | .down | .helda _ => true
    | _ => false
  { s with scrim := { s.scrim with
    waiting := s.scrim.waiting ++ [⟨n, o, if leaves then { p with set := 1 } else p, false⟩] } }

/-- Route a plain packet. -/
def routePkt (n : Nat) (p : ScrimPkt) (s : State) : State :=
  match routeOut s n p.dest p.address with
  | .here => scrimDeliver n p s
  | o => waitAt n o p s

/-- A copy that carries part of a replication list (R212). -/
def replCopy (p : ScrimPkt) (l : List (Nat × Nat)) : ScrimPkt :=
  match l with
  | [e] => { p with dest := e.1, txn := e.2, list := [] }
  | _ => { p with list := l }

/-- Split a replicated packet by the outputs of its entries. -/
def splitPkt (n : Nat) (p : ScrimPkt) (s : State) : State :=
  let outs := (p.list.map fun e => routeOut s n e.1 p.address).eraseDups
  outs.foldl (fun s o =>
    let l := p.list.filter fun e => routeOut s n e.1 p.address == o
    let s := bump64 0x2314 2 s
    match o with
    | .here => l.foldl (fun s e => scrimDeliver n (replCopy p [e]) s) s
    | o => waitAt n o (replCopy p l) s) s

/-- A broadcast at a node (R213): every core of the node's own stack pair if it is named, and a copy toward each other
stack pair named. -/
def castPkt (n : Nat) (p : ScrimPkt) (s : State) : State :=
  (List.range 4).foldl (fun s st =>
    if bit p.address st then
      if st = nStack n then
        (List.range 1152).foldl (fun s i => scrimDeliver (cNode st (i % 32) (i / 32)) p s) s
      else
        match routeOut s n (bNode st 0 0) p.address with
        | .here => s
        | o => waitAt n o { p with address := p.address / 16 * 16 + 2 ^ st } s
    else s) s

/-- A packet at a node. -/
def scrimAt (n : Nat) (p : ScrimPkt) (s : State) : State :=
  let s := if p.bcast && p.dest == 0xFFFF then castPkt n p s
    else if p.list.isEmpty then routePkt n p s
    else splitPkt n p s
  wmEval 1 (edgeHigh s) s

/-- What a router finds in a packet's data flits (R216, R567): a single-bit error is corrected, a double one poisons. -/
def dataDamage (n : Nat) (p : ScrimPkt) (dmg : Damage) (s : State) : ScrimPkt × State :=
  let q := if p.data.isEmpty then (none, s) else takeInject 5 n s
  let s := q.2
  let place := nStack n
  let inj := q.1.isSome
  if dmg = .data || q.1 = some 1 then
    ({ p with poison := true }, errReport { cls := 1, source := 2, cause := 2, place := place, ctx := p.ctx,
                                            addr := p.address, part := p.part, injected := inj } s)
  else if inj then
    (p, errReport { cls := 0, source := 2, cause := 1, place := place, addr := p.address, injected := true } s)
  else (p, s)

/-- The waiting packet that arrives at a node. -/
def arriving (s : State) (n : Nat) (p : ScrimPkt) : Option ScrimWait :=
  s.scrim.waiting.find? fun w => w.pkt == p && w.out != .here && nextNode w.node w.out w.pkt.address == n

/-- A packet of a better tier waits at the same output (R208). -/
def outranked (s : State) (w : ScrimWait) : Bool :=
  s.scrim.waiting.any fun v => v.node == w.node && v.out == w.out && decide (tierOf v < tierOf w)

/-- A header flit cannot be read: the packet is gone, and its stack pair with it (R216). -/
def headerLost (n : Nat) (s : State) : State :=
  if nStack n < 4 then fatalDie (nStack n) 2 0x11 (nStack n) 0 false s
  else errReport { cls := 3, source := 2, cause := 0x11, place := nStack n } s

/-- SCRIM_PACKET: a packet enters at a node, or comes over the hop from where it waits; it is then split, consumed or
put at its next output. A packet outranked at its output stays there. -/
def execScrimPacket (node : Nat) (pkt : ScrimPkt) (dmg : Damage) (s : State) : Host.Outcome State Fault Refusal :=
  if !nodeOk node || 6 ≤ pkt.vc then .refused .illFormed
  else
    match arriving s node pkt with
    | some w =>
      if outranked s w then .next s
      else
        let s := { s with scrim := { s.scrim with waiting := s.scrim.waiting.erase w } }
        if dmg = .header then .next (headerLost node s)
        else
          let d := dataDamage node pkt dmg s
          .next (scrimAt node d.1 d.2)
    | none =>
      if dmg = .header then .next (headerLost node s)
      else
        let q := classify node { pkt with set := 0 } s
        let d := dataDamage node q.1 dmg q.2
        .next (scrimAt node d.1 d.2)

/-- AGE_PROMOTION: waiting packet number i of tier 3 or 4 has waited AGE_LIMIT cycles (R208). -/
def execAgePromotion (i : Nat) (s : State) : Host.Outcome State Fault Refusal :=
  match s.scrim.waiting[i]? with
  | none => .next s
  | some w =>
    if 3 ≤ tierOf w then
      .next (bump64 0x2315 1 { s with scrim := { s.scrim with waiting := s.scrim.waiting.set i { w with promoted := true } } })
    else .next s

/-- The 32 entries of a table image. -/
def clsEntries (b : List Byte) : List (List Byte) := (List.range 32).map fun i => slice b (16 * i) 16

/-- Two VALID entries of equal PRIORITY meet (R211). -/
def clsOverlap (l : List ClsEntry) : Bool :=
  (List.range l.length).any fun i => (List.range i).any fun j =>
    let a := l.getD i {}
    let b := l.getD j {}
    a.valid && b.valid && a.prio == b.prio && clsMeet a b

/-- CLS_LOAD (R211): a reason, or the new state. -/
def clsLoad (table : List Byte) (s : State) : Nat ⊕ State :=
  let l := clsEntries table
  if table.length != 512 || !l.all clsOk then .inl 2
  else if clsOverlap (l.map parseCls) then .inl 1
  else .inr { s with scrim := { s.scrim with cls := (List.range 32).map fun i => (i, parseCls (l.getD i [])) } }

def execClsLoad (table : List Byte) (s : State) : Host.Outcome State Fault Refusal :=
  match clsLoad table s with
  | .inl r => .next (failed r s)
  | .inr t => .next (ok t)

/-- CLS_ENTRY (R211). -/
def clsEntry (idx : Nat) (entry : List Byte) (s : State) : Nat ⊕ State :=
  if entry.length != 16 || !clsOk entry then .inl 2
  else .inr { s with scrim := { s.scrim with cls := sput s.scrim.cls (min idx 31) (parseCls entry) } }

def execClsEntry (idx : Nat) (entry : List Byte) (s : State) : Host.Outcome State Fault Refusal :=
  match clsEntry idx entry s with
  | .inl r => .next (failed r s)
  | .inr t => .next (ok t)

end Sys2Proof.Machine
end

