-- ==== Sys2Proof/Machine/HeldaOps.lean ====
section
/-! DEFINITION. Helda below the commands: ends and agents, sending, negotiation, links that stop working, lost B-dies, and
the loss of site P (R307 to R338). -/
namespace Sys2Proof.Machine

/-! ### Ends (R18, R19, R332) -/

def endGet (s : State) (e : Nat) : HeldaEnd := sget {} s.helda.ends e
def setEnd (e : Nat) (x : HeldaEnd) (s : State) : State := { s with helda := { s.helda with ends := sput s.helda.ends e x } }
def modEnd (e : Nat) (f : HeldaEnd → HeldaEnd) (s : State) : State := setEnd e (f (endGet s e)) s

/-- The agent at a link end: side 0 is the lower agent number. -/
def endAgent (e : Nat) : Nat :=
  match e with
  | 0 => 4 | 1 => 5 | 2 => 5 | 3 => 7 | 4 => 6 | 5 => 7 | 6 => 4 | 7 => 6
  | 8 => 4 | 10 => 5 | 12 => 6 | 14 => 7
  | 17 => 9
  | _ => 8

/-- The other end of a link. -/
def farEnd (e : Nat) : Nat := if e % 2 = 0 then e + 1 else e - 1

/-- An end that the part has: site P's own end is the partner's. -/
def endOk (s : State) (e : Nat) : Bool := decide (e < 16) || (e == 16 && s.part.variant == .qx4p)

/-- Links of the part. -/
def linkOk (s : State) (j : Nat) : Bool := decide (j < 8) || (j == 8 && s.part.variant == .qx4p)

/-- The ends of a link that are in this model. -/
def linkEnds (j : Nat) : List Nat := if j = 8 then [16] else [2 * j, 2 * j + 1]

/-- A link carries traffic: every end here is ACTIVE. -/
def carries (s : State) (j : Nat) : Bool := (linkEnds j).all fun e => (endGet s e).st == .active

/-- CREDITS that a QX4 die advertises, and the longest message of each class (R312). -/
def heldaCredits : List Nat := [512, 256, 512, 3072, 256, 3072, 64, 16]
def heldaLongest : List Nat := [33, 1, 1, 37, 1, 33, 1, 3]

/-! ### Site P (R324, R326) -/

/-- Set SITEP_STATE; OUT_OF_SERVICE bit 16 follows FAILED (R552). -/
def setSiteP (st reason : Nat) (s : State) : State :=
  let s := { s with helda := { s.helda with siteP := { s.helda.siteP with st := st, reason := reason } } }
  if st = 4 then takeOut (2 ^ 16) 0x206 s else if isOut s 16 then putBack (2 ^ 16) s else s

/-- Site P is lost (R326): it is a caching agent that is gone, and accesses to its window complete with address error. -/
def sitePLost (reason : Nat) (s : State) : State :=
  let was := sitePServes s
  let s := setSiteP 4 reason s
  let s := { s with helda := { s.helda with siteP := { s.helda.siteP with coherence := 0 } } }
  if was then
    homesGoOn (agentsGone (fun _ a => a == .siteP) (failOnce (fun o => sitePAddr s o.addr) 5 s))
  else s

/-! ### Sending (R314, R315) -/

/-- Units of a peer's class that a sender may have outstanding: the lower of the advertisement and its share of the
resend store (R314, R315). -/
def creditShare (adv : List Nat) (c : Nat) : Nat :=
  let a := adv.map (min 4096)
  let total := a.sum
  min (a.getD c 0) (if total = 0 then 0 else 8192 * a.getD c 0 / total)

/-- Put a message on a link end: sent while the end is up and credits are held, held otherwise (R314, R333). -/
def heldaSend (e cls : Nat) (units : List (List Byte)) (s : State) : State :=
  let x := endGet s e
  let open_ := x.st == .active || (x.st == .negotiating && cls == 7)
  if open_ && decide (units.length ≤ sget 0 x.credits cls) then
    setEnd e { x with
      credits := sput x.credits cls (sget 0 x.credits cls - units.length)
      sent := (x.sent + 1) % 2 ^ 32
      resend := x.resend ++ [⟨(x.sent + 1) % 2 ^ 32, cls, units, 0⟩] } s
  else setEnd e { x with held := x.held ++ [⟨0, cls, units, 0⟩] } s

/-- Send what an end holds. -/
def heldaFlush (e : Nat) (s : State) : State :=
  let l := (endGet s e).held
  l.foldl (fun s m => heldaSend e m.cls m.units s) (modEnd e (fun x => { x with held := [] }) s)

/-- The end by which an agent's messages to another agent leave (R20, R334), for agents 4 to 8. -/
def mgmtEnd (s : State) (src dst : Nat) : Option Nat :=
  let j := linkToward s (src - 4) (dst - 4) 0
  (linkEnds j).find? fun e => endAgent e == src

/-- A management message as units: header and body (R317). -/
def mgmtUnits (type units src dst seq : Nat) (body : List Byte) : List (List Byte) :=
  let b := leBytes 1 type ++ leBytes 1 units ++ leBytes 2 0 ++ leBytes 1 src ++ leBytes 1 dst ++ leBytes 2 seq ++ body
  (List.range units).map fun i => slice b (32 * i) 32

/-- Take the next SEQ from a sender to a destination. -/
def nextSeq (src dst : Nat) (s : State) : Nat × State :=
  let q := sget 0 s.helda.seqs (16 * src + dst)
  (q, { s with helda := { s.helda with seqs := sput s.helda.seqs (16 * src + dst) ((q + 1) % 65536) } })

/-- Send a management message from an agent by an end. -/
def mgmtBy (e dst type units : Nat) (body : List Byte) (s : State) : State :=
  let q := nextSeq (endAgent e) dst s
  heldaSend e 7 (mgmtUnits type units (endAgent e) dst q.1 body) q.2

/-- Send a management message to an agent over the paths of R334. -/
def mgmtSend (src dst type units : Nat) (body : List Byte) (s : State) : State :=
  match mgmtEnd s src dst with
  | some e => mgmtBy e dst type units body s
  | none => s

/-! ### Negotiation (R319 to R323) -/

/-- What a die advertises (R322, R323, R536). PRODUCT is not given for the QX4's own dies: a free value. -/
def ownCap (s : State) (agent : Nat) : Cap :=
  { srcAgent := agent, verMajor := 1, verMinor := 0, classes := 0xFF, coherence := 2, power := 3, vendor := 1,
    product := (Config.freeNat s.freeCtr) % 65536
    stepping := if agent = 8 then s.part.stepIod else sget 0 s.part.stepBdie (agent - 4)
    features := sget 0 s.part.features agent
    safePowerMw := Config.safeMw agent
    maxPowerMw := Config.maxMw agent
    credits := heldaCredits }

def capBytes (c : Cap) : List Byte :=
  leBytes 1 c.verMajor ++ leBytes 1 c.verMinor ++ leBytes 1 c.classes ++ leBytes 1 c.coherence ++ leBytes 1 c.power ++
  leBytes 3 0 ++ leBytes 2 c.vendor ++ leBytes 2 c.product ++ leBytes 2 c.stepping ++ leBytes 2 0 ++ leBytes 4 c.features ++
  leBytes 4 c.safePowerMw ++ leBytes 4 c.maxPowerMw ++ leBytes 4 0 ++
  ((List.range 8).flatMap fun i => leBytes 2 (c.credits.getD i 0)) ++ leBytes 40 0

/-- Every mandatory class is present (R312). -/
def mandatoryOk (classes : Nat) (caching : Bool) : Bool :=
  [0, 2, 3, 5, 6, 7].all (bit classes) && (!caching || (bit classes 1 && bit classes 4))

/-- The result of negotiation at an end from both CAPs: what is committed, or the first failing reason (R321). -/
def negotiate (s : State) (e : Nat) (own peer : Cap) : Nat ⊕ CapCommit :=
  let j := e / 2
  let inner := decide (j < 8)
  let cls := own.classes &&& peer.classes
  let credOk := fun (c : Cap) => (List.range 8).all fun i => !bit cls i || decide (heldaLongest.getD i 0 ≤ c.credits.getD i 0)
  let pw := (own.power &&& peer.power) % 4
  let returning := inner && !inStartup s && s.helda.featureSet != 0
  if own.srcAgent != endAgent e || peer.srcAgent != endAgent (farEnd e) then .inl 7
  else if own.verMajor != 1 || peer.verMajor != 1 then .inl 3
  else if !mandatoryOk cls inner then .inl 4
  else if !credOk own || !credOk peer then .inl 5
  else if inner && !(own.coherence == 2 && peer.coherence == 2) then .inl 6
  else if inner && pw != 3 then .inl 4
  else if returning && (own.features &&& peer.features &&& s.helda.featureSet) != s.helda.featureSet then .inl 8
  else
    let coh := if inner then 2
      else
        let c := min peer.coherence (num s 0x2707 2 2)
        if c = 2 && !(bit cls 1 && bit cls 4) then 1 else c
    .inr { verMinor := min own.verMinor peer.verMinor, classes := cls, coherence := coh, power := pw }

/-- Enter ACTIVE (R314, R315, R320): counts restart, and credits are what the peer advertised. -/
def enterActive (e : Nat) (s : State) : State :=
  let x := endGet s e
  let c := x.commit.getD ⟨0, 0xFF, 2, 3⟩
  let peer := x.capRecv.getD (ownCap s (endAgent (farEnd e)))
  let s := setEnd e { x with
    st := .active
    reason := 0
    attempts := 0
    expiries := 0
    sent := 0
    received := 0
    resend := []
    partialMsg := []
    credits := (List.range 8).map fun i => (i, if bit c.classes i then creditShare peer.credits i else 0)
    granted := (List.range 8).map fun i => (i, if bit c.classes i then heldaCredits.getD i 0 else 0) } s
  let a := endAgent (farEnd e)
  let s := { s with helda := { s.helda with
    agents := smod {} s.helda.agents a fun p => { p with
      budget := bit c.power 0
      thermal := bit c.power 1
      safePowerMw := peer.safePowerMw
      maxPowerMw := peer.maxPowerMw } } }
  let s := if e = 16 then
      { s with helda := { s.helda with siteP :=
        { st := if c.coherence = 2 then 3 else 2, reason := 0, coherence := c.coherence, vendor := peer.vendor,
          product := peer.product, stepping := peer.stepping, version := 0x0100 + c.verMinor } } }
    else s
  heldaFlush e s

/-! ### Links that stop working (R332 to R336) -/

/-- Packets that waited for a link take another path (R334). -/
def rerouteScrim (j : Nat) (s : State) : State :=
  let l := s.scrim.waiting.filter fun w => w.out == .helda j
  l.foldl (fun s w => routePkt w.node w.pkt s)
    { s with scrim := { s.scrim with waiting := s.scrim.waiting.filter fun w => w.out != .helda j } }

/-- A link is DOWN or DISABLED at some end. -/
def linkDead (s : State) (j : Nat) : Bool :=
  (linkEnds j).any fun e => (endGet s e).st == .down || (endGet s e).st == .disabled

/-- A ring link connects its B-dies: both ends ACTIVE or in RETRAIN. -/
def linkJoins (s : State) (j : Nat) : Bool :=
  (linkEnds j).all fun e => (endGet s e).st == .active || (endGet s e).st == .retrain

/-- B-dies in service. -/
def diesIn (s : State) : List Nat := (List.range 4).filter fun n => !s.helda.lost.contains n && !isOut s (4 + n)

/-- B-dies of a list reached over the ring from those of another. -/
def ringGrow (s : State) (l seg : List Nat) : List Nat :=
  l.filter fun n => seg.contains n || seg.any fun m =>
    (List.range 4).any fun j => linkJoins s j && ((endAgent (2 * j) == 4 + m && endAgent (2 * j + 1) == 4 + n) ||
      (endAgent (2 * j) == 4 + n && endAgent (2 * j + 1) == 4 + m))

/-- The segment of a B-die. -/
def ringSegment (s : State) (l : List Nat) (n : Nat) : List Nat :=
  ringGrow s l (ringGrow s l (ringGrow s l [n]))

/-- The segment that stays in service: the largest, then the one with the lowest-numbered B-die. -/
def bestSegment (s : State) (l : List Nat) : List Nat :=
  (l.map (ringSegment s l)).foldl (fun b g => if b.length < g.length then g else b) []

/-- B-dies that R336 declares lost. -/
def lostDies (s : State) : List Nat :=
  let l := diesIn s
  let cut := l.filter fun n => linkDead s (4 + n) && (List.range 4).all fun j =>
    !(endAgent (2 * j) == 4 + n || endAgent (2 * j + 1) == 4 + n) || linkDead s j
  let keep := bestSegment s (l.filter fun n => !cut.contains n)
  if 5 ≤ readyCode s.power.ready then l.filter fun n => cut.contains n || !keep.contains n else cut

/-- Declare the B-dies that no path reaches lost (R336, R552 reason HELDA_LINK). -/
def checkLost (s : State) : State :=
  (lostDies s).foldl (fun s n =>
    let s := (List.range 16).foldl (fun s e =>
      if endAgent (farEnd e) = 4 + n then modEnd e (fun x => { x with resend := [], held := [] }) s else s) s
    bDieLost n 0x204 0x13 s) s

/-- An end stops: DOWN or DISABLED; the recovery exchange begins where it carried traffic (R335). -/
def stopEnd (e : Nat) (st : HeldaState) (reason : Nat) (s : State) : State :=
  let x := endGet s e
  let was := x.st == .active || x.st == .retrain
  let s := setEnd e { x with
    st := st
    reason := reason
    partialMsg := []
    recovering := x.recovering || (was && decide (e < 16)) } s
  let s := logEvent 0x2701 (e / 2 + 1) 3 (leBytes 1 (if st = .down then 5 else 6)) s
  if was && decide (e < 16) then
    mgmtSend (endAgent e) (endAgent (farEnd e)) 0x20 1
      (leBytes 1 (e / 2) ++ leBytes 3 0 ++ leBytes 4 x.received) s
  else s

/-- What follows when a link is DOWN or DISABLED. -/
def afterStop (j : Nat) (s : State) : State :=
  let s := rerouteScrim j s
  if j = 8 then sitePLost (endGet s 16).reason s else checkLost s

/-- One end goes DOWN. -/
def endDown (e reason : Nat) (s : State) : State := afterStop (e / 2) (stopEnd e .down reason s)

/-- A whole link becomes DISABLED. -/
def linkDisable (j reason : Nat) (s : State) : State :=
  afterStop j ((linkEnds j).foldl (fun s e => if (endGet s e).st = .disabled then s else stopEnd e .disabled reason s) s)

/-- A Helda protocol error at an end (R337). -/
def heldaProto (e : Nat) (s : State) : State :=
  let s := bump 0x2706 1 s
  let s := if e < 16 then errReport { cls := 3, source := 6, cause := 0x13, place := e / 2 } s else s
  linkDisable (e / 2) 0xB s

/-- Start training at an end (R332). -/
def startTrain (e : Nat) (s : State) : State :=
  let s := modEnd e (fun x => { x with st := .training, attempts := 0, expiries := 0 }) s
  if e = 16 then setSiteP 1 0 s else s

end Sys2Proof.Machine
end

