-- ==== Sys2Proof/Machine/BezelRows.lean ====
section
/-! DEFINITION. The Bezel messages as commands: each row is the arrival of one message at its DEST; and HOLD_END,
HOME_QUIESCE, HOME_RETURN and B_DIE_LOSS (R252, R253, R263, R275, R277). -/
namespace Sys2Proof.Machine

/-- A message that a home receives: a request, a write-back or a response. -/
def forHome : BOp → Bool
  | .getS | .getM | .putS | .putE | .atom | .readOnce | .writeOnce | .putM | .putO | .invAck | .fwdDoneO | .fwdDoneS
  | .fwdDoneI | .fwdMiss | .rspWbpend | .compAck | .rspData => true
  | _ => false

def isSnoop : BOp → Bool
  | .inv | .fwdGetS | .fwdGetM | .fwdGetMAp | .recallS | .recallI => true
  | _ => false

/-- A message at the home slice of its line. -/
def atHome (k : Nat) (op : BOp) (m : BMsg) (s : State) : State :=
  match op with
  | .getS | .getM | .putS | .putE | .atom | .readOnce | .writeOnce | .putM | .putO => homeRequest k op m s
  | _ => homeResponse k op m s

/-- A message at a caching agent. -/
def atAgent (a : Agent) (op : BOp) (m : BMsg) (s : State) : Option State :=
  if isSnoop op then snoopIn op a m s
  else if op = .wbAck then wbAckIn a m s
  else if forHome op then none
  else grantIn op a m s

/-- The epoch of a remote home is learnt from the latest message that comes from it (R273). -/
def learnEpoch (m : BMsg) (s : State) : State :=
  match m.src with
  | .device d =>
    if devOf m.addr = d then
      { s with uc := { s.uc with remoteEpochs := sput s.uc.remoteEpochs (4 * d + homeDie (localOf m.addr)) m.epoch } }
    else s
  | _ => s

/-- An ATOM at the proxy slice of a host-window line waits for ownership of the line (R174, R402). -/
def atomAtProxy (k : Nat) (m : BMsg) (s : State) : State :=
  let a := Agent.slice k
  let line := lineOf m.addr
  let c := cacheGet s a
  match copyState c line with
  | .m | .mH | .e | .eH =>
    let d := copyData c line
    let r := atomApply m.data d.1
    let i := atomOff m.data / 64
    let pz := d.2.2.getLsbD i
    let st := if copyState c line = .eH || copyState c line = .mH then LineState.mH else .m
    let s := if pz then s else setCopy a line st (modWay a line (fun w => { w with
      data := r.2
      sdirty := w.sdirty ||| bit16 i }) s)
    reply m.src m.txn (m.addr + 64 * i) (leBytes (atomSize m.data) r.1) pz 0 s
  | .i =>
    if 256 ≤ c.mshrs.length then modSlice k (fun x => { x with homeHeld := x.homeHeld ++ [⟨.atom, m⟩] }) s
    else cxl16 cxlRdOwn line (addMshr a { line := line, near := m.near, ctx := m.ctx, bz := .imAD, atom := some m }
      { s with host := { s.host with cxlWait := sput s.host.cxlWait line 16 } })
  | _ => modSlice k (fun x => { x with homeHeld := x.homeHeld ++ [⟨.atom, m⟩] }) s

/-- A request of site P lies in an aperture (R325). -/
def inAperture (s : State) (g : Nat) : Bool :=
  (List.range 8).any fun i =>
    decide (num s 0x2708 (i + 1) 0 ≤ g) && decide (g < num s 0x2708 (i + 1) 0 + num s 0x2708 (i + 9) 0)

/-- What the IOD does with a request of site P before it enters Scrim (R324, R325, R337): none where it goes on. -/
def sitePGate (k : Nat) (op : BOp) (m : BMsg) (s : State) : Option State :=
  if m.src != .siteP || !isRequest op then none
  else if s.helda.siteP.st != 3 && !(s.helda.siteP.coherence == 1 && (op == .readOnce || op == .writeOnce || op == .atom)) then
    some (heldaProto 16 s)
  else if !inAperture s m.addr then some (answerMsg (replyOp op) k m true s)
  else none

/-- A Bezel message reaches its destination (R252). -/
def bezelIn (op : BOp) (m : BMsg) (s : State) : Host.Outcome State Fault Refusal :=
  let s0 := received op m s
  match m.dst with
  | .slice k =>
    if 256 ≤ k || m.addr % 1024 != 0 then .refused .illFormed
    else if isOnceReply s0 op m then .next (onceIn op m (learnEpoch m s0))
    else if (sitePGate k op m s0).isSome then .next ((sitePGate k op m s0).getD s0)
    else
      match roleOf s0 k m.addr m.near with
      | none => .refused .illFormed
      | some .home =>
        if forHome op then .next (atHome k op m s0) else .next (protoError (.slice k) m.addr s0)
      | some _ =>
        if op = .atom && isHostAddr m.addr then .next (atomAtProxy k m s0)
        else
          match atAgent (.slice k) op m s0 with
          | some t => .next (learnEpoch m t)
          | none => .next (protoError (.slice k) m.addr s0)
  | .cc c =>
    if 16 ≤ c || m.addr % 1024 != 0 then .refused .illFormed
    else if isOnceReply s0 op m then .next (onceIn op m s0)
    else
      match atAgent (.cc c) op m s0 with
      | some t => .next t
      | none => .next (protoError (.cc c) m.addr s0)
  | .host => .next (hostReceive op m s0)
  | .siteP => .next s0
  | .device _ => .next s0
  | _ => .next (onceIn op m s0)

def execGetS (m : BMsg) (s : State) : Host.Outcome State Fault Refusal := bezelIn .getS m s
def execGetM (m : BMsg) (s : State) : Host.Outcome State Fault Refusal := bezelIn .getM m s
def execPutS (m : BMsg) (s : State) : Host.Outcome State Fault Refusal := bezelIn .putS m s
def execPutE (m : BMsg) (s : State) : Host.Outcome State Fault Refusal := bezelIn .putE m s
def execBezelAtom (m : BMsg) (s : State) : Host.Outcome State Fault Refusal := bezelIn .atom m s
def execReadOnce (m : BMsg) (s : State) : Host.Outcome State Fault Refusal := bezelIn .readOnce m s
def execWriteOnce (m : BMsg) (s : State) : Host.Outcome State Fault Refusal := bezelIn .writeOnce m s
def execFwdGets (m : BMsg) (s : State) : Host.Outcome State Fault Refusal := bezelIn .fwdGetS m s
def execFwdGetm (m : BMsg) (s : State) : Host.Outcome State Fault Refusal := bezelIn .fwdGetM m s
def execFwdGetmAp (m : BMsg) (s : State) : Host.Outcome State Fault Refusal := bezelIn .fwdGetMAp m s
def execInv (m : BMsg) (s : State) : Host.Outcome State Fault Refusal := bezelIn .inv m s
def execRecallS (m : BMsg) (s : State) : Host.Outcome State Fault Refusal := bezelIn .recallS m s
def execRecallI (m : BMsg) (s : State) : Host.Outcome State Fault Refusal := bezelIn .recallI m s
def execGntM (m : BMsg) (s : State) : Host.Outcome State Fault Refusal := bezelIn .gntM m s
def execGntAcks (m : BMsg) (s : State) : Host.Outcome State Fault Refusal := bezelIn .gntAcks m s
def execInvAck (m : BMsg) (s : State) : Host.Outcome State Fault Refusal := bezelIn .invAck m s
def execFwdDoneO (m : BMsg) (s : State) : Host.Outcome State Fault Refusal := bezelIn .fwdDoneO m s
def execFwdDoneS (m : BMsg) (s : State) : Host.Outcome State Fault Refusal := bezelIn .fwdDoneS m s
def execFwdDoneI (m : BMsg) (s : State) : Host.Outcome State Fault Refusal := bezelIn .fwdDoneI m s
def execFwdMiss (m : BMsg) (s : State) : Host.Outcome State Fault Refusal := bezelIn .fwdMiss m s
def execRspWbpend (m : BMsg) (s : State) : Host.Outcome State Fault Refusal := bezelIn .rspWbpend m s
def execWbAck (m : BMsg) (s : State) : Host.Outcome State Fault Refusal := bezelIn .wbAck m s
def execComp (m : BMsg) (s : State) : Host.Outcome State Fault Refusal := bezelIn .comp m s
def execHomeLost (m : BMsg) (s : State) : Host.Outcome State Fault Refusal := bezelIn .homeLost m s
def execRemoteLost (m : BMsg) (s : State) : Host.Outcome State Fault Refusal := bezelIn .remoteLost m s
def execCompAck (m : BMsg) (s : State) : Host.Outcome State Fault Refusal := bezelIn .compAck m s
def execDataS (m : BMsg) (s : State) : Host.Outcome State Fault Refusal := bezelIn .dataS m s
def execDataE (m : BMsg) (s : State) : Host.Outcome State Fault Refusal := bezelIn .dataE m s
def execDataM (m : BMsg) (s : State) : Host.Outcome State Fault Refusal := bezelIn .dataM m s
def execDataMAp (m : BMsg) (s : State) : Host.Outcome State Fault Refusal := bezelIn .dataMAp m s
def execRspData (m : BMsg) (s : State) : Host.Outcome State Fault Refusal := bezelIn .rspData m s
def execPutM (m : BMsg) (s : State) : Host.Outcome State Fault Refusal := bezelIn .putM m s
def execPutO (m : BMsg) (s : State) : Host.Outcome State Fault Refusal := bezelIn .putO m s
def execDataOnce (m : BMsg) (s : State) : Host.Outcome State Fault Refusal := bezelIn .dataOnce m s
def execAtomData (m : BMsg) (s : State) : Host.Outcome State Fault Refusal := bezelIn .atomData m s

/-- HOLD_END (R262, R263). -/
def execHoldEnd (a : Agent) (line : Nat) (s : State) : Host.Outcome State Fault Refusal :=
  match a with
  | .host => .next (holdEndHost line s)
  | .slice _ | .cc _ =>
    match holdEnd a line s with
    | some t => .next t
    | none => .next (protoError a (lineAddr line) s)
  | _ => .next s

/-- HOME_QUIESCE, action 0 (R275, R281). -/
def execHomeQuiesce (b : Nat) (s : State) : Host.Outcome State Fault Refusal :=
  if 4 ≤ b then .refused .illFormed
  else if (homeGet s b).st != .online then .next (failed 1 s)
  else .next (inProgress (quiesceStep b (modHome b (fun h => { h with st := .quiescing }) s)))

/-- HOME_RETURN, action 1 (R275, R281): the epoch of a lost home increments as it returns (R273, R277). -/
def execHomeReturn (b : Nat) (s : State) : Host.Outcome State Fault Refusal :=
  if 4 ≤ b then .refused .illFormed
  else
    match (homeGet s b).st with
    | .offline => .next (ok (modHome b (fun h => { h with st := .online, dir := [] }) s))
    | .lost => .next (ok (modHome b (fun h => { h with st := .online, epoch := nextEpoch h.epoch, dir := [] }) s))
    | _ => .next (failed 1 s)

/-- B_DIE_LOSS (R277, R336). -/
def execBDieLoss (b : Nat) (s : State) : Host.Outcome State Fault Refusal :=
  if 4 ≤ b then .refused .illFormed else .next (bDieLost b 0x204 0x13 s)

end Sys2Proof.Machine
end

