-- ==== Sys2Proof/Machine/HostOps.lean ====
section
/-! DEFINITION. The device as a requester on the host link (R37, R378, R398 to R400). -/
namespace Sys2Proof.Machine

/-- The function that drives a partition: its VF, or the PF (R378, R387). -/
def partFn (s : State) (p : Nat) : Fn :=
  match s.host.vfMap.find? fun e => e.2.part == p with
  | some e => .vf e.1
  | none => .pf

/-- The function behind a context (R378). -/
def ctxFn (s : State) (ctx : Nat) : Fn := partFn s (ctxPart ctx)

/-- CXL.cache is active for a context (R400). -/
def cxlFor (s : State) (ctx : Nat) : Bool := s.host.cxlActive && s.host.linkUp && ctxFn s ctx == .pf

/-- Read host memory: the request waits for its completion (R398); with the link down it completes with HOST_LINK_DOWN
(R399). -/
def hostRead (who : Agent) (txn g len ctx : Nat) (s : State) : State :=
  if !s.host.linkUp then reply who txn g [] false 8 s
  else
    let t := s.host.nextTag
    let fn := ctxFn s ctx
    let a := g % 2 ^ 52
    hostSend (.read fn t a len) { s with host := { s.host with
      nextTag := t + 1
      reqs := s.host.reqs ++ [{ tag := t, fn := fn, addr := a, ctx := some ctx, read := true,
                                forWhom := some (who, txn, g) }] } }

/-- The runs of enabled bytes of a masked write: offset and bytes. -/
def enabledRuns : Nat → List (Bool × Byte) → List (Nat × List Byte)
  | _, [] => []
  | i, (en, b) :: t =>
    match enabledRuns (i + 1) t with
    | [] => if en then [(i, [b])] else []
    | (j, l) :: r => if en then (if j = i + 1 then (i, b :: l) :: r else (i, [b]) :: (j, l) :: r) else (j, l) :: r

/-- Write host memory: posted writes of the enabled bytes, acknowledged as they leave (R378, R398). -/
def hostWrite (who : Agent) (txn g : Nat) (bs : List (Bool × Byte)) (poison : Bool) (ctx : Nat) (s : State) : State :=
  if !s.host.linkUp then reply who txn g [] false 8 s
  else
    reply who txn g [] false 0 ((enabledRuns 0 bs).foldl (fun s r =>
      hostSend (.write (ctxFn s ctx) (g / 64 * 64 % 2 ^ 52 + r.1) r.2 poison) s) s)

end Sys2Proof.Machine
end

