-- ==== Sys2Proof/Machine/UC.lean ====
section
/-! DEFINITION. The unified cache's requests: reads, writes, fills, held requests, flush and scrub (R218 to R242). -/
namespace Sys2Proof.Machine

/-! ### Protection of data and tags (R240, R248) -/

/-- What a read of a way's sector finds: what the sender says, or what has been injected (R567); an injected error is
detected once. -/
def ucEcc (s : State) (g : Nat) (e : Ecc) : Ecc × Bool × State :=
  match s.errs.planted.find? fun p => p.1 == 2 && p.2.1 == g / 64 with
  | some p =>
    (if p.2.2 = 0 then (if e = .double then .double else .single) else .double, true,
     { s with errs := { s.errs with planted := s.errs.planted.erase p } })
  | none => (e, false, s)

/-- A sector of a way is read (R240, R248): corrected; or its valid bit cleared, the copy evicted, or the sector poisoned.
`k` is the slice, `w` its way. -/
def readSector (k : Nat) (w : Way) (i : Nat) (e : Ecc) (s : State) : State :=
  let g := lineAddr w.tag + 64 * i
  match ucEcc s g e with
  | (.clean, _, s) => s
  | (.single, inj, s) =>
    errReport { cls := 0, source := 3, cause := 1, place := k, addr := g, injected := inj } (bump 0x2406 1 s)
  | (.double, inj, s) =>
    let s := bump 0x2406 2 s
    if w.sdirty.getLsbD i then
      errReport { cls := 1, source := 3, cause := 2, place := k, addr := g, injected := inj }
        (modWay (.slice k) w.tag (fun w => { w with spoison := w.spoison ||| bit16 i }) s)
    else if w.st = .home then modWay (.slice k) w.tag (fun w => { w with svalid := w.svalid &&& ~~~(bit16 i) }) s
    else evictCopy (.slice k) w s

/-- A tag is read with an injected error in it (R240, R567): corrected, or the loss of the B-die. -/
def readTag (k line : Nat) (s : State) : State :=
  match s.errs.planted.find? fun p => p.1 == 3 && p.2.1 == line with
  | none => s
  | some p =>
    let s := { s with errs := { s.errs with planted := s.errs.planted.erase p } }
    match p.2.2 with
    | 3 => fatalDie (k / 64) 3 0x10 k (lineAddr line) true s
    | n => errReport { cls := 0, source := 3, cause := 1, place := k, addr := lineAddr line, injected := true }
             (if n = 1 then bump 0x2406 3 s else s)

/-! ### Common parts of a request -/

/-- A hint other than discarding LAST_USE (R228): LAST_USE acts as EVICT_FIRST and is counted. -/
def plainHint (h : Nat) (s : State) : State := if h = 4 then bump64 0x2403 4 s else countHint h s

/-- A waiter for a request. -/
def waiterOf (r : UcReq) : Waiter :=
  { dest := r.src, txn := r.txn, sector := r.addr % 1024 / 64, hint := r.hint, scratch := r.scratch, ctx := r.ctx }

/-- Waiters of a slice (R236). -/
def waiterCount (c : Cache) : Nat := (c.mshrs.map fun m => m.waiters.length).sum

/-- Merge a read onto the line's MSHR, within its bounds (R232, R235, R236). -/
def mergeRead (k : Nat) (r : UcReq) (x : Mshr) (s : State) : State :=
  let c := cacheGet s (.slice k)
  if 32 ≤ x.waiters.length then holdReq k r .waiterLimit s
  else if 8192 ≤ waiterCount c then holdReq k r .waiterPool s
  else
    let s := modMshr (.slice k) x.line (fun m => { m with
      waiters := m.waiters ++ [waiterOf r]
      hints := m.hints ++ [(r.hint, r.scratch)] }) s
    let s := bump64 0x2409 3 (countHint r.hint s)
    if x.bz = .home && !homeHas s k x.line (bit16 (r.addr % 1024 / 64)) then
      startFill k x.line x.near r.ctx (bit16 (r.addr % 1024 / 64)) s
    else s

/-- Take an MSHR for a miss at a slice that is not the line's home, and send its request (R259, R260, R402). -/
def takeMiss (k : Nat) (r : UcReq) (op : BOp) (st : LineState) (s : State) : State :=
  let a := Agent.slice k
  let line := lineOf r.addr
  if 256 ≤ (cacheGet s a).mshrs.length then holdReq k r .mshr s
  else
    let n := newTxn s
    let e := knownEpoch s r.addr r.near
    let x : Mshr := { line := line, near := r.near, ctx := r.ctx, bz := st, txn := n.1, epoch := e,
                      waiters := if r.write.isNone then [waiterOf r] else [],
                      hints := if r.write.isNone then [(r.hint, r.scratch)] else [],
                      write := if r.write.isSome then some r else none }
    let s := addMshr a x (modWay a line (fun w => { w with st := st }) n.2)
    if isHostAddr r.addr then
      let code := if op = .getS then cxlRdShared else if st = .imAD then cxlRdOwn else cxlRdOwnNoData
      cxl16 code line { s with host := { s.host with cxlWait := sput s.host.cxlWait line 16 } }
    else
      sendB op { dst := homeAgent s r.addr r.near, src := a, txn := n.1, addr := lineAddr line, near := r.near,
                 ctx := r.ctx, epoch := e.getD 0, sectors := 0, spoison := 0, data := [] } s

/-- A requester that keeps no copy of such a line (R246, R271). -/
def nonCaching (r : UcReq) (role : Role) : Bool :=
  match r.src with
  | .dma _ | .plumb _ => true
  | .cc _ | .host | .siteP => role == .proxy
  | _ => false

/-- The bytes of a write as a line, for WRITE_ONCE. -/
def onceLine (r : UcReq) : List Byte :=
  List.replicate (r.addr % 1024 / 64 * 64) 0 ++ (r.write.getD []).map (·.2) ++
    List.replicate (1024 - r.addr % 1024 / 64 * 64 - (r.write.getD []).length) 0

/-- A write with all 64 byte enables (R233). -/
def wholeWrite (r : UcReq) : Bool := decide ((r.write.getD []).length = 64) && (r.write.getD []).all (·.1)

/-- A once-request for a host-window line under CXL.cache: RdCurr for a read, whose answer is matched by its address;
WOWrInvF for a whole sector, WOWrInv for each run of enabled bytes otherwise (R402). -/
def cxlOnce (r : UcReq) (s : State) : State :=
  let g := r.addr / 64 * 64
  match r.write with
  | none => hostSend (.cxl cxlRdCurr g [] false) { s with host := { s.host with
      nextTag := s.host.nextTag + 1
      reqs := s.host.reqs ++ [{ tag := s.host.nextTag, fn := .pf, addr := r.addr % 2 ^ 52, ctx := some r.ctx, read := true,
                                forWhom := some (r.src, r.txn, r.addr) }] } }
  | some bs =>
    replyReq r [] false 0 (if wholeWrite r then hostSend (.cxl cxlWOWrInvF g (bs.map (·.2)) r.poison) s
      else (enabledRuns 0 bs).foldl (fun s e => hostSend (.cxl cxlWOWrInv (g + e.1) e.2 r.poison) s) s)

/-- READ_ONCE or WRITE_ONCE for a requester that keeps no copy. -/
def onceReq (k : Nat) (r : UcReq) (s : State) : State :=
  let i := r.addr % 1024 / 64
  if isHostAddr r.addr then cxlOnce r s
  else if r.write.isNone then sendOnce .readOnce (.slice k) r.src r.txn r.addr r.near r.ctx 0 false [] s
  else sendOnce .writeOnce (.slice k) r.src r.txn r.addr r.near r.ctx (bit16 i) r.poison (onceLine r) s

/-! ### Requests at a guest or proxy slice (R260) -/

/-- States in which a load hits. -/
def loadHits : LineState → Bool
  | .s | .e | .o | .m | .eH | .mH | .smAD | .omA => true
  | _ => false

/-- States in which a store hits, and the state after it. -/
def storeHits : LineState → Option LineState
  | .e => some .m
  | .m => some .m
  | .eH => some .mH
  | .mH => some .mH
  | _ => none

/-- A read at a guest or proxy slice. -/
def copyRead (k : Nat) (role : Role) (r : UcReq) (ecc : Ecc) (s : State) : State :=
  let a := Agent.slice k
  let line := lineOf r.addr
  let i := r.addr % 1024 / 64
  let c := cacheGet s a
  let st := copyState c line
  let s := match findWay c line with
    | some e => if loadHits st && !transient e.2.st then readSector k e.2 i ecc s else s
    | none => s
  let c := cacheGet s a
  if loadHits (copyState c line) then
    let d := copyData c line
    replyReq r (sectorBytes d.1 i) (d.2.2.getLsbD i) 0 (hitHint a line r.hint (plainHint r.hint (bump64 0x2409 1 s)))
  else
    match findMshr c line with
    | some x => mergeRead k r x s
    | none =>
      if (findEvict c line).isSome then holdReq k r .line s
      else
        let s := bump64 0x2409 2 s
        if nonCaching r role then onceReq k r s else takeMiss k r .getS .isD (plainHint r.hint s)

/-- A write at a guest or proxy slice. -/
def copyWrite (k : Nat) (role : Role) (r : UcReq) (s : State) : State :=
  let a := Agent.slice k
  let line := lineOf r.addr
  let i := r.addr % 1024 / 64
  let c := cacheGet s a
  let st := copyState c line
  match storeHits st, findWay c line with
  | some st2, some _ =>
    let s := modWay a line (fun w => { writeWay w i (r.write.getD []) r.poison with st := st2 }) s
    replyReq r [] false 0 (hitHint a line r.hint (plainHint r.hint s))
  | _, _ =>
    if nonCaching r role && (wholeWrite r || isHostAddr r.addr) && (findMshr c line).isNone && (findEvict c line).isNone
    then onceReq k r s
    else if (findMshr c line).isSome || (findEvict c line).isSome then holdReq k r .line s
    else
      let s := plainHint r.hint s
      match st with
      | .s => takeMiss k r .getM .smAD s
      | .o => takeMiss k r .getM .omA s
      | _ => takeMiss k r .getM .imAD s

/-! ### Requests at the home slice (R231 to R233, R258) -/

/-- Copies elsewhere must be recalled before the home slice's own access (R258, R267). -/
def needsRecall (s : State) (k : Nat) (r : UcReq) : Bool :=
  let d := homeDirIn s k (lineOf r.addr)
  let o := dirOf s r.addr r.near
  if r.write.isSome then d.own != .none || d.sharers != 0 || o.isSome
  else d.own != .none || ((o.map fun x => x.mode == .exclusive).getD false)

/-- Recall them: the request is held meanwhile. -/
def recallFor (k : Nat) (r : UcReq) (s : State) : State :=
  let s := holdReq k r .tracker s
  if 512 ≤ (sliceGet s k).trackers.length then s
  else homesGoOn (startTracker k (ownTracker k (lineOf r.addr) r.near .localReq
    (if r.write.isSome then .writeOnce else .readOnce) 0 r.ctx) s)

/-- LAST_USE discards the line after the read (R228). -/
def discards (w : Way) (r : UcReq) : Bool := r.hint == 4 && r.scratch && w.st == .home

/-- Discard a home copy, once its holders' copies are recalled (R228, R256). -/
def discardLine (k : Nat) (w : Way) (s : State) : State :=
  let s := bump64 0x2403 3 s
  if hasHolders w then homesGoOn (startRecall k w .discard s) else dropWay (.slice k) w.tag s

/-- A read at the home slice. -/
def homeRead (k : Nat) (r : UcReq) (ecc : Ecc) (s : State) : State :=
  let a := Agent.slice k
  let line := lineOf r.addr
  let i := r.addr % 1024 / 64
  if needsRecall s k r then recallFor k r s
  else
    let s := match homeWay s k line with
      | some w => if w.svalid.getLsbD i then readSector k w i ecc s else s
      | none => s
    if homeHas s k line (bit16 i) then
      let w := (homeWay s k line).getD { tag := line, st := .home }
      let s := replyReq r (sectorBytes w.data i) (w.spoison.getLsbD i) 0 (bump64 0x2409 1 s)
      if discards w r then discardLine k w s else hitHint a line r.hint (plainHint r.hint s)
    else
      match findMshr (cacheGet s a) line with
      | some x => mergeRead k r x s
      | none =>
        if 256 ≤ (cacheGet s a).mshrs.length then holdReq k r .mshr s
        else
          let have_ := ((homeWay s k line).map (·.svalid)).getD 0
          let m := (fillMask s i ||| bit16 i) &&& ~~~have_
          let x : Mshr := { line := line, near := r.near, ctx := r.ctx, bz := .home, fetch := m,
                            waiters := [waiterOf r], hints := [(r.hint, r.scratch)] }
          fetchSectors k line m r.part (r.bwClass == 1)
            (addMshr a x (bump64 0x2409 2 (countHint r.hint s)))

/-- Put a sector written whole into a new way (R233). -/
def homeAllocate (k : Nat) (r : UcReq) (s : State) : State :=
  let line := lineOf r.addr
  let set := setOf s r.addr r.near
  let q := askWay k set s
  match q.1 with
  | .got i =>
    let f := fillHint (cacheGet q.2 (.slice k)) set line r.hint
    let w : Way := { tag := line, st := .home, keep := f.1, rrv := f.2.1, ctx := r.ctx, scr := r.scratch, near := r.near }
    let s := if f.2.2 then bump64 0x2403 2 q.2 else q.2
    replyReq r [] false 0 (putWay k i (writeWay w (r.addr % 1024 / 64) (r.write.getD []) r.poison) (plainHint r.hint s))
  | .recall w => homesGoOn (startRecall k w .evict (holdReq k r .victim q.2))
  | .noVictim => holdReq k r .victim s
  | .noBuffer => holdReq k r .wbBuffer s

/-- A write at the home slice. -/
def homeWrite (k : Nat) (r : UcReq) (s : State) : State :=
  let a := Agent.slice k
  let line := lineOf r.addr
  let i := r.addr % 1024 / 64
  if (findMshr (cacheGet s a) line).isSome then holdReq k r .line s
  else if needsRecall s k r then recallFor k r s
  else
    match homeWay s k line with
    | some w =>
      if w.svalid.getLsbD i || wholeWrite r then
        let s := modWay a line (fun w => writeWay w i (r.write.getD []) r.poison) s
        replyReq r [] false 0 (hitHint a line r.hint (plainHint r.hint s))
      else if 256 ≤ (cacheGet s a).mshrs.length then holdReq k r .mshr s
      else fetchSectors k line (bit16 i) r.part (r.bwClass == 1)
        (addMshr a { line := line, near := r.near, ctx := r.ctx, bz := .home, fetch := bit16 i, write := some r } s)
    | none =>
      if wholeWrite r then
        if r.hint = 2 then
          replyReq r [] false 0 (hbmStore k (localOf r.addr) ((r.write.getD []).map (·.2)) r.poison r.part
            (r.bwClass == 1) s)
        else homeAllocate k r s
      else if 256 ≤ (cacheGet s a).mshrs.length then holdReq k r .mshr s
      else fetchSectors k line (bit16 i) r.part (r.bwClass == 1)
        (addMshr a { line := line, near := r.near, ctx := r.ctx, bz := .home, fetch := bit16 i, write := some r,
                     hints := if r.hint = 2 then [(2, false)] else [] } (plainHint r.hint s))

/-! ### A request at a slice (R221, R234, R276, R279) -/

/-- An address that no UC slice serves, by the local map (R33, R36, R565). -/
def mapBad (g : Nat) : Bool := decide (2 ^ 39 ≤ localOf g)

/-- Serve a request that is not held back by an older one. -/
def serveReq (k : Nat) (r : UcReq) (ecc : Ecc) (s : State) : State :=
  let line := lineOf r.addr
  let remote := devOf r.addr != devId s
  if isHostAddr r.addr then
    if remote then replyReq r [] false 5 s
    else if !cxlFor s r.ctx then
      match r.write with
      | none => hostRead r.src r.txn r.addr 64 r.ctx s
      | some bs => hostWrite r.src r.txn r.addr bs r.poison r.ctx s
    else if !homeServes s (k / 64) then replyLost r 9 s
    else if r.write.isNone then copyRead k .proxy r ecc s
    else copyWrite k .proxy r s
  else if sitePAddr s r.addr then
    if !sitePServes s then replyReq r [] false 5 s
    else if r.write.isNone || wholeWrite r then onceReq k r s
    else
      -- bytes that a write to site P does not enable are free in the sector it carries (assumption 26)
      let f := draw s
      onceReq k { r with write := some ((r.write.getD []).mapIdx fun i e =>
        (true, if e.1 then e.2 else BitVec.ofNat 8 (f.1 / 256 ^ i))) } f.2
  else if mapBad r.addr then replyReq r [] false 5 s
  else if remote then
    if !canReach s (devOf r.addr) then replyLost r 0xA s
    else if !homeServes s (k / 64) then replyLost r 9 s
    else if r.write.isNone then copyRead k .proxy r ecc s
    else copyWrite k .proxy r s
  else if backedBytes ≤ localOf r.addr then replyReq r [] false 5 s
  else if isOut s (8 + (hbmPlace (localOf r.addr)).stack) then replyReq r [] false 6 s
  else if !homeServes s (k / 64) || !homeServes s (homeBdie r.addr r.near) then replyLost r 9 s
  else
    let s := readTag k line s
    match roleOf s k r.addr r.near with
    | some .home =>
      if (findTracker s k line).isSome then holdReq k r .tracker s
      else if r.write.isNone then homeRead k r ecc s
      else homeWrite k r s
    | _ =>
      if r.write.isNone then copyRead k .guest r ecc s
      else if r.hint = 2 && copyState (cacheGet s (.slice k)) line == .i && (findMshr (cacheGet s (.slice k)) line).isNone then
        let h := homeSlice r.addr r.near
        if (findTracker s h line).isSome then holdReq h r .tracker s else homeWrite h r s
      else copyWrite k .guest r s

/-- A request arrives at a slice: held behind older ones of its line (R234) and behind a flush of its context (R239). A
full queue leaves it with its sender. -/
def ucRequest (k : Nat) (r : UcReq) (ecc : Ecc) (s : State) : State :=
  let c := cacheGet s (.slice k)
  if 64 ≤ c.held.length then s
  else
    let s := { s with uc := { s.uc with reqCount := smod 0 s.uc.reqCount (64 * (k / 64) + r.part % 64) (· + 1) } }
    if s.uc.flushing.any fun f => f.1 == r.ctx then holdReq k r .flush s
    else if c.held.any fun h => lineOf h.req.addr == lineOf r.addr then holdReq k r .line s
    else serveReq k r ecc s

/-- The slice is one that a request for the line is sent to (R221). -/
def sliceFits (s : State) (k : Nat) (r : UcReq) : Bool :=
  decide (k < 256) && !isTileWin s r.addr && (isHostAddr r.addr || mapBad r.addr || (roleOf s k r.addr r.near).isSome)

/-- UC_READ (R231, R232). -/
def execUcRead (k : Nat) (r : UcReq) (ecc : Ecc) (s : State) : Host.Outcome State Fault Refusal :=
  if sliceFits s k r && r.write.isNone then .next (ucRequest k r ecc s) else .refused .illFormed

/-- UC_WRITE (R233). -/
def execUcWrite (k : Nat) (r : UcReq) (ecc : Ecc) (s : State) : Host.Outcome State Fault Refusal :=
  if sliceFits s k r && r.write.isSome then .next (ucRequest k r ecc s) else .refused .illFormed

/-! ### Fills (R225, R227, R228, R230, R232, R238) -/

/-- Every read that merged carried a discarding LAST_USE (R228). -/
def allLastUse (x : Mshr) : Bool :=
  !x.hints.isEmpty && x.write.isNone && x.hints.all fun h => h.1 == 4 && h.2

/-- Keep what has arrived for a home copy in its way; the way is found first where the line has none. -/
def installHome (k : Nat) (x : Mshr) (s : State) : State :=
  let a := Agent.slice k
  let put := fun (w : Way) =>
    { w with
      data := takeSectors w.data x.got (lineBytes x.data)
      svalid := w.svalid ||| x.got
      sdirty := w.sdirty ||| x.gotDirty
      spoison := (w.spoison &&& ~~~x.got) ||| x.gotPoison }
  let clear := modMshr a x.line fun m => { m with
    fetch := m.fetch &&& ~~~x.got
    got := 0
    gotDirty := 0
    gotPoison := 0
    needWay := false }
  if (homeWay s k x.line).isSome then modWay a x.line put (clear s)
  else
    let set := setOf s (lineAddr x.line) x.near
    let q := askWay k set s
    match q.1 with
    | .got i =>
      let h := if x.write.isSome then ((x.write.map (·.hint)).getD 0) else mostRetentive (x.hints.map (·.1))
      let h := if x.hints.isEmpty && x.write.isNone then 0 else h
      let f := fillHint (cacheGet q.2 a) set x.line h
      let w : Way := { tag := x.line, st := .home, keep := f.1, rrv := f.2.1, ctx := x.ctx, scr := x.hints.any (·.2),
                       near := x.near }
      clear (putWay k i (put w) (if f.2.2 then bump64 0x2403 2 q.2 else q.2))
    | .recall w => startRecall k w .evict (modMshr a x.line (fun m => { m with needWay := true }) q.2)
    | .noVictim => (if x.needWay then id else bump64 0x2404 3) (modMshr a x.line (fun m => { m with needWay := true }) q.2)
    | .noBuffer => (if x.needWay then id else bump64 0x2404 4) (modMshr a x.line (fun m => { m with needWay := true }) q.2)

/-- The waiting write of a home MSHR, once its sector is here. -/
def applyWrite (k : Nat) (line : Nat) (s : State) : State :=
  let a := Agent.slice k
  match (findMshr (cacheGet s a) line).bind (·.write) with
  | none => s
  | some r =>
    let i := r.addr % 1024 / 64
    if homeHas s k line (bit16 i) then
      replyReq r [] false 0 (modMshr a line (fun m => { m with write := none })
        (modWay a line (fun w => writeWay w i (r.write.getD []) r.poison) s))
    else s

/-- A partial write under STREAM whose line is absent: the sector is merged and written to HBM (R227, R301). -/
def streamWrite (k : Nat) (x : Mshr) (s : State) : State :=
  match x.write with
  | none => s
  | some r =>
    let i := r.addr % 1024 / 64
    let w := writeWay { tag := x.line, st := .home, data := x.data, spoison := x.gotPoison } i (r.write.getD []) r.poison
    replyReq r [] false 0 (hbmStore k (localOf r.addr) (sectorBytes w.data i) (w.spoison.getLsbD i) r.part
      (r.bwClass == 1) (dropMshr (.slice k) x.line s))

/-- Reads held at the waiter limit hit before anything else (R235). -/
def serveLimit (k line : Nat) (s : State) : State :=
  let l := (cacheGet s (.slice k)).held.filter fun h => h.cause == .waiterLimit && lineOf h.req.addr == line
  let s := modCache (.slice k) (fun c => { c with held := c.held.filter fun h => !l.contains h }) s
  l.foldl (fun s h => serveReq k h.req .clean s) s

/-- Whether a tracker of the home slice waits for a line. -/
def trackerWants (s : State) (k line : Nat) : Bool := (findTracker s k line).isSome

/-- What a fill of a home copy does when sectors have arrived. -/
def homeFill (k : Nat) (x : Mshr) (s : State) : State :=
  let a := Agent.slice k
  let have_ := ((homeWay s k x.line).map (·.svalid)).getD 0
  let whole := (x.fetch &&& ~~~(x.got ||| have_)) == 0
  let here := x.got
  let s := answerSectors a x.line (if (homeWay s k x.line).isSome then 0 else here) s
  let x := (findMshr (cacheGet s a) x.line).getD x
  let stream := !trackerWants s k x.line && (homeWay s k x.line).isNone && !x.hints.isEmpty && x.hints.all fun h => h.1 == 2
  if stream && x.gotDirty == 0 then
    if !whole then s else if x.write.isSome then streamWrite k x s else dropMshr a x.line s
  else
    let s := installHome k x s
    let done := homeHas s k x.line x.got || x.got == 0
    if !done then homesGoOn s
    else
      let s := answerSectors a x.line 0xFFFF s
      let s := applyWrite k x.line s
      let y := (findMshr (cacheGet s a) x.line).getD x
      if y.fetch != 0 then homesGoOn s
      else
        let s := serveLimit k x.line (dropMshr a x.line s)
        let s := match homeWay s k x.line with
          | some w => if allLastUse x then discardLine k w s else s
          | none => s
        homesGoOn (wakeFill k s)

/-- UC_FILL_COMPLETE: what has arrived for an MSHR is installed, and waiters are answered (R225, R232, R238). -/
def execUcFillComplete (k line : Nat) (s : State) : Host.Outcome State Fault Refusal :=
  match findMshr (cacheGet s (.slice k)) line with
  | none => .next s
  | some x =>
    if x.bz = .home then .next (if x.got = 0 then s else homeFill k x s)
    else if x.needWay then
      let s := placeCopy (.slice k) line x.bz s
      let y := (findMshr (cacheGet s (.slice k)) line).getD x
      .next (homesGoOn (if y.needWay then s
        else if y.bz = .eH || y.bz = .mH then s else dropMshr (.slice k) line s))
    else .next s

/-! ### Held requests (R234, R235) -/

/-- A held request is the oldest of its line and of the resource it waits for. -/
def oldestHeld (l : List HeldReq) (i : Nat) (h : HeldReq) : Bool :=
  !((l.take i).any fun o => lineOf o.req.addr == lineOf h.req.addr ||
    (o.cause == h.cause && (h.cause == .mshr || h.cause == .waiterPool || h.cause == .wbBuffer)))

/-- UC_HELD_RELEASE: held request i of slice k is served, if what it waits for is free and no older one waits for it. -/
def execUcHeldRelease (k i : Nat) (s : State) : Host.Outcome State Fault Refusal :=
  let l := (cacheGet s (.slice k)).held
  match l[i]? with
  | none => .next (homesGoOn s)
  | some h =>
    if !oldestHeld l i h || s.uc.flushing.any (fun f => f.1 == h.req.ctx) then .next s
    else
      let t := serveReq k h.req .clean (modCache (.slice k) (fun c => { c with held := c.held.eraseIdx i }) s)
      if (cacheGet t (.slice k)).held.any fun x => x.req == h.req then .next s else .next t

/-! ### Flush and scrub (R239, R241) -/

/-- Begin to flush a context's lines (R239): KEEP is cleared, and its requests are held until the flush ends. -/
def ucFlush (ctx mode : Nat) (s : State) : State :=
  let s := { s with uc := { s.uc with
    flushing := if s.uc.flushing.contains (ctx, mode) then s.uc.flushing else s.uc.flushing ++ [(ctx, mode)]
    slices := s.uc.slices.map fun e => (e.1, { e.2 with c := { e.2.c with
      ways := e.2.c.ways.map fun w => (w.1, if w.2.ctx = ctx then { w.2 with keep := false } else w.2) } }) } }
  homesGoOn s

/-- UC_FLUSH (R239). -/
def execUcFlush (ctx mode : Nat) (s : State) : Host.Outcome State Fault Refusal :=
  if 1024 ≤ ctx || 2 ≤ mode then .refused .illFormed else .next (ok (ucFlush ctx mode s))

/-- A slice has read every valid way: a device-wide pass ends with the last (R241). -/
def scrubEnd (k : Nat) (s : State) : State :=
  let l := ladd s.uc.scrubbed k
  let full := s.uc.slices.all fun e => e.2.c.ways.isEmpty || l.contains e.1
  if full then
    countLog 0x2406 4 32 0 0xFFFF 0xFF 0xFF { s with uc := { s.uc with
      scrubbed := []
      slices := s.uc.slices.map fun e => (e.1, { e.2 with scrubNext := 0 }) } }
  else { s with uc := { s.uc with scrubbed := l } }

/-- UC_SCRUB: the scrub read of a sector of a way, with what it finds in the tag and in the data (R240, R241). A way is
left behind once it has been read. -/
def execUcScrub (k way sec : Nat) (tag data : Ecc) (s : State) : Host.Outcome State Fault Refusal :=
  if 256 ≤ k || 16 ≤ sec then .refused .illFormed
  else if num s 0x6402 1 1 = 0 then .next s
  else
    match sfind (cacheGet s (.slice k)).ways way with
    | none => .next s
    | some w =>
      let s := if tag = .double then bump 0x2406 3 s else s
      let s := if tag = .clean then s
        else errReport { cls := 0, source := 3, cause := 1, place := k, addr := lineAddr w.tag } s
      let s := readTag k w.tag s
      let s := if w.svalid.getLsbD sec then readSector k w sec data s else s
      let last := (cacheGet s (.slice k)).ways.all fun e => decide (e.1 ≤ way)
      let s := modSlice k (fun x => { x with scrubNext := way + 1 }) s
      .next (if last then scrubEnd k s else s)

end Sys2Proof.Machine
end

