-- ==== Sys2Proof/Machine/View.lean ====
section
/-! DEFINITION. Memory as the UC layer holds it (R167): reads of the newest value and writes performed at the home, for the
units that reach it other than by a command of their own (walkers, DMA engines, Plumb arrays, save and restore). -/
namespace Sys2Proof.Machine

/-! ### Reading -/

/-- The write to HBM of a sector that is newest and not yet performed. -/
def pendingWr (s : State) (l : Nat) : Option HbmWr :=
  let c := chanGet s (chanOf (hbmPlace l))
  ((c.wq ++ c.wHeld).filter fun w => w.addr == l / 64 * 64).getLast?

/-- A sector of HBM with the writes that wait in its channel. -/
def memSector (s : State) (l : Nat) : List Byte × Bool :=
  match pendingWr s l with
  | some w => (w.data, w.poison)
  | none => cellRead s (rowKey (resolveRow s 64 (hbmPlace l)).1) (l % 1024 / 64 * 64)

/-- The home slice of a line of this device, whatever its placement: the one that holds it. -/
def holdingHome (s : State) (g : Nat) : Option (Nat × Way) :=
  [homeSlice g true, homeSlice g false].findSome? fun k => (homeWay s k (lineOf g)).map fun w => (k, w)

/-- A sector at its home. -/
def homeSector (s : State) (g : Nat) (w : Way) : List Byte × Bool :=
  let i := g % 1024 / 64
  if w.svalid.getLsbD i then (sectorBytes w.data i, w.spoison.getLsbD i) else memSector s (localOf g)

/-- The newest value of a sector of this device's memory; none where another device or the host holds the line, or where
the address is not in the memory of this device. -/
def viewSector (s : State) (g : Nat) : Option (List Byte × Bool) :=
  if devOf g != devId s || decide (backedBytes ≤ localOf g) then none
  else if ((dirOf s g true).map (·.mode)) = some .exclusive || ((dirOf s g false).map (·.mode)) = some .exclusive then none
  else
    match holdingHome s g with
    | none => some (memSector s (localOf g))
    | some (_, w) =>
      if w.dir.own = .none then some (homeSector s g w)
      else
        match agentOf w.dir.owner g with
        | .host => none
        | .siteP => none
        | a =>
          let i := g % 1024 / 64
          let c := cacheGet s a
          match findWay c (lineOf g), findEvict c (lineOf g) with
          | some e, _ => some (sectorBytes e.2.data i, e.2.spoison.getLsbD i)
          | none, some e => some (sectorBytes e.data i, e.spoison.getLsbD i)
          | none, none => some (homeSector s g w)

/-- 64 free bytes: what the model does not hold (assumption 24). -/
def freeBytes (s : State) : List Byte × State := let f := draw s; (leBytes 64 f.1, f.2)

/-- Read the sector of an address; free bytes where the model does not hold it. -/
def readView (g : Nat) (s : State) : (List Byte × Bool) × State :=
  if isTileWin s g then
    dmaTileRead (localOf g % 2 ^ 40 / 2 ^ 20) (localOf g % 2 ^ 20 / 64) (wakeFor (localOf g % 2 ^ 40 / 2 ^ 20) s)
  else match viewSector s g with
  | some d => (d, s)
  | none => let f := freeBytes s; ((f.1, false), f.2)

/-- Read `n` sectors: their bytes, and whether any is poisoned. -/
def readSectors : Nat → Nat → State → (List Byte × Bool) × State
  | 0, _, s => (([], false), s)
  | n + 1, g, s =>
    let a := readView g s
    let b := readSectors n (g + 64) a.2
    ((slice a.1.1 0 64 ++ b.1.1, a.1.2 || b.1.2), b.2)

/-- Read `len` bytes from any address. -/
def readBytes (g len : Nat) (s : State) : (List Byte × Bool) × State :=
  if len = 0 then (([], false), s)
  else
    let r := readSectors ((g % 64 + len + 63) / 64) (g / 64 * 64) s
    ((slice r.1.1 (g % 64) len, r.1.2), r.2)

/-- Bytes of a range of this device's memory (structures of which the spec says that they lie in its backed HBM); free where
the model does not hold them (assumption 24). -/
def localBytes (s : State) (l len : Nat) : List Byte :=
  slice ((List.range ((l % 64 + len + 63) / 64)).flatMap fun i =>
    let g := globalOf s (l / 64 * 64 + 64 * i)
    slice ((viewSector s g).map (·.1) |>.getD (leBytes 64 (Config.unseen s.freeCtr g))) 0 64) (l % 64) len

/-- A sector of the range is poisoned. -/
def localPoison (s : State) (l len : Nat) : Bool :=
  (List.range ((l % 64 + len + 63) / 64)).any fun i =>
    ((viewSector s (globalOf s (l / 64 * 64 + 64 * i))).map (·.2)).getD false

/-! ### Writing -/

/-- Messages that stay in the package. -/
def inPackage : Agent → Bool
  | .device _ => false
  | .host => false
  | .siteP => false
  | _ => true

/-- Deliver the Bezel messages of a line that stay in the package, oldest first (assumption 24). -/
def runLine : Nat → Nat → State → State
  | 0, _, s => s
  | f + 1, line, s =>
    match s.uc.sent.find? fun b => lineOf b.m.addr == line && inPackage b.m.dst with
    | none => s
    | some b =>
      match bezelIn b.op b.m s with
      | .next t => runLine f line t
      | _ => s

/-- Merge a masked write into sector bytes. -/
def mergeBytes (d : List Byte) (bs : List (Bool × Byte)) : List Byte :=
  (List.range 64).map fun i =>
    match bs[i]? with
    | some (true, b) => b
    | _ => d.getD i 0

/-- Who writes, and under which attributes. -/
structure WriteAs where
  who : Agent
  near : Bool := false
  hint : Nat := 0
  bwClass : Nat := 0
  ctx : Nat := 0xFFFF

/-- Write the enabled bytes of one sector at its home (R177, R233). -/
def writeSector (a : WriteAs) (g : Nat) (bs : List (Bool × Byte)) (p : Bool) (s : State) : State :=
  if isTileWin s g then
    dmaTileMasked (localOf g % 2 ^ 40 / 2 ^ 20) (localOf g % 2 ^ 20 / 64) bs p (wakeFor (localOf g % 2 ^ 40 / 2 ^ 20) s)
  else if isHostAddr g && !cxlFor s a.ctx then hostWrite a.who 0 g bs p a.ctx s
  else
    let whole := decide (bs.length = 64) && bs.all (·.1)
    let v := if whole then (([], false), s) else readView g s
    let bs := if whole then bs else (mergeBytes v.1.1 bs).map fun b => (true, b)
    let near := a.near
    let k := if devOf g != devId s || isHostAddr g then proxySlice g else homeSlice g near
    let r : UcReq := { src := a.who, txn := 0, addr := g / 64 * 64, near := near, hint := a.hint, scratch := false,
                       bwClass := a.bwClass, ctx := a.ctx, part := ctxPart a.ctx, write := some bs,
                       poison := p || v.1.2 }
    runLine 64 (lineOf g) (serveReq k r .clean v.2)

/-- Write a run of bytes from any address, sector by sector. -/
def writeRun (a : WriteAs) (p : Bool) : Nat → Nat → List Byte → State → State
  | 0, _, _, s => s
  | _, _, [], s => s
  | f + 1, g, bs, s =>
    let o := g % 64
    let now := bs.take (64 - o)
    writeRun a p f (g + (64 - o)) (bs.drop (64 - o))
      (writeSector a g (List.replicate o (false, 0) ++ now.map (fun b => (true, b)) ++
        List.replicate (64 - o - now.length) (false, 0)) p s)

/-- Write bytes. -/
def writeBytes (a : WriteAs) (g : Nat) (bs : List Byte) (p : Bool) (s : State) : State :=
  writeRun a p (bs.length + 1) g bs s

end Sys2Proof.Machine
end

