-- ==== Sys2Proof/Machine/Xlat.lean ====
section
/-! DEFINITION. Address translation, windows, and the commands that change them (R178 to R188). -/
namespace Sys2Proof.Machine

/-! ### Counters kept twice (R188) -/

/-- Index under which a partition's own copy of an object is kept. -/
def partIdx (p idx : Nat) : Nat := 0x10000 * (p + 1) + idx

/-- Count and record a translation fault (R180, R188). -/
def countXlatFault (ctx reason va : Nat) (s : State) : State :=
  [0x2208, partIdx (ctxPart ctx) 0x2208].foldl (fun s i =>
    setNum (i + 1) 3 va (setNum (i + 1) 2 reason (setNum (i + 1) 1 ctx (bump i 2 s)))) s

/-- Count a window overlap met by a fill (R184), logged where OVERLAP_LOG asks for it. -/
def countOverlap (ctx : Nat) (s : State) : State :=
  let s := bump (partIdx (ctxPart ctx) 0x2208) 1 (bump 0x2208 1 s)
  let now := time s / 1000000000
  if num s 0x6208 1 0 = 1 && sfind s.dict.ignLogged (256 * 0x2208 + 1) != some now then
    logRec { index := 0x2208, sub := 1, sev := 1, ctx := ctx, part := ctxPart ctx, payload := leBytes 4 (num s 0x2208 1 0) }
      { s with dict := { s.dict with ignLogged := sput s.dict.ignLogged (256 * 0x2208 + 1) now } }
  else s

/-! ### The walk (R178 to R180) -/

/-- A leaf of the tables: its page bits [63:16] for the granule, and its permissions. -/
structure Leaf where
  page : Nat
  read : Bool
  write : Bool
  exec : Bool

/-- What a walk gives: a leaf, or a reason of R180. -/
inductive WalkRes
  | leaf (l : Leaf)
  | fail (reason : Nat)

/-- Low bits of a leaf's PAGE field that must be 0, and index bits below, per level (R178, R179). -/
def levelShift : Nat → Nat
  | 1 => 30
  | 2 => 21
  | _ => 16

/-- Index of a level in a virtual address (R178). -/
def levelIndex (va : Nat) : Nat → Nat
  | 1 => bits va 30 18
  | 2 => bits va 21 9
  | _ => bits va 16 5

/-- One level of the walk: `base` is the table's local address; at most three levels. -/
def walkLevel (s : State) (va : Nat) : Nat → Nat → Nat → WalkRes
  | 0, _, _ => .fail 3
  | fuel + 1, lvl, base =>
    let at_ := base + 8 * levelIndex va lvl
    if backedBytes ≤ at_ then .fail 8
    else if localPoison s at_ 8 then .fail 9
    else
      let e := leNat (localBytes s at_ 8)
      if !bit e 0 then .fail 2
      else if bits e 5 3 != 0 then .fail 3
      else if bit e 1 then
        if bits e 8 8 != 0 || bits e 16 (levelShift lvl - 16) != 0 then .fail 3
        else .leaf { page := e / 2 ^ 16 + bits va 16 (levelShift lvl - 16), read := bit e 2, write := bit e 3, exec := bit e 4 }
      else if lvl = 3 || bits e 56 8 != 0 then .fail 3
      else
        let next := 256 * bits e 8 48
        if lvl = 1 && next % 4096 != 0 then .fail 3
        else if backedBytes ≤ next then .fail 8
        else walkLevel s va fuel (lvl + 1) next

/-- The reason a permission denies an access of a kind. -/
def denied (l : Leaf) (k : Access) : Option Nat :=
  match k with
  | .load => if l.read then none else some 4
  | .store => if l.write then none else some 5
  | .atomic => if !l.read then some 4 else if l.write then none else some 5
  | .fetch => if l.exec then none else some 6

/-- Walk the tables of a context. -/
def walk (s : State) (ctx va : Nat) : WalkRes :=
  let d := (ctxGet s ctx).desc
  if 2 ^ 48 ≤ va then .fail 1
  else if d.rootSpan ≤ levelIndex va 1 then .fail 2
  else if backedBytes ≤ d.rootBase then .fail 8
  else walkLevel s va 3 1 d.rootBase

/-! ### Windows (R182 to R184) -/

/-- A window entry of R182. -/
structure WinEntry where
  base : Nat
  granules : Nat
  prio : Nat
  flags : Nat
  cls : Nat
  ok : Bool

def parseWin (b : List Byte) : WinEntry :=
  let r : WinEntry := { base := field b 0 8, granules := field b 8 4, prio := field b 12 1, flags := field b 13 1,
                        cls := field b 14 1, ok := true }
  let range := decide (r.base % 65536 = 0) && decide (1 ≤ r.granules) && decide (r.base + 65536 * r.granules ≤ 2 ^ 48)
  { r with ok := (!bit r.flags 0 || range) && decide (r.prio ≤ 7) && bits r.flags 6 2 == 0 &&
      decide (bits r.cls 0 3 ≤ 4) && !bit r.cls 3 && decide (bits r.cls 4 2 ≤ 1) && bits r.cls 6 2 == 0 &&
      field b 15 17 == 0 }

/-- The entry is VALID and its range holds an address. -/
def winHolds (w : WinEntry) (va : Nat) : Bool :=
  bit w.flags 0 && decide (w.base ≤ va) && decide (va < w.base + 65536 * w.granules)

/-- The window table of a context, lowest entry first. -/
def winTable (s : State) (ctx : Nat) : List WinEntry :=
  let d := (ctxGet s ctx).desc
  (List.range (min d.winCount 64)).map fun i => parseWin (localBytes s (d.winBase + 32 * i) 32)

/-- The winning entry of an address, and whether several tie (R184). -/
def winMatch (l : List WinEntry) (va : Nat) : Option (WinEntry × Bool) :=
  let m := l.filter fun w => winHolds w va
  match (m.map (·.prio)).max? with
  | none => none
  | some p =>
    let t := m.filter fun w => w.prio == p
    t.head?.map fun w => (w, decide (1 < t.length))

/-- A cached translation of a granule, from its leaf and its window; the defaults of OD 0x2201 where none matches
(R183). -/
def makeXlat (s : State) (ctx va : Nat) (l : Leaf) (w : Option WinEntry) : Xlat :=
  let base : Xlat :=
    { ctx := ctx, granule := va / 65536, page := l.page, read := l.read, write := l.write, exec := l.exec,
      near := num s 0x2201 1 0 == 1, hint := num s 0x2201 2 0, scratch := false,
      l1Uncached := num s 0x2201 3 0 == 1, atomicOk := num s 0x2201 4 1 == 1, noWrite := false, bwClass := 0 }
  match w with
  | none => base
  | some w => { base with near := bit w.flags 2, hint := bits w.cls 0 3, scratch := bit w.flags 1,
                          l1Uncached := bit w.flags 3, atomicOk := bit w.flags 4, noWrite := bit w.flags 5,
                          bwClass := bits w.cls 4 2 }

/-- Fill the translation of an address: a translation, or a reason; an overlap is counted. -/
def fillXlat (ctx va : Nat) (s : State) : (Xlat ⊕ Nat) × State :=
  match walk s ctx va with
  | .fail r => (.inr r, s)
  | .leaf l =>
    match winMatch (winTable s ctx) (va / 65536 * 65536) with
    | none => (.inl (makeXlat s ctx va l none), s)
    | some w => (.inl (makeXlat s ctx va l (some w.1)), if w.2 then countOverlap ctx s else s)

/-- The reason for which a translation denies an access (R180, R183): permissions of the leaf, then of the window. -/
def xlatDenied (s : State) (x : Xlat) (k : Access) : Option Nat :=
  match denied { page := x.page, read := x.read, write := x.write, exec := x.exec } k with
  | some r => some r
  | none =>
    match k with
    | .store => if x.noWrite then some 5 else none
    | .atomic =>
      if x.noWrite then some 5
      else if !x.atomicOk then some 7
      else if isHostAddr (2 ^ 16 * x.page) && !cxlFor s x.ctx then some 7 else none
    | _ => none

/-- The global address that a translation gives. -/
def xlatAddr (x : Xlat) (va : Nat) : Nat := 65536 * x.page + va % 65536

/-- The cached translation of a core for an address. -/
def findXlat (s : State) (c ctx va : Nat) : Option Xlat :=
  (coreGet s c).xlat.find? fun x => x.ctx == ctx && x.granule == va / 65536

/-- Translate for a core: from its cache, or by a fill that the cache keeps (R181). -/
def translate (c ctx va : Nat) (k : Access) (s : State) : (Xlat ⊕ Nat) × State :=
  match findXlat s c ctx va with
  | some x => (match xlatDenied s x k with
    | some r => .inr r
    | none => .inl x, s)
  | none =>
    match fillXlat ctx va s with
    | (.inr r, s) => (.inr r, s)
    | (.inl x, s) =>
      let s := modCore c (fun z => { z with xlat := z.xlat ++ [x] }) s
      (match xlatDenied s x k with
       | some r => .inr r
       | none => .inl x, s)

/-- Translate for a unit that keeps no translation in the model: DMA engines and Plumb arrays (assumption 24). -/
def translateOnce (ctx va : Nat) (k : Access) (s : State) : (Xlat ⊕ Nat) × State :=
  match fillXlat ctx va s with
  | (.inr r, s) => (.inr r, s)
  | (.inl x, s) => (match xlatDenied s x k with
    | some r => .inr r
    | none => .inl x, s)

/-- A translation fault of a DMA engine, ring DMA or Plumb array (R180, R478). -/
def dmaXlatFault (ctx source reason va : Nat) (s : State) : State :=
  ctxFault ctx { cause := 5, code := reason, source := source, address := va } (countXlatFault ctx reason va s)

/-- XLAT_WALK: a fill for a core's thread group, or for another agent of a context. A fetch that succeeds brings its line
into the L1 instruction cache. -/
def execXlatWalk (who : Agent) (slot ctx va : Nat) (kind : Access) (s : State) : Host.Outcome State Fault Refusal :=
  match who with
  | .core c =>
    if Config.nCores ≤ c || 16 ≤ slot then .refused .illFormed
    else if (ctxGet s ctx).st = .none then .next s
    else
      match translate c ctx va kind s with
      | (.inl x, s) =>
        .next (if kind = .fetch then modCore c (fun k => { k with l1i := ladd k.l1i (xlatAddr x va / 64) }) s else s)
      | (.inr r, s) =>
        .next (raiseExc c slot (if kind = .fetch then 1 else 8) (slotGet (coreGet s c) slot).mask va none
          (countXlatFault ctx r va s))
  | a =>
    if (ctxGet s ctx).st = .none then .next s
    else
      match translateOnce ctx va kind s with
      | (.inl _, s) => .next s
      | (.inr r, s) =>
        .next (dmaXlatFault ctx (match a with
          | .plumb _ => 3
          | .host => 2
          | _ => 1) r va s)

/-! ### XLAT_INVAL and WIN_UPDATE (R181, R185, R186) -/

/-- Drop every core's cached translations of a range of a context. -/
def dropXlat (ctx va len : Nat) (s : State) : State :=
  { s with cores := s.cores.map fun e => (e.1, { e.2 with xlat := e.2.xlat.filter fun x =>
      !(x.ctx == ctx && decide (va < 65536 * (x.granule + 1)) && decide (65536 * x.granule < va + len)) }) }

/-- XLAT_INVAL: a length of 0 is the whole space (R188). -/
def xlatInval (ctx va len : Nat) (s : State) : State := dropXlat ctx va (if len = 0 then 2 ^ 48 else len) s

/-- A context that a command may name: it has been created (R185). -/
def ctxExists (s : State) (ctx : Nat) : Bool := decide (ctx < 1024) && (ctxGet s ctx).st != .none

def execXlatInval (ctx va len : Nat) (s : State) : Host.Outcome State Fault Refusal :=
  .next (if ctxExists s ctx then ok (xlatInval ctx va len s) else failed 2 s)

/-- The global lines that a range of a context maps to and that a home of this device serves, by the walk. -/
def rangeGranules (s : State) (ctx base granules : Nat) : List Nat :=
  (List.range granules).filterMap fun i =>
    match walk s ctx (base + 65536 * i) with
    | .leaf l => some l.page
    | .fail _ => none

/-- Write back and invalidate the UC lines of granules (R186): home copies without holders at once; a line with holders is
recalled first. -/
def flushGranules (l : List Nat) (s : State) : State :=
  (List.range Config.nSlices).foldl (fun s k =>
    (cacheGet s (.slice k)).ways.foldl (fun s e =>
      if l.contains (e.2.tag / 64) then
        if e.2.st = .home then
          (if hasHolders e.2 then startRecall k e.2 .evict s else evictHome k e.2 s)
        else evictCopy (.slice k) e.2 s
      else s) s) s

/-- Write a window entry: `reason` where it is refused (R185). -/
def winUpdate (ctx idx : Nat) (entry : List Byte) (s : State) : Nat ⊕ State :=
  let w := parseWin entry
  if !ctxExists s ctx then .inl 2
  else if entry.length != 32 || !w.ok then .inl 1
  else if 64 ≤ idx then .inl 3
  else
    let at_ := (ctxGet s ctx).desc.winBase + 32 * idx
    let old := parseWin (localBytes s at_ 32)
    let s := writeBytes { who := .cc 0, ctx := ctx } (globalOf s at_) entry false s
    let s := dropXlat ctx w.base (65536 * w.granules) s
    let s := if bit old.flags 0 then dropXlat ctx old.base (65536 * old.granules) s else s
    .inr (if bit old.flags 0 && bit old.flags 2 != bit w.flags 2 then
      homesGoOn (flushGranules (rangeGranules s ctx old.base old.granules) s) else s)

/-- WIN_UPDATE. -/
def execWinUpdate (ctx idx : Nat) (entry : List Byte) (s : State) : Host.Outcome State Fault Refusal :=
  match winUpdate ctx (min idx 63) entry s with
  | .inl r => .next (failed r s)
  | .inr t => .next (ok t)

end Sys2Proof.Machine
end

