-- ==== Sys2Proof/Machine/PlanOps.lean ====
section
/-! DEFINITION. Plan images: their records, and the checks of the loader (R406 to R411, R416, R419, R423 to R425). -/
namespace Sys2Proof.Machine

/-! ### Records of an image -/

/-- The reader of an image that begins at a local address: offset and size give the value. -/
def imgRead (s : State) (base off n : Nat) : Nat := leNat (localBytes s (base + off) n)

/-- The plan header (R406). -/
structure PlanHdr where
  magic : Nat
  version : Nat
  kernels : Nat
  dims : Nat
  bytes : Nat
  features : Nat
  tableLen : Nat
  groups : Nat
  cols : Nat
  rows : Nat
  variants : Nat
  variantOff : Nat
  /-- The Reserved fields at 21 and at 32. -/
  res21 : Nat
  res32 : Nat

def planHdr (rd : Nat → Nat → Nat) : PlanHdr :=
  { magic := rd 0 4, version := rd 4 2, kernels := rd 6 1, dims := rd 7 1, bytes := rd 8 4, features := rd 12 4,
    tableLen := rd 16 2, groups := rd 18 1, cols := rd 19 1, rows := rd 20 1, variants := rd 24 4, variantOff := rd 28 4,
    res21 := rd 21 3, res32 := rd 32 32 }

/-- A dimension record (R407). -/
structure PlanDim where
  off : Nat
  count : Nat
  flags : Nat
  sizes : List Nat
  /-- The Reserved fields at 2 and at 36. -/
  res2 : Nat
  res36 : Nat

def PlanDim.split (d : PlanDim) : Bool := bit d.flags 0
def PlanDim.position (d : PlanDim) : Bool := bit d.flags 1
/-- The buckets in use. -/
def PlanDim.used (d : PlanDim) : List Nat := d.sizes.take d.count
/-- The largest bucket. -/
def PlanDim.largest (d : PlanDim) : Nat := d.used.getLastD 0

def planDims (rd : Nat → Nat → Nat) (n : Nat) : List PlanDim :=
  (List.range n).map fun i =>
    let o := 64 + 40 * i
    { off := o, count := rd o 1, flags := rd (o + 1) 1, sizes := (List.range 8).map fun j => rd (o + 4 + 4 * j) 4,
      res2 := rd (o + 2) 2, res36 := rd (o + 36) 4 }

/-- A kernel record (R409), with its variant, its number and its offset. -/
structure KRec where
  variant : Nat
  index : Nat
  off : Nat
  entry : Nat
  /-- TILE_M, TILE_N, TILE_K. -/
  tiles : List Nat
  order : Nat
  fusion : Nat
  /-- EXT_M, EXT_N, EXT_K. -/
  exts : List Nat
  runLen : Nat
  coresUsed : Nat
  worst : Nat
  gbCount : Nat
  buffers : Nat
  windows : Nat
  /-- GB_LAYOUT, eight bytes. -/
  layout : List Nat
  /-- ACC_REGIONS: base and length in entries, eight of them. -/
  regions : List (Nat × Nat)
  /-- DUTY of the banks: a and b. -/
  duty : List (Nat × Nat)
  bufferOff : Nat
  dmaOff : Nat
  slotOff : Nat
  injOff : Nat
  injMax : Nat
  reserved : Nat

def kernelRec (rd : Nat → Nat → Nat) (v k o : Nat) : KRec :=
  { variant := v, index := k, off := o, entry := rd o 8, tiles := [rd (o + 8) 2, rd (o + 10) 2, rd (o + 12) 2],
    order := rd (o + 14) 1, fusion := rd (o + 15) 1, exts := [rd (o + 16) 4, rd (o + 20) 4, rd (o + 24) 4],
    runLen := rd (o + 28) 2, coresUsed := rd (o + 30) 2, worst := rd (o + 32) 4, gbCount := rd (o + 36) 1,
    buffers := rd (o + 37) 1, windows := rd (o + 38) 2, layout := (List.range 8).map fun g => rd (o + 40 + g) 1,
    regions := (List.range 8).map fun g => (256 * rd (o + 48 + 2 * g) 1, 256 * rd (o + 49 + 2 * g) 1),
    duty := (List.range 4).map fun b => (bits (rd (o + 64 + b) 1) 0 4, bits (rd (o + 64 + b) 1) 4 4),
    bufferOff := rd (o + 68) 4, dmaOff := rd (o + 72) 4, slotOff := rd (o + 76) 4, injOff := rd (o + 80) 4,
    injMax := rd (o + 84) 2, reserved := rd (o + 86) 42 }

/-- The offset of a variant record (R408). -/
def variantOff (rd : Nat → Nat → Nat) (h : PlanHdr) (v : Nat) : Nat := rd (h.variantOff + 4 * v) 4

/-- The kernel record of a variant. -/
def kernelOf (rd : Nat → Nat → Nat) (h : PlanHdr) (v k : Nat) : KRec := kernelRec rd v k (variantOff rd h v + 128 * k)

/-- Every kernel record, variants first. -/
def kernelRecs (rd : Nat → Nat → Nat) (h : PlanHdr) : List KRec :=
  (List.range h.variants).flatMap fun v => (List.range h.kernels).map fun k => kernelOf rd h v k

def KRec.tile (k : KRec) (a : Nat) : Nat := k.tiles.getD a 1
def KRec.ext (k : KRec) (a : Nat) : Nat := k.exts.getD a 0
/-- The variable dimension that an axis is tied to (R409). -/
def KRec.dim (k : KRec) (a : Nat) : Option Nat := if bit (k.ext a) 31 then some (k.ext a % 4) else none

/-- A buffer record (R410). -/
structure PlanBuf where
  off : Nat
  offset : Nat
  bytes : Nat
  role : Nat
  type : Nat
  copies : Nat
  chain : Nat
  reserved : Nat

def planBuf (rd : Nat → Nat → Nat) (k : KRec) (i : Nat) : PlanBuf :=
  let o := k.bufferOff + 16 * i
  { off := o, offset := rd o 4, bytes := rd (o + 4) 4, role := rd (o + 8) 1, type := rd (o + 9) 1, copies := rd (o + 10) 1,
    chain := rd (o + 11) 1, reserved := rd (o + 12) 4 }

def planBufs (rd : Nat → Nat → Nat) (k : KRec) : List PlanBuf := (List.range k.buffers).map (planBuf rd k)

/-- Bytes of one copy. -/
def PlanBuf.copy (b : PlanBuf) : Nat := b.bytes / b.copies

/-- A DMA window record (R416). -/
structure PlanWin where
  off : Nat
  core : Nat
  arg : Nat
  dir : Nat
  hint : Nat
  flags : Nat
  buffer : Nat
  axes : Nat
  offset : Nat
  rowStride : Nat
  rows : Nat
  rowBytes : Nat
  /-- STEP_M, STEP_N, STEP_K as stored. -/
  steps : List Nat
  flagSector : Nat
  elemBits : Nat
  /-- The Reserved field at 39. -/
  res39 : Nat

def planWin (rd : Nat → Nat → Nat) (k : KRec) (i : Nat) : PlanWin :=
  let o := k.dmaOff + 48 * i
  { off := o, core := rd o 2, arg := rd (o + 2) 1, dir := rd (o + 3) 1, hint := rd (o + 4) 1, flags := rd (o + 5) 1,
    buffer := rd (o + 6) 1, axes := rd (o + 7) 1, offset := rd (o + 8) 8, rowStride := rd (o + 16) 4,
    rows := rd (o + 20) 2, rowBytes := rd (o + 22) 2, steps := [rd (o + 24) 4, rd (o + 28) 4, rd (o + 32) 4],
    flagSector := rd (o + 36) 2, elemBits := rd (o + 38) 1,
    res39 := rd (o + 39) 9 }

def planWins (rd : Nat → Nat → Nat) (k : KRec) : List PlanWin := (List.range k.windows).map (planWin rd k)

/-- A U32 read as I32. -/
def int32 (v : Nat) : Int := if v < 2 ^ 31 then v else (v : Int) - 2 ^ 32

/-- A slot entry of a footprint router (R193, R409). -/
def slotEntry (rd : Nat → Nat → Nat) (h : PlanHdr) (k : KRec) (f i : Nat) : Nat := rd (k.slotOff + 4 * (f * h.tableLen + i)) 4

/-- An injection entry of a footprint router (R194, R409). -/
def injEntry (rd : Nat → Nat → Nat) (k : KRec) (f i : Nat) : Nat := rd (k.injOff + 4 * (f * k.injMax + i)) 4

/-! ### The footprint (R411) -/

/-- Cores of the footprint. -/
def PlanHdr.cores (h : PlanHdr) : Nat := 32 * h.cols * h.rows

/-- Column and row of footprint core f within the die. -/
def footXY (h : PlanHdr) (origin f : Nat) : Nat × Nat :=
  (8 * (origin % 36 % 4) + f % (8 * h.cols), 4 * (origin % 36 / 4) + f / (8 * h.cols))

/-- Device core number of footprint core f. -/
def footCore (h : PlanHdr) (origin f : Nat) : Nat :=
  1152 * (origin / 36) + 32 * (footXY h origin f).2 + (footXY h origin f).1

/-- The footprint passes logical column 31, or row 35: the header field that makes it so. -/
def footOut (h : PlanHdr) (origin : Nat) : Option Nat :=
  if 32 < 8 * (origin % 36 % 4) + 8 * h.cols then some 19
  else if 36 < 4 * (origin % 36 / 4) + 4 * h.rows then some 20
  else none

/-- Device sections of the footprint. -/
def footSections (h : PlanHdr) (origin : Nat) : List Nat :=
  (List.range h.rows).flatMap fun r => (List.range h.cols).map fun c => origin + 4 * r + c

/-! ### The loader's checks (R423) -/

/-- A failing check: its reason and the places that the reject record names (R430). -/
structure PlanBad where
  reason : Nat
  variant : Nat := 0xFFFF
  detail : Nat := 0xFFFFFFFF
  place : Nat := 0xFFFF
  kernel : Nat := 0xFF

/-- A check that fails in a kernel at an image offset. -/
def KRec.bad (k : KRec) (reason detail : Nat) (place : Nat := 0xFFFF) : PlanBad :=
  { reason := reason, variant := k.variant, detail := detail, place := place, kernel := k.index }

/-- `off` to `off + len` lies in the image, and `off` is a multiple of 64 (R406). -/
def placed (h : PlanHdr) (off len : Nat) : Bool := off % 64 == 0 && decide (off + len ≤ h.bytes)

/-- The first of a list of tests that fails, by the image offset of its field. -/
def firstBad (l : List (Bool × Nat)) : Option Nat := (l.find? (·.1)).map (·.2)

/-- Every slot entry of a kernel: router and index. -/
def slotPlaces (h : PlanHdr) : List (Nat × Nat) :=
  (List.range h.cores).flatMap fun f => (List.range h.tableLen).map fun i => (f, i)

/-- Image offset of a slot entry. -/
def slotEntryAt (h : PlanHdr) (k : KRec) (f i : Nat) : Nat := k.slotOff + 4 * (f * h.tableLen + i)

/-- BAD_HEADER in a kernel record: the tables it names, and what is Reserved. -/
def kernelForm (rd : Nat → Nat → Nat) (h : PlanHdr) (k : KRec) : Option PlanBad :=
  let form := firstBad
    ([(k.reserved != 0, k.off + 86), (!placed h k.bufferOff (16 * k.buffers), k.off + 68),
      (!placed h k.dmaOff (48 * k.windows), k.off + 72), (!placed h k.slotOff (4 * h.tableLen * h.cores), k.off + 76),
      (!placed h k.injOff (4 * k.injMax * h.cores), k.off + 80)] ++
     (planBufs rd k).map (fun b => (b.reserved != 0, b.off + 12)) ++
     (planWins rd k).flatMap fun w =>
       [(bits w.flags 1 7 != 0, w.off + 5), (bit w.axes 7, w.off + 7), (w.res39 != 0, w.off + 39)])
  match form with
  | some d => some (k.bad 1 d)
  | none => (slotPlaces h).findSome? fun p =>
      if bits (slotEntry rd h k p.1 p.2) 23 9 != 0 then some (k.bad 1 (slotEntryAt h k p.1 p.2) p.1) else none

/-- 0x0001 BAD_HEADER. -/
def chkHeader (rd : Nat → Nat → Nat) (h : PlanHdr) : Option PlanBad :=
  let form := firstBad
    ([(h.magic != 0x4E414C50, 0), (decide (h.bytes < 64) || decide (2 ^ 28 < h.bytes), 8), (h.res21 != 0, 21),
      (h.res32 != 0, 32), (decide (h.bytes < 64 + 40 * h.dims), 7)] ++
     ((planDims rd h.dims).flatMap fun d =>
       [(bits d.flags 2 6 != 0, d.off + 1), (d.res2 != 0, d.off + 2), (d.res36 != 0, d.off + 36)]) ++
     [(!placed h h.variantOff (4 * h.variants), 28)])
  match form with
  | some d => some { reason := 1, detail := d }
  | none =>
    (List.range h.variants).findSome? fun v =>
      if placed h (variantOff rd h v) (128 * h.kernels) then
        (List.range h.kernels).findSome? fun k => kernelForm rd h (kernelOf rd h v k)
      else some { reason := 1, variant := v, detail := h.variantOff + 4 * v }

/-- Sizes strictly ascending. -/
def ascending : List Nat → Bool
  | a :: b :: t => decide (a < b) && ascending (b :: t)
  | _ => true

/-- A dimension's sizes are as R407 has them. -/
def sizesOk (d : PlanDim) : Bool :=
  ascending d.used && d.used.all (fun x => decide (1 ≤ x) && decide (x ≤ 2 ^ 24)) && (d.sizes.drop d.count).all (· == 0)

/-- 0x0008 BUCKETS. -/
def chkBuckets (h : PlanHdr) (ds : List PlanDim) (ks : List KRec) : Option PlanBad :=
  if 4 < h.dims then some { reason := 8, detail := 7 }
  else
    match firstBad (ds.flatMap fun d =>
        [(d.count == 0 || decide (8 < d.count), d.off), (!sizesOk d, d.off + 4)]) with
    | some o => some { reason := 8, detail := o }
    | none =>
      let n := (ds.map (·.count)).prod
      let pos := ds.filter PlanDim.position
      if h.variants != n || 256 < n then some { reason := 8, detail := 24 }
      else if 1 < pos.length then some { reason := 8, detail := (pos[1]?.map (·.off)).getD 64 + 1 }
      else
        ks.findSome? fun k => (List.range 3).findSome? fun a =>
          match k.dim a with
          | none => none
          | some d =>
            match ds[d]? with
            | none => none
            | some x =>
              if x.split && k.tile a != 0 && x.largest % k.tile a != 0 then some (k.bad 8 (k.off + 16 + 4 * a)) else none

/-- 0x0009 COUNTS. -/
def chkCounts (h : PlanHdr) (ks : List KRec) : Option PlanBad :=
  if h.kernels = 0 || 16 < h.kernels then some { reason := 9, detail := 6 }
  else if h.tableLen = 0 || 4096 < h.tableLen then some { reason := 9, detail := 16 }
  else if 64 < h.groups then some { reason := 9, detail := 18 }
  else
    ks.findSome? fun k =>
      if 32 < k.buffers then some (k.bad 9 (k.off + 37))
      else if 8192 < k.windows then some (k.bad 9 (k.off + 38))
      else if 4096 < k.injMax then some (k.bad 9 (k.off + 84))
      else if k.runLen = 0 then some (k.bad 9 (k.off + 28))
      else if k.coresUsed = 0 || h.cores < k.coresUsed then some (k.bad 9 (k.off + 30))
      else none

/-- 0x000A TILE_SHAPE. -/
def chkShape (h : PlanHdr) (ks : List KRec) : Option PlanBad :=
  let tileOk := fun t lo hi step : Nat => decide (lo ≤ t) && decide (t ≤ hi) && t % step == 0
  ks.findSome? fun k =>
    if !tileOk (k.tile 0) 16 128 16 then some (k.bad 0xA (k.off + 8))
    else if !tileOk (k.tile 1) 16 128 16 then some (k.bad 0xA (k.off + 10))
    else if !tileOk (k.tile 2) 32 2048 32 then some (k.bad 0xA (k.off + 12))
    else if 5 < k.order then some (k.bad 0xA (k.off + 14))
    else if 1 < k.fusion || (k.fusion = 1 && k.index = 0) then some (k.bad 0xA (k.off + 15))
    else (List.range 3).findSome? fun a =>
      if (k.dim a).any (fun d => decide (h.dims ≤ d)) then some (k.bad 0xA (k.off + 16 + 4 * a)) else none

/-- 0x000B GB_SIZE and 0x000C GB_COUNT. -/
def chkGroups (ks : List KRec) : Option PlanBad :=
  match ks.findSome? fun k => (List.range (min k.gbCount 8)).findSome? fun g =>
      if k.layout.getD g 0 = 0 || 16 < k.layout.getD g 0 then some (k.bad 0xB (k.off + 40 + g)) else none with
  | some b => some b
  | none => ks.findSome? fun k =>
      (firstBad ([(k.gbCount == 0 || decide (8 < k.gbCount), k.off + 36),
          (decide (16 < (k.layout.take k.gbCount).sum), k.off + 40)] ++
        (List.range 8).map fun g => (decide (k.gbCount ≤ g) && k.layout.getD g 0 != 0, k.off + 40 + g))).map (k.bad 0xC)

/-- 0x000D ACC_REGION. -/
def chkAcc (ks : List KRec) : Option PlanBad :=
  ks.findSome? fun k =>
    let l := k.regions.take k.gbCount
    (List.range l.length).findSome? fun g =>
      let r := l.getD g (0, 0)
      if r.2 = 0 || 16384 < r.1 + r.2 ||
          (l.take g).any (fun q => decide (q.1 < r.1 + r.2) && decide (r.1 < q.1 + q.2)) then
        some (k.bad 0xD (k.off + 48 + 2 * g))
      else none

/-- 0x000E ALIGNMENT. -/
def chkAlign (rd : Nat → Nat → Nat) (ks : List KRec) : Option PlanBad :=
  ks.findSome? fun k => (firstBad
    ([(k.entry % 8 != 0, k.off)] ++
     ((planBufs rd k).flatMap fun b =>
       [(b.offset % 64 != 0, b.off), (b.copies == 0 || decide (4 < b.copies), b.off + 10),
        (b.bytes % b.copies != 0 || b.copy % 64 != 0, b.off + 4)]) ++
     (planWins rd k).flatMap fun w =>
       let u := if bit w.flags 0 then 1024 else 64
       [(w.offset % u != 0, w.off + 8), (w.rowStride % u != 0, w.off + 16), (w.rowBytes % u != 0, w.off + 22)] ++
         (List.range 3).map fun a => (w.steps.getD a 0 % u != 0, w.off + 24 + 4 * a))).map (k.bad 0xE)

/-- Round up to a multiple of 64. -/
def up64 (n : Nat) : Nat := (n + 63) / 64 * 64

/-- Minimum size of one copy of a buffer (R410). -/
def minCopy (k : KRec) (b : PlanBuf) : Nat :=
  let mk := if b.role = 1 then k.tile 1 * k.tile 2 else k.tile 0 * k.tile 2
  match b.role with
  | 0 | 1 => up64 (mk * elemBits b.type / 8 + (if isMx b.type then mk / 32 else 0))
  | 2 => up64 (k.tile 0 * k.tile 1 * elemBits b.type / 8)
  | _ => 0

/-- 0x000F BUFFER_SIZE. A Reserved TYPE has no size that would do. -/
def chkSize (rd : Nat → Nat → Nat) (ks : List KRec) : Option PlanBad :=
  ks.findSome? fun k => (firstBad
    (((planBufs rd k).flatMap fun b =>
       [(decide (b.role ≤ 2) && (elemOf b.type).isNone, b.off + 9), (decide (b.copy < minCopy k b), b.off + 4)]) ++
     (planWins rd k).map fun w =>
       (decide (w.buffer < k.buffers) && decide ((planBuf rd k w.buffer).copy < w.rows * w.rowBytes), w.off + 20))).map
    (k.bad 0xF)

/-- The bank that a role must lie in (R410); role 7 and above lie nowhere. -/
def roleBank (r b : Nat) : Bool :=
  match r with
  | 0 => b == 0
  | 1 => b == 1
  | 2 => true
  | 3 => b == 3
  | 4 => true
  | 5 => true
  | 6 => b == 2
  | _ => false

/-- 0x0010 TILE_FIT. -/
def chkFit (rd : Nat → Nat → Nat) (ks : List KRec) : Option PlanBad :=
  ks.findSome? fun k => (firstBad ((planBufs rd k).flatMap fun b =>
    [(decide (131072 < b.offset % 131072 + b.bytes) || decide (0x80000 ≤ b.offset), b.off),
     (!roleBank b.role (b.offset / 131072), b.off + 8)])).map (k.bad 0x10)

/-- Two buffers share a byte. -/
def PlanBuf.overlaps (b c : PlanBuf) : Bool :=
  b.bytes != 0 && c.bytes != 0 && decide (b.offset < c.offset + c.bytes) && decide (c.offset < b.offset + b.bytes)

/-- 0x0011 BUFFER_OVERLAP. -/
def chkOverlap (rd : Nat → Nat → Nat) (ks : List KRec) : Option PlanBad :=
  ks.findSome? fun k => (List.range k.buffers).findSome? fun i =>
    let b := planBuf rd k i
    if ((planBufs rd k).take i).any b.overlaps then some (k.bad 0x11 b.off) else none

/-- A chained buffer continues the buffer it names (R419). -/
def chainOk (rd : Nat → Nat → Nat) (h : PlanHdr) (k : KRec) (i : Nat) (b : PlanBuf) : Bool :=
  b.chain == 0xFF ||
    (k.fusion == 1 &&
     (let p := kernelOf rd h k.variant (k.index - 1)
      let c := planBuf rd p b.chain
      decide (b.chain < p.buffers) && c.role == 2 && (b.role == 0 || b.role == 1) &&
        (b.type == 5 || b.type == 6 || b.type == 7) && c.offset == b.offset && c.bytes == b.bytes && c.type == b.type &&
        c.copies == b.copies && (planWins rd k).all fun w => w.dir != 0 || w.buffer != i))

/-- 0x0012 CHAIN. -/
def chkChain (rd : Nat → Nat → Nat) (h : PlanHdr) (ks : List KRec) : Option PlanBad :=
  ks.findSome? fun k => (List.range k.buffers).findSome? fun i =>
    let b := planBuf rd k i
    if chainOk rd h k i b then none else some (k.bad 0x12 (b.off + 11))

/-- 0x0013 DMA_WINDOW. -/
def chkWindow (rd : Nat → Nat → Nat) (ks : List KRec) : Option PlanBad :=
  ks.findSome? fun k =>
    let l := planWins rd k
    let inFlags := fun w : PlanWin => (planBufs rd k).any fun b =>
      b.role == 6 && decide (b.offset ≤ 64 * w.flagSector) && decide (64 * w.flagSector + 64 ≤ b.offset + b.bytes)
    (List.range k.windows).findSome? fun i =>
      let w := planWin rd k i
      (firstBad [(decide (k.coresUsed ≤ w.core), w.off), (decide (7 < w.arg), w.off + 2), (decide (1 < w.dir), w.off + 3),
       (decide (4 < w.hint), w.off + 4),
       (decide (k.buffers ≤ w.buffer) || (planBuf rd k w.buffer).role == 6, w.off + 6),
       (!(w.elemBits == 4 || w.elemBits == 6 || w.elemBits == 8 || w.elemBits == 16 || w.elemBits == 32), w.off + 38),
       (!inFlags w || (l.take i).any (fun x => x.flagSector == w.flagSector && x.core == w.core), w.off + 36)]).map
        (k.bad 0x13)

/-- The select of an output: 0 N, 1 S, 2 E, 3 W, 4 CORE (R193). -/
def slotSel (e o : Nat) : Nat := bits e (3 * o) 3

/-- The router beyond a side of the router at (x, y): 0 N, 1 S, 2 E, 3 W; none at the edge of the die. -/
def beyond (x y : Nat) : Nat → Option (Nat × Nat)
  | 0 => if y = 0 then none else some (x, y - 1)
  | 1 => if 35 ≤ y then none else some (x, y + 1)
  | 2 => if 31 ≤ x then none else some (x + 1, y)
  | _ => if x = 0 then none else some (x - 1, y)

/-- The router of a place lies in the footprint. -/
def inFoot (h : PlanHdr) (origin x y : Nat) : Bool :=
  let x0 := (footXY h origin 0).1
  let y0 := (footXY h origin 0).2
  decide (x0 ≤ x) && decide (x < x0 + 8 * h.cols) && decide (y0 ≤ y) && decide (y < y0 + 4 * h.rows)

/-- What is wrong with a slot entry: 0x0014 SLOT_CODE, 0x0015 U_TURN, 0x0016 NO_NEIGHBOUR, 0x0017 OUTSIDE_FOOTPRINT. -/
def slotBad (h : PlanHdr) (origin f e : Nat) : Nat → Bool
  | 0x14 => (List.range 5).any fun o => decide (5 < slotSel e o) || (slotSel e o == 5 && !bit e 15)
  | 0x15 => (List.range 4).any fun o => slotSel e o == o + 1
  | 0x16 =>
    let p := footXY h origin f
    ((List.range 4).any fun o => slotSel e o != 0 && (beyond p.1 p.2 o).isNone) ||
      (List.range 5).any fun o => decide (1 ≤ slotSel e o) && decide (slotSel e o ≤ 4) &&
        (beyond p.1 p.2 (slotSel e o - 1)).isNone
  | _ =>
    let p := footXY h origin f
    (List.range 4).any fun o => slotSel e o != 0 && (match beyond p.1 p.2 o with
      | some q => !inFoot h origin q.1 q.2
      | none => true)

/-- One of the checks of slot entries over every table. -/
def chkSlot (rd : Nat → Nat → Nat) (h : PlanHdr) (origin reason : Nat) (ks : List KRec) : Option PlanBad :=
  ks.findSome? fun k => (slotPlaces h).findSome? fun p =>
    if slotBad h origin p.1 (slotEntry rd h k p.1 p.2) reason then some (k.bad reason (slotEntryAt h k p.1 p.2) p.1) else none

/-- Entries of a router's table with INJ set. -/
def injCount (rd : Nat → Nat → Nat) (h : PlanHdr) (k : KRec) (f : Nat) : Nat :=
  ((List.range h.tableLen).filter fun i => bit (slotEntry rd h k f i) 15).length

/-- 0x0018 INJ_LIST. -/
def chkInj (rd : Nat → Nat → Nat) (h : PlanHdr) (ks : List KRec) : Option PlanBad :=
  ks.findSome? fun k =>
    let src := (planBufs rd k).filter fun b => b.role == 4
    (List.range h.cores).findSome? fun f =>
      let n := injCount rd h k f
      if k.injMax < n then some (k.bad 0x18 (k.off + 84) f)
      else
        (List.range k.injMax).findSome? fun i =>
          let e := injEntry rd k f i
          let o := 64 * bits e 0 13
          let good := if i < n then bits e 13 3 == 0 && bits e 27 5 == 0 &&
              src.any fun b => decide (b.offset ≤ o) && decide (o + 64 ≤ b.offset + b.bytes)
            else e == 0
          if good then none else some (k.bad 0x18 (k.injOff + 4 * (f * k.injMax + i)) f)

/-- Multicast groups of a die that are free (R197). -/
def freeDieGroups (s : State) (die : Nat) : List Nat :=
  (List.range 64).filter fun g => (sfind s.lath.groups (64 * die + g)).isNone

/-- The DUTY of a bank. -/
def KRec.bankDuty (k : KRec) (bank : Nat) : Nat × Nat := k.duty.getD bank (0, 0)

/-- A DUTY is in its range (R409). -/
def dutyOk (d : Nat × Nat) : Bool := decide (1 ≤ d.2) && decide (d.2 ≤ 15) && decide (d.1 ≤ d.2)

/-- A core cycle leaves a bank free of core-side masters, by its DUTY (R424). -/
def dutyFree (d : Nat × Nat) (j : Nat) : Bool := decide (1 ≤ d.2) && decide (d.2 ≤ 15) && decide (d.1 ≤ j % d.2)

/-- R424: cycles from k on; none where the schedule is rejected, else the occupancy at the end and after the first pass. -/
def landingWorst (arrive : Nat → Nat) (len : Nat) (d : Nat × Nat) : Nat → Nat → Nat → Nat → Option (Nat × Nat)
  | 0, _, occ, first => some (occ, first)
  | fuel + 1, k, occ, first =>
    let occ := occ + arrive (k % len)
    if 128 < occ then none
    else
      let first := if k = len - 1 then occ else first
      let j := 3 * k / 8
      let occ := if j < 3 * (k + 1) / 8 && dutyFree d j && decide (0 < occ) then occ - 1 else occ
      landingWorst arrive len d fuel (k + 1) occ first

/-- A word arrives at the core of footprint router f in cycle k (R424). -/
def arrives (rd : Nat → Nat → Nat) (h : PlanHdr) (k : KRec) (p f i : Nat) : Nat :=
  if slotSel (slotEntry rd h k f ((i + p * h.tableLen - p) % h.tableLen)) 4 = 0 then 0 else 1

/-- 0x001A LANDING_WORST. A DUTY outside its range leaves no cycle free. -/
def chkLanding (rd : Nat → Nat → Nat) (h : PlanHdr) (p : Nat) (ks : List KRec) : Option PlanBad :=
  ks.findSome? fun k => (List.range h.cores).findSome? fun f =>
    let d := k.bankDuty 3
    let bad := k.bad 0x1A (if dutyOk d then slotEntryAt h k f 0 else k.off + 67) f
    match landingWorst (arrives rd h k p f) h.tableLen d (2 * h.tableLen) 0 0 0 with
    | some (occ, first) => if first < occ then some bad else none
    | none => some bad

/-- R425: cycles from k on, with the landing occupancy, the words queued and the list position; false where an INJ entry
finds the queue empty. The injector reads ahead round the list (R194). -/
def injectWorst (rd : Nat → Nat → Nat) (h : PlanHdr) (k : KRec) (p f n : Nat) : Nat → Nat → Nat → Nat → Nat → Bool
  | 0, _, _, _, _ => true
  | fuel + 1, c, occ, q, pos =>
    let occ := occ + arrives rd h k p f (c % h.tableLen)
    let takes := bit (slotEntry rd h k f (c % h.tableLen)) 15
    if takes && q == 0 then false
    else
      let q := if takes then q - 1 else q
      let j := 3 * c / 8
      let edge := decide (j < 3 * (c + 1) / 8)
      let drains := edge && dutyFree (k.bankDuty 3) j && decide (0 < occ)
      let bank := bits (injEntry rd k f pos) 0 13 / 2048
      let refills := edge && decide (0 < n) && decide (q < 32) && dutyFree (k.bankDuty bank) j && !(bank == 3 && drains)
      injectWorst rd h k p f n fuel (c + 1) (if drains then occ - 1 else occ) (if refills then q + 1 else q)
        (if refills then (pos + 1) % n else pos)

/-- 0x001B INJECT_WORST: the offset is of the first DUTY outside its range among the banks of the list, else of the list. -/
def chkInject (rd : Nat → Nat → Nat) (h : PlanHdr) (p : Nat) (ks : List KRec) : Option PlanBad :=
  ks.findSome? fun k => (List.range h.cores).findSome? fun f =>
    let n := injCount rd h k f
    let bankBad := (List.range 4).find? fun b => !dutyOk (k.bankDuty b) &&
      (List.range n).any fun i => bits (injEntry rd k f i) 0 13 / 2048 == b
    if injectWorst rd h k p f n (2 * h.tableLen) 0 0 (min 32 n) (min 32 n % n) then none
    else some (k.bad 0x1B ((bankBad.map fun b => k.off + 64 + b).getD (k.injOff + 4 * f * k.injMax)) f)

/-- 0x001C TILE_DURATION. -/
def chkDuration (ks : List KRec) : Option PlanBad :=
  ks.findSome? fun k => if k.worst = 0 || 12000 < k.worst then some (k.bad 0x1C (k.off + 32)) else none

/-- The function that drives a context's partition limits it to its aperture (R388, R389, R423). -/
def inAperturePart (s : State) (ctx addr len : Nat) : Bool :=
  match s.host.vfMap.find? fun e => e.2.part == ctxPart ctx with
  | some e => decide (e.2.apBase ≤ addr) && decide (addr + len ≤ e.2.apBase + e.2.apBytes)
  | none => true

/-- A check of the load as a whole. -/
def chkThat (bad : Bool) (reason detail : Nat) : Option PlanBad :=
  if bad then some { reason := reason, detail := detail } else none

/-- The checks with codes 0x0001 to 0x0007. -/
def chkPlace (s : State) (ctx slot addr origin : Nat) (rd : Nat → Nat → Nat) (h : PlanHdr) : List (Option PlanBad) :=
  [ chkHeader rd h,
    chkThat (h.version != 1) 2 4,
    chkThat (h.features &&& s.helda.featureSet != h.features) 3 12,
    chkThat (addr % 4096 != 0 || decide (backedBytes < addr + h.bytes) || !inAperturePart s ctx addr h.bytes) 4 0xFFFFFFFF,
    chkThat (sfind (ctxGet s ctx).plans slot).isSome 5 0xFFFFFFFF,
    (footOut h origin).map fun o => { reason := 6, detail := o },
    ((List.range h.cores).find? fun f =>
      !(partGet s (ctxPart ctx)).sections.contains (coreSection (footCore h origin f))).map fun f =>
        { reason := 7, place := f } ]

/-- The checks with codes 0x0008 to 0x0013. -/
def chkRecords (rd : Nat → Nat → Nat) (h : PlanHdr) (ds : List PlanDim) (ks : List KRec) : List (Option PlanBad) :=
  [ chkBuckets h ds ks, chkCounts h ks, chkShape h ks, chkGroups ks, chkAcc ks, chkAlign rd ks, chkSize rd ks,
    chkFit rd ks, chkOverlap rd ks, chkChain rd h ks, chkWindow rd ks ]

/-- The checks with codes 0x0014 to 0x001C. -/
def chkTables (s : State) (origin : Nat) (rd : Nat → Nat → Nat) (h : PlanHdr) (ks : List KRec) : List (Option PlanBad) :=
  let die := origin / 36
  [ chkSlot rd h origin 0x14 ks, chkSlot rd h origin 0x15 ks, chkSlot rd h origin 0x16 ks, chkSlot rd h origin 0x17 ks,
    chkInj rd h ks, chkThat (decide ((freeDieGroups s die).length < h.groups)) 0x19 18,
    chkLanding rd h (lathP s die) ks, chkInject rd h (lathP s die) ks, chkDuration ks ]

/-- The first failing check of a plan, in table order (R423); an image that lies outside the backed part cannot be read. -/
def planBad (s : State) (ctx slot addr origin : Nat) : Option PlanBad :=
  let rd := imgRead s addr
  let h := planHdr rd
  let ks := kernelRecs rd h
  if backedBytes < addr + 64 then some { reason := 4 }
  else
    (chkPlace s ctx slot addr origin rd h ++ chkRecords rd h (planDims rd h.dims) ks ++
      chkTables s origin rd h ks).findSome? id

/-! ### The reject record (R430) -/

/-- Write the reject record of a context's partition. -/
def writeReject (ctx slot source : Nat) (b : PlanBad) (s : State) : State :=
  let r : RejectRec :=
    { ctx := ctx, slot := slot, source := source, reason := b.reason, variant := b.variant, detail := b.detail,
      place := b.place, kernel := b.kernel, valid := true }
  { s with work := { s.work with rejects := sput s.work.rejects (ctxPart ctx) r } }

/-! ### The running kernel of a launch -/

/-- The kernel record that a launch runs now, with its plan and header. -/
def launchKernel (s : State) (ctx : Nat) : Option (Plan × PlanHdr × KRec) :=
  match (ctxGet s ctx).launch with
  | none => none
  | some l =>
    (sfind (ctxGet s ctx).plans l.slot).map fun p =>
      let rd := imgRead s p.addr
      let h := planHdr rd
      (p, h, kernelOf rd h ((l.invs[l.inv]?.map (·.variant)).getD 0) l.kernel)

end Sys2Proof.Machine
end

