-- ==== Sys2Proof/Machine/PlumbCalc.lean ====
section
/-! DEFINITION. Plumb's arithmetic and its operations on one problem (R445 to R452). -/
namespace Sys2Proof.Machine

/-! ### Arithmetic (R448): round to nearest even, subnormals honoured -/

/-- The working format: FP32, or FP64 with FP64_ACC. -/
def plbFmt (d : Bool) : Fmt := if d then fFP64 else fFP32
/-- Bytes of a working value (R445). -/
def plbE (d : Bool) : Nat := if d then 8 else 4

/-- A bit pattern as a value. -/
def plbVal (f : Fmt) (b : Nat) : FVal := decodeFp f false b

/-- A value rounded into a format; a NaN's payload is free (assumption 8). -/
def plbOut (f : Fmt) (a b c : Nat) (v : FVal) : Nat := (fromVal f 0 false (Config.nanPayload a b c) v).1

/-- a × b + c, rounded once. -/
def plbFma (f : Fmt) (a b c : Nat) : Nat := plbOut f a b c (fmaVal 0 (plbVal f a) (plbVal f b) (plbVal f c)).1

/-- a × b. -/
def plbMul (f : Fmt) (a b : Nat) : Nat := plbOut f a b 0 (mulVal (plbVal f a) (plbVal f b)).1

/-- −a. -/
def plbNeg (f : Fmt) (a : Nat) : Nat := if bit a (f.eb + f.mb) then a - 2 ^ (f.eb + f.mb) else a + 2 ^ (f.eb + f.mb)

/-- A quotient m₁·2^e₁ / m₂·2^e₂ with a sticky low bit, enough for correct rounding. -/
def quotient (f : Fmt) (m1 : Nat) (e1 : Int) (m2 : Nat) (e2 : Int) : Nat × Int :=
  let sh := f.mb + 4 + bitLen m2
  let n := m1 * 2 ^ sh
  (2 * (n / m2) + (if n % m2 = 0 then 0 else 1), e1 - e2 - sh - 1)

/-- a ÷ b, correctly rounded. -/
def plbDiv (f : Fmt) (a b : Nat) : Nat :=
  match plbVal f a, plbVal f b with
  | .nan, _ => plbOut f a b 1 .nan
  | _, .nan => plbOut f a b 1 .nan
  | .inf _, .inf _ => plbOut f a b 1 .nan
  | .inf s1, .fin s2 _ _ => infCode f (s1 != s2)
  | .fin s1 _ _, .inf s2 => signBit f (s1 != s2)
  | .fin s1 m1 e1, .fin s2 m2 e2 =>
    if m2 = 0 then (if m1 = 0 then plbOut f a b 1 .nan else infCode f (s1 != s2))
    else
      let q := quotient f m1 e1 m2 e2
      plbOut f a b 1 (.fin (s1 != s2) q.1 q.2)

/-- √(m·2^e) with a sticky low bit, enough for correct rounding. -/
def rootOf (f : Fmt) (m : Nat) (e : Int) : Nat × Int :=
  let sh := 2 * (f.mb + 4) + (if (e - 2 * (f.mb + 4)) % 2 = 0 then 0 else 1)
  let n := m * 2 ^ sh
  let r := Nat.sqrt n
  (2 * r + (if r * r = n then 0 else 1), (e - sh) / 2 - 1)

/-- √a, correctly rounded. -/
def plbSqrt (f : Fmt) (a : Nat) : Nat :=
  match plbVal f a with
  | .nan => plbOut f a 0 2 .nan
  | .inf s => if s then plbOut f a 0 2 .nan else infCode f false
  | .fin s m e =>
    if m = 0 then signBit f s
    else if s then plbOut f a 0 2 .nan
    else
      let r := rootOf f m e
      plbOut f a 0 2 (.fin false r.1 r.2)

/-- An FP32 pattern in a format. -/
def plbWiden (f : Fmt) (a : Nat) : Nat := plbOut f a 0 3 (plbVal fFP32 a)
/-- A pattern of a format in FP32. -/
def plbNarrow (f : Fmt) (a : Nat) : Nat := plbOut fFP32 a 0 4 (plbVal f a)

/-- a ≤ b. -/
def plbLe (f : Fmt) (a b : Nat) : Bool := fLt (plbVal f a) (plbVal f b) || fEq (plbVal f a) (plbVal f b)

/-- The larger of two patterns. -/
def plbMax (f : Fmt) (a b : Nat) : Nat := if fLt (plbVal f a) (plbVal f b) then b else a

/-- The pattern is NaN or an infinity. -/
def plbBad (f : Fmt) (a : Nat) : Bool :=
  match plbVal f a with
  | .fin _ _ _ => false
  | _ => true

/-! ### Records -/

/-- Patterns of `w` bytes from a byte string. -/
def patterns (w n : Nat) (b : List Byte) : List Nat := (List.range n).map fun i => field b (w * i) w

/-- Patterns as bytes of `w` each. -/
def patternBytes (w : Nat) (l : List Nat) : List Byte := l.flatMap (leBytes w)

/-! ### ASSEMBLE (R445) -/

/-- One element of [JᵀJ Jᵀr; rᵀJ rᵀr]: rows in ascending order. -/
def assembleElem (f : Fmt) (j : List Nat) (w : Nat) (m a b acc : Nat) : Nat :=
  (List.range m).foldl (fun acc r => plbFma f (j.getD (w * r + a) 0) (j.getD (w * r + b) 0) acc) acc

/-- The symmetric matrix, added to `old`. -/
def assemble (f : Fmt) (n m : Nat) (j old : List Nat) : List Nat :=
  let w := n + 1
  (List.range (w * w)).map fun i =>
    let a := min (i / w) (i % w)
    let b := max (i / w) (i % w)
    assembleElem f j w m a b (old.getD (w * a + b) 0)

/-! ### Cholesky (R445, R449) -/

/-- Entry i of column k less the columns before it. -/
def cholEntry (f : Fmt) (a : List Nat) (w k i : Nat) (cols : List (List Nat)) : Nat :=
  cols.foldl (fun acc c => plbFma f (plbNeg f (c.getD i 0)) (c.getD k 0) acc) (a.getD (w * i + k) 0)

/-- The largest diagonal element of the unknowns. -/
def maxDiag (f : Fmt) (a : List Nat) (n : Nat) : Nat :=
  (List.range n).foldl (fun m i => plbMax f m (a.getD ((n + 1) * i + i) 0)) (a.getD 0 0)

/-- Columns k on of the factor, with the columns kept. -/
def cholColumns (f : Fmt) (a : List Nat) (n thr : Nat) : Nat → Nat → List (List Nat) → List Nat → List (List Nat) × List Nat
  | 0, _, cols, kept => (cols, kept)
  | fuel + 1, k, cols, kept =>
    let w := n + 1
    let p := cholEntry f a w k k cols
    if k < n && plbLe f p thr then cholColumns f a n thr fuel (k + 1) (cols ++ [List.replicate w 0]) kept
    else
      let d := plbSqrt f p
      let col := (List.range w).map fun i =>
        if i < k then 0 else if i = k then d else plbDiv f (cholEntry f a w k i cols) d
      cholColumns f a n thr fuel (k + 1) (cols ++ [col]) (if k < n then kept ++ [k] else kept)

/-- The pivot at or below which a column is deficient: τ times the largest diagonal element of the input (R449). -/
def pivotLimit (f : Fmt) (a : List Nat) (n tau : Nat) : Nat := plbMul f (plbWiden f tau) (maxDiag f a n)

/-- The Cholesky factor of an augmented matrix, row-major, and the columns kept. -/
def cholesky (f : Fmt) (a : List Nat) (n thr : Nat) : List Nat × List Nat :=
  let r := cholColumns f a n thr (n + 1) 0 [] []
  ((List.range ((n + 1) * (n + 1))).map fun i => (r.1.getD (i % (n + 1)) []).getD (i / (n + 1)) 0, r.2)

/-- The matrix with its diagonal damped (R450). -/
def damped (f : Fmt) (a : List Nat) (n lam : Nat) : List Nat :=
  a.mapIdx fun i v => if i % (n + 2) = 0 && i / (n + 2) < n then plbFma f lam v v else v

/-- What LM_STEP arrives at: factor, columns kept, λ and retries. -/
structure LmEnd where
  factor : List Nat
  kept : List Nat
  lam : Nat
  retries : Nat

/-- Attempts of LM_STEP, at most `fuel` more after this one (R450). -/
def lmAttempts (f : Fmt) (a : List Nat) (n thr nu : Nat) : Nat → Nat → Nat → LmEnd
  | 0, lam, k => let c := cholesky f (damped f a n lam) n thr; ⟨c.1, c.2, lam, k⟩
  | fuel + 1, lam, k =>
    let c := cholesky f (damped f a n lam) n thr
    if c.2.length = n then ⟨c.1, c.2, lam, k⟩
    else
      -- 2⁻²⁰ in the working format
      let small := plbMul f (plbWiden f 0x35800000) (maxDiag f a n)
      lmAttempts f a n thr nu fuel (plbMax f (plbMul f lam (plbWiden f nu)) small) (k + 1)

/-! ### A problem's result -/

/-- What a problem ends with (R446, R452): the work area, x with λ, or a BA record; RESULT, RANK and RETRIES. -/
structure PlbEnd where
  /-- Pieces of the output record: offset and bytes. -/
  out : List (Nat × List Byte)
  result : Nat
  rank : Nat
  retries : Nat

/-- The solution area: x, zero for the columns dropped, then λ. -/
def solution (n : Nat) (x kept : List Nat) (lam : Nat) : List Nat :=
  ((List.range n).map fun i => if kept.contains i then x.getD i 0 else 0) ++ [lam]

/-- The output record of a dense operation, with NONFINITE where something is not finite (R451). -/
def denseEnd (d : Bool) (n : Nat) (badIn : Bool) (work x kept : List Nat) (lam result retries : Nat) : PlbEnd :=
  let f := plbFmt d
  let e := plbE d
  let bad := badIn || work.any (plbBad f) || x.any (plbBad fFP32)
  { out := [(0, patternBytes e work),
            (e * (n + 1) * (n + 1),
             patternBytes 4 (if bad then List.replicate n 0x7FC00000 ++ [lam] else solution n x kept lam))]
    result := if bad then 3 else result
    rank := kept.length
    retries := retries }

/-- Entries of a column of a factor set to 0 where the column is dropped (R449). -/
def dropColumns (n : Nat) (kept work : List Nat) : List Nat :=
  work.mapIdx fun i v => if i % (n + 1) < n && !kept.contains (i % (n + 1)) then 0 else v

/-- The columns of R that R449 keeps. -/
def qrKept (f : Fmt) (n tau : Nat) (r : List Nat) : List Nat :=
  let mag := fun i => (r.getD ((n + 2) * i) 0) % 2 ^ (f.eb + f.mb)
  let thr := plbMul f (plbWiden f tau) ((List.range n).foldl (fun m i => plbMax f m (mag i)) 0)
  (List.range n).filter fun i => !plbLe f (mag i) thr

/-! ### The operations on a descriptor's problem (R445 to R451) -/

/-- The fields of a descriptor (R443). -/
structure PlbFields where
  op : Nat
  dbl : Bool
  accum : Bool
  hint : Nat
  retries : Nat
  count : Nat
  n : Nat
  m : Nat
  cam : Nat
  inVa : Nat
  inStride : Nat
  outVa : Nat
  outStride : Nat
  statusVa : Nat
  tau : Nat
  lam : Nat
  nu : Nat
  auxVa : Nat

def plbFields (b : List Byte) : PlbFields :=
  { op := field b 0 1, dbl := bit (field b 1 1) 0, accum := bit (field b 1 1) 1, hint := field b 2 1,
    retries := field b 3 1, count := field b 4 4, n := field b 8 2, m := field b 10 2, cam := field b 12 1,
    inVa := field b 16 8, inStride := field b 24 8, outVa := field b 32 8, outStride := field b 40 8,
    statusVa := field b 48 8, tau := field b 56 4, lam := field b 60 4, nu := field b 64 4, auxVa := field b 72 8 }

/-- OP is one of R445. -/
def plbDense (op : Nat) : Bool := decide (1 ≤ op) && decide (op ≤ 4)
def plbBa (op : Nat) : Bool := op == 0x10 || op == 0x11

/-- Bytes of a dense work area (R445). -/
def workBytes (x : PlbFields) : Nat := plbE x.dbl * (x.n + 1) * (x.n + 1)

/-- Round up to 64. -/
def pad64 (n : Nat) : Nat := (n + 63) / 64 * 64

/-- Bytes of a Schur record (R447). -/
def schurBytes (x : PlbFields) : Nat :=
  64 + pad64 (4 * x.m) + 16 * x.m * x.cam + 2 * x.m * (x.m + 1) * x.cam * x.cam

/-- Bytes of an input record (R446, R447). -/
def plbInBytes (x : PlbFields) : Nat :=
  match x.op with
  | 1 | 2 => 4 * x.m * (x.n + 1)
  | 3 | 4 => workBytes x
  | 0x10 => 64 + pad64 (4 * x.m) + 8 * x.m * (x.cam + 4)
  | _ => schurBytes x

/-- Bytes of an output record (R446, R447). -/
def plbOutBytes (x : PlbFields) : Nat :=
  match x.op with
  | 0x10 => schurBytes x
  | 0x11 => 16
  | _ => workBytes x + 4 * (x.n + 1)

/-- Bytes of what a suspension writes (R454): the work area. -/
def plbAreaBytes (x : PlbFields) : Nat :=
  match x.op with
  | 0x10 => schurBytes x
  | 0x11 => 0
  | _ => workBytes x

/-- Observation slots in use of a point record: K where it is 1 to M; what another K does is not stated (assumption 29). -/
def pointSlots (x : PlbFields) (input : List Byte) : Nat :=
  let k := field input 0 2
  if 1 ≤ k ∧ k ≤ x.m then k else 1 + Config.plbSlots k x.m % x.m

/-- Steps of one attempt at a factorization. -/
def panels (x : PlbFields) : Nat := if x.dbl then (x.n + 2) / 2 else (x.n + 8) / 8

/-- LM_STEP on an input record. -/
def lmRun (x : PlbFields) (input : List Byte) : LmEnd :=
  let f := plbFmt x.dbl
  let a := patterns (plbE x.dbl) ((x.n + 1) * (x.n + 1)) input
  lmAttempts f a x.n (pivotLimit f a x.n x.tau) x.nu x.retries (plbWiden f x.lam) 0

/-- Steps of a problem (R445). -/
def plbSteps (x : PlbFields) (input : List Byte) : Nat :=
  match x.op with
  | 1 => if x.dbl then (x.m + 1) / 2 else (x.m + 7) / 8
  | 2 => (x.m + 15) / 16 * x.n + 1
  | 3 => panels x + 1
  | 4 => ((lmRun x input).retries + 1) * panels x + 1
  | 0x10 => let k := pointSlots x input; 1 + k + k * (k + 1) / 2
  | _ => 1

/-- STEP and ROW_BLOCK after a number of steps (R452). -/
def plbPlace (x : PlbFields) (step : Nat) : Nat × Nat :=
  match x.op with
  | 1 => (0, step)
  | 2 => if x.n = 0 then (step, 0) else (step % x.n, step / x.n)
  | _ => (step, 0)

/-- A problem's status word (R452). -/
def plbStatus (result rank retries step block : Nat) : List Byte :=
  leBytes 8 (result + 2 ^ 8 * rank + 2 ^ 16 * retries + 2 ^ 24 * (step % 65536) + 2 ^ 40 * (block % 65536))

/-- Row-major transpose of an (n + 1)² matrix. -/
def transposed (n : Nat) (a : List Nat) : List Nat :=
  (List.range ((n + 1) * (n + 1))).map fun i => a.getD ((i % (n + 1)) * (n + 1) + i / (n + 1)) 0

/-- ASSEMBLE: every step done. -/
def runAssemble (x : PlbFields) (input aux : List Byte) : PlbEnd :=
  let f := plbFmt x.dbl
  let e := plbE x.dbl
  let j := patterns 4 (x.m * (x.n + 1)) input
  let old := if x.accum then patterns e ((x.n + 1) * (x.n + 1)) aux else []
  let r := assemble f x.n x.m (j.map (plbWiden f)) old
  { out := [(0, patternBytes e r)]
    result := if j.any (plbBad fFP32) || old.any (plbBad f) || r.any (plbBad f) then 3 else 0
    rank := x.n
    retries := 0 }

/-- QR_SOLVE. -/
def runQr (x : PlbFields) (input : List Byte) : PlbEnd :=
  let f := plbFmt x.dbl
  let r := Config.plbQr x.dbl x.n x.m input
  let kept := qrKept f x.n x.tau r
  let r := dropColumns x.n kept r
  denseEnd x.dbl x.n ((patterns 4 (x.m * (x.n + 1)) input).any (plbBad fFP32)) r (Config.plbBack x.dbl x.n r kept) kept 0
    (if kept.length < x.n then 1 else 0) 0

/-- CHOL_SOLVE. -/
def runChol (x : PlbFields) (input : List Byte) : PlbEnd :=
  let f := plbFmt x.dbl
  let a := patterns (plbE x.dbl) ((x.n + 1) * (x.n + 1)) input
  let c := cholesky f a x.n (pivotLimit f a x.n x.tau)
  denseEnd x.dbl x.n (a.any (plbBad f)) c.1 (Config.plbBack x.dbl x.n (transposed x.n c.1) c.2) c.2 0
    (if c.2.length < x.n then 1 else 0) 0

/-- LM_STEP (R450). -/
def runLm (x : PlbFields) (input : List Byte) : PlbEnd :=
  let f := plbFmt x.dbl
  let a := patterns (plbE x.dbl) ((x.n + 1) * (x.n + 1)) input
  let r := lmRun x input
  denseEnd x.dbl x.n (a.any (plbBad f)) r.factor (Config.plbBack x.dbl x.n (transposed x.n r.factor) r.kept) r.kept
    (plbNarrow f r.lam) (if r.kept.length < x.n then 2 else 0) r.retries

/-- The FP32 values of the slots in use of a point record (R447). -/
def pointValues (x : PlbFields) (input : List Byte) : List Nat :=
  patterns 4 (2 * pointSlots x input * (x.cam + 4)) (input.drop (64 + pad64 (4 * x.m)))

/-- [B | r] of a point, four values a row. -/
def pointRows (x : PlbFields) (input : List Byte) : List Nat :=
  let w := x.cam + 4
  (List.range (2 * pointSlots x input)).flatMap fun r => ((pointValues x input).drop (w * r + x.cam)).take 4

/-- V_p has a deficient pivot (R449). -/
def pointDeficient (x : PlbFields) (input : List Byte) : Bool :=
  let f := plbFmt x.dbl
  let a := damped f (assemble f 3 (2 * pointSlots x input) ((pointRows x input).map (plbWiden f)) []) 3 (plbWiden f x.lam)
  decide ((cholesky f a 3 (pivotLimit f a 3 x.tau)).2.length < 3)

/-- A Schur record of values, with the camera indices of its point (R447). -/
def schurRecord (x : PlbFields) (input : List Byte) (v : Nat → Nat) : List Byte :=
  patternBytes 4 ((List.range 12).map v) ++ List.replicate 16 0 ++ slice input 64 (pad64 (4 * x.m)) ++
    patternBytes 4 ((List.range (4 * x.m * x.cam + x.m * (x.m + 1) / 2 * x.cam * x.cam)).map fun i => v (12 + i))

/-- BA_SCHUR (R447, R449, R451). -/
def runSchur (x : PlbFields) (input : List Byte) : PlbEnd :=
  let v := fun i => (Config.plbSchur x.dbl x.cam (BitVec.ofNat 32 x.lam) input i).toNat
  let n := 12 + 4 * x.m * x.cam + x.m * (x.m + 1) / 2 * x.cam * x.cam
  if (pointValues x input).any (plbBad fFP32) then
    { out := [(0, schurRecord x input fun _ => 0x7FC00000)], result := 3, rank := 0, retries := 0 }
  else if pointDeficient x input then
    { out := [(0, List.replicate (schurBytes x) 0)], result := 1, rank := 0, retries := 0 }
  else if (List.range n).any (fun i => plbBad fFP32 (v i)) then
    { out := [(0, schurRecord x input fun _ => 0x7FC00000)], result := 3, rank := 3, retries := 0 }
  else { out := [(0, schurRecord x input v)], result := 0, rank := 3, retries := 0 }

/-- The FP32 values of a Schur record: all but its Reserved bytes and camera indices. -/
def schurValues (x : PlbFields) (input : List Byte) : List Nat :=
  patterns 4 12 input ++
    patterns 4 (4 * x.m * x.cam + x.m * (x.m + 1) / 2 * x.cam * x.cam) (input.drop (64 + pad64 (4 * x.m)))

/-- BA_BACKSUB (R447, R451). -/
def runBacksub (x : PlbFields) (input aux : List Byte) : PlbEnd :=
  let d := (List.range 3).map fun i => (Config.plbDelta x.dbl x.cam x.m input aux i).toNat
  let bad := (schurValues x input ++ patterns 4 (x.m * x.cam) aux ++ d).any (plbBad fFP32)
  { out := [(0, patternBytes 4 (if bad then [0x7FC00000, 0x7FC00000, 0x7FC00000] else d))]
    result := if bad then 3 else 0
    rank := 3
    retries := 0 }

/-- What a problem ends with once its last step is done. -/
def plbRun (x : PlbFields) (input aux : List Byte) : PlbEnd :=
  match x.op with
  | 1 => runAssemble x input aux
  | 2 => runQr x input
  | 3 => runChol x input
  | 4 => runLm x input
  | 0x10 => runSchur x input
  | _ => runBacksub x input aux

/-! ### The check of a descriptor (R443, R444) -/

/-- Reserved bits or bytes that are not 0. -/
def plbReserved (b : List Byte) : Bool :=
  bits (field b 1 1) 2 6 != 0 || field b 13 3 != 0 || field b 68 4 != 0 || (slice b 80 48).any (· != 0)

/-- A field outside its range. -/
def plbRange (x : PlbFields) : Bool :=
  let le := fun a b => plbLe fFP32 a b
  let lt := fun a b => fLt (plbVal fFP32 a) (plbVal fFP32 b)
  let dims :=
    if plbDense x.op then decide (1 ≤ x.n) && decide (x.n ≤ 64) && decide (1 ≤ x.m) && x.cam == 0
    else x.n == 0 && decide (1 ≤ x.m) && decide (x.m ≤ 32) && decide (1 ≤ x.cam) && decide (x.cam ≤ 16)
  !(decide (x.hint ≤ 4) && decide (x.retries ≤ 15) && decide (1 ≤ x.count) && decide (x.count ≤ 1048576) && dims &&
    (!x.accum || x.op == 1) && le 0 x.tau && lt x.tau 0x3F800000 && le 0 x.lam && lt 0x3F800000 x.nu &&
    (x.op == 0x11 || x.auxVa == 0))

/-- Misplaced addresses and strides. -/
def plbLayout (va : Nat) (x : PlbFields) : Bool :=
  va % 128 != 0 || x.inVa % 64 != 0 || x.outVa % 64 != 0 || x.statusVa % 64 != 0 || x.inStride % 64 != 0 ||
    x.outStride % 64 != 0 || decide (x.inStride < pad64 (plbInBytes x)) || decide (x.outStride < pad64 (plbOutBytes x))

/-- The reason for which a descriptor fails, 0 where it does not. -/
def plbReason (va : Nat) (b : List Byte) : Nat :=
  let x := plbFields b
  if !plbDense x.op && !plbBa x.op then 1
  else if plbReserved b then 2
  else if plbRange x then 3
  else if plbLayout va x then 4
  else 0

end Sys2Proof.Machine
end

