-- ==== Sys2Proof/Machine/VMem.lean ====
section
/-! DEFINITION. Accesses of DMA engines, rings and Plumb arrays through a context's translation (R36, R37, R177, R180,
R276, R279, R286, R398, R399, R559). -/
namespace Sys2Proof.Machine

/-- How an access fails: a translation reason at an address (R180), or an error cause at a global address (R556). -/
inductive VErr
  | xlat (reason va : Nat)
  | bus (cause addr : Nat)
  deriving DecidableEq, Repr

/-- The error cause with which an access to a global address completes, 0 for none (R33, R36, R37, R276, R279, R286, R399).
`ext` is the cause with which an access ended that another device or the host performs. -/
def accessErr (s : State) (g : Nat) (near : Bool) (ctx ext : Nat) : Nat :=
  if isHostAddr g then
    if devOf g != devId s then 5 else if !s.host.linkUp then 8
    else if cxlFor s ctx && !homeServes s (proxySlice g / 64) then 9 else ext
  else if isTileWin s g then
    (if decide (0x80000 ≤ localOf g % 2 ^ 20) || decide (4608 ≤ localOf g % 2 ^ 40 / 2 ^ 20) then 5 else 0)
  else if sitePAddr s g then (if sitePServes s then 0 else 5)
  else if mapBad g then 5
  else if devOf g != devId s then
    (if !canReach s (devOf g) then 0xA else if !homeServes s (proxySlice g / 64) then 9 else ext)
  else if backedBytes ≤ localOf g then 5
  else if isOut s (8 + (hbmPlace (localOf g)).stack) then 6
  else if !homeServes s (homeBdie g near) then 9
  else 0

/-- The bytes of an access that stay in one granule. -/
def granuleLen (va len : Nat) : Nat := min len (65536 - va % 65536)

/-- Read bytes at a virtual address: bytes with their poison, or how it fails. -/
def ctxRead (ctx ext : Nat) : Nat → Nat → Nat → State → ((List Byte × Bool) ⊕ VErr) × State
  | 0, _, _, s => (.inl ([], false), s)
  | f + 1, va, len, s =>
    if len = 0 then (.inl ([], false), s)
    else
      match translateOnce ctx va .load s with
      | (.inr r, s) => (.inr (.xlat r va), s)
      | (.inl x, s) =>
        let g := xlatAddr x va
        let n := granuleLen va len
        let e := accessErr s g x.near ctx ext
        if e != 0 then (.inr (.bus e g), s)
        else
          let d := readBytes g n s
          match ctxRead ctx ext f (va + n) (len - n) d.2 with
          | (.inr e, s) => (.inr e, s)
          | (.inl r, s) => (.inl (d.1.1 ++ r.1, d.1.2 || r.2), s)

/-- Read `len` bytes. -/
def ctxReadN (ctx ext va len : Nat) (s : State) : ((List Byte × Bool) ⊕ VErr) × State :=
  ctxRead ctx ext (len / 65536 + 2) va len s

/-- Write bytes at a virtual address; what has been written before a failure stays. -/
def ctxWrite (who : Agent) (hint ctx ext : Nat) (p : Bool) : Nat → Nat → List Byte → State → Option VErr × State
  | 0, _, _, s => (none, s)
  | f + 1, va, bs, s =>
    if bs = [] then (none, s)
    else
      match translateOnce ctx va .store s with
      | (.inr r, s) => (some (.xlat r va), s)
      | (.inl x, s) =>
        let g := xlatAddr x va
        let n := granuleLen va bs.length
        let e := accessErr s g x.near ctx ext
        if e != 0 then (some (.bus e g), s)
        else
          let a : WriteAs := { who := who, near := x.near, hint := if hint = 0 then x.hint else hint, bwClass := x.bwClass,
                               ctx := ctx }
          ctxWrite who hint ctx ext p f (va + n) (bs.drop n) (writeBytes a g (bs.take n) p s)

/-- Write bytes. -/
def ctxWriteN (who : Agent) (hint ctx ext : Nat) (p : Bool) (va : Nat) (bs : List Byte) (s : State) : Option VErr × State :=
  ctxWrite who hint ctx ext p (bs.length / 65536 + 2) va bs s

/-- The fault of a context for a failed access (R180, R478, R559): `source` as in the fault record, `errSource` and
`place` as in the error record. -/
def ctxVFault (ctx source errSource place : Nat) (e : VErr) (s : State) : State :=
  match e with
  | .xlat r va => dmaXlatFault ctx source r va s
  | .bus c a => containedCtx ctx source errSource c a place s

end Sys2Proof.Machine
end

