-- ==== Sys2Proof/Machine/PlumbOps.lean ====
section
/-! DEFINITION. The Plumb arrays' queues, tickets and problems: shares, suspension, resumption and abort (R436, R437, R439 to
R442, R454 to R456). -/
namespace Sys2Proof.Machine

def arrayGet (s : State) (a : Nat) : PlbArray := sget {} s.work.arrays a

def setArray (a : Nat) (x : PlbArray) (s : State) : State :=
  { s with work := { s.work with arrays := sput s.work.arrays a x } }

def modArray (a : Nat) (f : PlbArray → PlbArray) (s : State) : State := setArray a (f (arrayGet s a)) s

/-- Lanes that a partition has on an array (R436). -/
def plbShare (s : State) (a p : Nat) : Nat := sget 0 (arrayGet s a).share p

/-- Lanes of an array that are in some partition's share. -/
def plbShared (s : State) (a : Nat) : Nat := ((arrayGet s a).share.map (·.2)).sum

/-- Lanes that work for a partition on an array. -/
def plbBusy (s : State) (a p : Nat) : Nat := ((arrayGet s a).problems.filter fun q => q.part == p && q.lane.isSome).length

/-- Queue entries of an array in use (R441). -/
def plbLive (s : State) (a : Nat) : Nat := ((arrayGet s a).queue.filter fun d => !d.suspended).length

/-! ### Tickets (R439, R440) -/

/-- A ticket state that is final. -/
def ticketFinal (st : Nat) : Bool := decide (3 ≤ st) && decide (st ≤ 6)

/-- Change the ticket of a descriptor, if its entry still holds it. -/
def modTicket (d : PlbDesc) (f : Ticket → Ticket) (s : State) : State :=
  match sfind (ctxGet s d.ctx).tickets d.entry with
  | some t =>
    if t.seq = d.seq then modCtx d.ctx (fun x => { x with tickets := sput x.tickets d.entry (f t) }) s else s
  | none => s

/-- The queue and the problems of an array without a descriptor. -/
def dropDesc (a : Nat) (d : PlbDesc) (s : State) : State :=
  modArray a (fun x => { x with
    queue := x.queue.filter fun e => !(e.ctx == d.ctx && e.seq == d.seq)
    problems := x.problems.filter fun q => !(q.ctx == d.ctx && q.seq == d.seq) }) s

/-- Replace a descriptor in its queue. -/
def putDesc (a : Nat) (d : PlbDesc) (s : State) : State :=
  modArray a (fun x => { x with queue := x.queue.map fun e => if e.ctx = d.ctx ∧ e.seq = d.seq then d else e }) s

/-! ### Memory accesses of an array (R435, R456) -/

/-- The final reason of a descriptor whose access failed (R444). -/
def plbErrReason : VErr → Nat
  | .xlat _ _ => 6
  | .bus 9 _ => 7
  | .bus 10 _ => 8
  | .bus _ _ => 9

/-- A failed access faults the context, and the descriptor ends ABORTED (R444, R456). -/
def plbAbort (a : Nat) (d : PlbDesc) (e : VErr) (s : State) : State :=
  let s := modTicket d (fun t => { t with st := 6, reason := plbErrReason e, done := d.doneProblems }) s
  ctxVFault d.ctx 3 9 a e (dropDesc a d s)

/-- Write for a descriptor; the failure, if there is one. -/
def plbWrite (a : Nat) (d : PlbDesc) (ext : Nat) (p : Bool) (va : Nat) (bs : List Byte) (s : State) : Option VErr × State :=
  ctxWriteN (.plumb a) (field d.bytes 2 1) d.ctx ext p va bs s

/-- Write a list of pieces, one after the other. -/
def plbWrites (a : Nat) (d : PlbDesc) (ext : Nat) : List (Nat × List Byte × Bool) → State → Option VErr × State
  | [], s => (none, s)
  | (va, bs, p) :: t, s =>
    match plbWrite a d ext p va bs s with
    | (some e, s) => (some e, s)
    | (none, s) => plbWrites a d ext t s

/-! ### Resumption (R454) -/

/-- A descriptor ends FAILED with NO_SHARE (R437): only STATUS is written. -/
def plbNoShare (a ext : Nat) (d : PlbDesc) (s : State) : State :=
  let s := bump 0x2B04 6 (modTicket d (fun t => { t with st := 5, reason := 5, done := d.doneProblems }) s)
  match plbWrite a d ext false (d.va + 92) (leBytes 4 (5 + 256 * 5)) (dropDesc a d s) with
  | (some e, s) => ctxVFault d.ctx 3 9 a e s
  | (none, s) => s

/-- The context's descriptors may be in the queues. -/
def plbActive (s : State) (c : Nat) : Bool :=
  let x := ctxGet s c
  x.st != .none && x.st != .faulted && x.stop.isNone && x.image == .none && !x.restoring

/-- Suspended descriptors of running contexts re-enter an array's queue in their issue order while it has room (R454). -/
def plbFill : Nat → Nat → State → State
  | 0, _, s => s
  | f + 1, a, s =>
    if 32 ≤ plbLive s a then s
    else
      match (arrayGet s a).queue.find? fun d => d.suspended && plbActive s d.ctx with
      | none => s
      | some d =>
        if plbShare s a d.part = 0 then plbFill f a (plbNoShare a 0 { d with suspended := false } s)
        else plbFill f a (putDesc a { d with suspended := false }
          (modTicket d (fun t => { t with st := if d.started then 1 else 0 }) s))

/-- Every array takes up what it can. -/
def plbFillAll (s : State) : State := (List.range 4).foldl (fun s a => plbFill 1024 a s) s

/-- A descriptor leaves its queue: others may enter. -/
def plbLeave (a : Nat) (d : PlbDesc) (s : State) : State := plbFill 1024 a (dropDesc a d s)

/-! ### Suspension (R437, R454) -/

/-- The work area and the status word of a problem that is suspended. -/
def plbSaveWrites (d : PlbDesc) (q : PlbProblem) : List (Nat × List Byte × Bool) :=
  let x := plbFields d.bytes
  let at_ := plbPlace x q.step
  let work := (List.range (plbAreaBytes x)).map fun i => BitVec.ofNat 8 (Config.plbPartial d.bytes q.input q.aux q.step i)
  [(x.outVa + x.outStride * q.problem, work, q.poisoned), (x.statusVa + 8 * q.problem, plbStatus 5 0 0 at_.1 at_.2, false)]

/-- A descriptor's problems in work. -/
def plbInFlight (s : State) (a : Nat) (d : PlbDesc) : List PlbProblem :=
  (arrayGet s a).problems.filter fun q => q.ctx == d.ctx && q.seq == d.seq

/-- The lowest unfinished problem: every unstarted problem is above every started one. -/
def plbLow (s : State) (a : Nat) (d : PlbDesc) : Nat :=
  (plbInFlight s a d).foldl (fun m q => min m q.problem) d.nextProblem

/-- Suspend one descriptor of a context: problems, fields of the descriptor, ticket, queue entry. One that has not started
has been given nothing to write. -/
def plbSuspendDesc (a : Nat) (d : PlbDesc) (s : State) : State :=
  let l := (plbInFlight s a d).filter (·.lane.isSome)
  let fields := [(d.va + 80, leBytes 4 d.nextProblem ++ leBytes 4 d.doneProblems, false),
                 (d.va + 96, leBytes 4 (plbLow s a d), false)]
  let w := if d.started then plbWrites a d 0 (l.flatMap (plbSaveWrites d) ++ fields) s else (none, s)
  match w with
  | (some e, s) => plbAbort a d e s
  | (none, s) =>
    let s := modArray a (fun x => { x with problems := x.problems.map fun q =>
      if q.ctx = d.ctx ∧ q.seq = d.seq then { q with lane := none } else q }) s
    putDesc a { d with suspended := true } (modTicket d (fun t => { t with st := 2, done := d.doneProblems }) s)

/-- Suspend a context's Plumb work on every array (R454). -/
def plbSuspend (c : Nat) (s : State) : State :=
  let s := (List.range 4).foldl (fun s a =>
    ((arrayGet s a).queue.filter fun d => d.ctx == c && !d.suspended).foldl (fun s d => plbSuspendDesc a d s) s) s
  plbFillAll s

/-- Suspend the problems of one lane (R437): work area and status word are written, the descriptor goes on. -/
def plbSuspendLane (a : Nat) (q : PlbProblem) (s : State) : State :=
  match (arrayGet s a).queue.find? fun d => d.ctx == q.ctx && d.seq == q.seq with
  | none => s
  | some d =>
    match plbWrites a d 0 (plbSaveWrites d q) s with
    | (some e, s) => plbAbort a d e s
    | (none, s) =>
      modArray a (fun x => { x with problems := x.problems.map fun z =>
        if z.ctx = q.ctx ∧ z.seq = q.seq ∧ z.problem = q.problem then { z with lane := none } else z }) s

/-- Every descriptor of a context ends ABORTED, TORN_DOWN; nothing more is written (R455). -/
def plbTearDown (c : Nat) (s : State) : State :=
  let s := (List.range 4).foldl (fun s a =>
    ((arrayGet s a).queue.filter fun d => d.ctx == c).foldl (fun s d =>
      dropDesc a d (modTicket d (fun t => { t with st := 6, reason := 9, done := d.doneProblems }) s)) s) s
  plbFillAll s

/-! ### Shares (R436, R437) -/

/-- Set a partition's share on an array. -/
def setShare (a p n : Nat) (s : State) : State :=
  modArray a (fun x => { x with share := if n = 0 then sdel x.share p else sput x.share p n }) s

/-- The largest share that a partition can be given on an array. -/
def shareMax (s : State) (a p : Nat) : Nat :=
  let cur := plbShare s a p
  max cur (64 - (plbShared s a - cur))

/-- Apply a share: lanes beyond it are suspended, highest first; with none left, every descriptor in the queue fails. -/
def applyShare (a p n : Nat) (s : State) : State :=
  let s := setShare a p n s
  if n = 0 then
    plbFill 1024 a (((arrayGet s a).queue.filter fun d => d.part == p && !d.suspended).foldl (fun s d => plbNoShare a 0 d s) s)
  else
    let lanes := ((arrayGet s a).problems.filter fun q => q.part == p && q.lane.isSome)
    let extra := lanes.filter fun q : PlbProblem =>
      decide (n ≤ (lanes.filter fun z : PlbProblem => decide (z.lane.getD 0 < q.lane.getD 0)).length)
    extra.foldl (fun s q => plbSuspendLane a q s) s

/-- The four shares of a partition, clamped to their ranges (R436). -/
def giveShares (p : Nat) (l : List Nat) (s : State) : State :=
  (List.range 4).foldl (fun s a => applyShare a p (min (l.getD a 0) (shareMax s a p)) s) s

end Sys2Proof.Machine
end

