-- ==== Sys2Proof/Machine/Sched.lean ====
section
/-! DEFINITION. Which context runs on the sections of a partition: readiness, choice, switch, preemption (R464 to R475,
R485). -/
namespace Sys2Proof.Machine

/-! ### Rings, as the scheduler sees them -/

def ringGet (s : State) (c : Nat) : Ring := sget {} s.host.rings c

def setRing (c : Nat) (r : Ring) (s : State) : State := { s with host := { s.host with rings := sput s.host.rings c r } }

def modRing (c : Nat) (f : Ring → Ring) (s : State) : State := setRing c (f (ringGet s c)) s

/-- Work for a context: an entry to fetch, a command that has not completed, or a launch (R466). -/
def ctxWork (s : State) (c : Nat) : Bool :=
  let r := ringGet s c
  (r.st == .enabled && r.cmdHead != r.cmdTail) || !r.fetched.isEmpty || (ctxGet s c).launch.isSome

/-! ### Sections -/

/-- The cores of a partition in increasing device core number (R473). -/
def coresOf (s : State) (p : Nat) : List Nat :=
  (List.range Config.nCores).filter fun c => (partGet s p).sections.contains (coreSection c)

/-- Every section of a partition is ACTIVE. -/
def sectionsActive (s : State) (p : Nat) : Bool := (partGet s p).sections.all fun x => s.ret.get x == .active

/-- Wake the sections of a partition (R164, R485). -/
def wakePart (p : Nat) (s : State) : State := (partGet s p).sections.foldl (fun s x => wakeSection x s) s

/-- Remove slot tables, injection lists and words in flight from the routers of a set of sections (R474). -/
def dropRouters (secs : List Nat) (s : State) : State :=
  { s with lath := { s.lath with
    routers := s.lath.routers.filter fun e => !secs.contains (coreSection e.1)
    flight := s.lath.flight.filter fun e => !secs.contains (coreSection e.core) } }

/-- Zero the sections of a partition (R474). -/
def zeroPart (p : Nat) (s : State) : State :=
  let l := (partGet s p).sections
  dropRouters l (l.foldl (fun s x => zeroSection x s) s)

/-! ### Routers of a launch (R192 to R194, R409, R421) -/

/-- The router of footprint core f as the kernel's tables give it, with the die groups of the plan in the entries that
inject (R420, R421). -/
def routerOf (s : State) (ctx : Nat) (pl : Plan) (h : PlanHdr) (k : KRec) (f : Nat) (inj : Nat) : LathRouter :=
  let rd := imgRead s pl.addr
  let at_ := fun i => slotEntry rd h k f i
  { ctx := ctx, tableLen := h.tableLen
    table := ((List.range h.tableLen).map fun i => (i, BitVec.ofNat 32 (at_ i))).filter fun e => e.2 != 0
    injList := (List.range (injCount rd h k f)).map fun i => BitVec.ofNat 32 (injEntry rd k f i)
    injPos := inj, queue := [] }

/-- Install the tables of the launch's kernel in the routers of its footprint. -/
def installRouters (ctx : Nat) (inj : Nat → Nat) (s : State) : State :=
  match launchKernel s ctx with
  | none => s
  | some (pl, h, k) =>
    (List.range h.cores).foldl (fun s f =>
      let c := footCore h pl.origin f
      setRouter c (routerOf s ctx pl h k f (inj c)) s) s

/-! ### Preemption (R469 to R471) -/

/-- Raise a preemption of a running context; one raised during a stop is ignored (R484). -/
def preempt (c : Nat) (s : State) : State :=
  let x := ctxGet s c
  if x.st != .running || x.stop.isSome then s
  else
    let instr := (partGet s (ctxPart c)).preempt == 1
    let s := bump64 0x2C04 (if instr then 3 else 2) s
    let kernel := (x.launch.map (·.running)).getD false
    let stop : StopKind := if !kernel then .contextOnly else if instr then .instruction else .tile
    let s := modCtx c (fun x => { x with st := .stopping, stop := some stop }) s
    match stop with
    | .tile => s
    | .instruction => plbSuspend c (stopCores c s)
    | _ => plbSuspend c s

/-- A tile preemption becomes an instruction-level one (R470). -/
def escalate (c : Nat) (s : State) : State :=
  if (ctxGet s c).stop = some .tile then
    plbSuspend c (stopCores c (modCtx c (fun x => { x with stop := some .instruction }) (bump64 0x2C04 4 s)))
  else s

/-! ### The choice (R468) -/

/-- READY contexts of a partition, in slot order beginning after the one that last ran. -/
def readySlots (s : State) (p : Nat) : List Nat :=
  ((List.range 16).map fun i => 16 * p + ((partGet s p).lastSlot + 1 + i) % 16).filter fun c => (ctxGet s c).st == .ready

/-- The context that the policy chooses. -/
def chooseNext (s : State) (p : Nat) : Option Nat :=
  let l := readySlots s p
  if (partGet s p).policy = 1 then l.find? fun c => l.all fun d => decide ((ctxGet s d).prio ≤ (ctxGet s c).prio)
  else l.head?

/-! ### The switch in (R474, R475) -/

/-- The context's slots go on after a stop. -/
def unstop (c : Nat) (k : Core) : Core :=
  { k with slots := k.slots.map fun t =>
      (t.1, if t.2.ctx = c && t.2.exc.isNone then { t.2 with stopped := false } else t.2) }

/-- The context is RUNNING: no image is left, its slots and its Plumb work go on (R454, R475). -/
def enterRun (c : Nat) (s : State) : State :=
  let s := modCtx c (fun x => { x with st := .running, image := .none, saved := [], savedInj := [], restoring := false }) s
  plbFillAll { s with cores := s.cores.map fun e => (e.1, unstop c e.2) }

/-- A core with the saved image of it. -/
def restoreCore (c : Nat) (k z : Core) : Core :=
  { z with slots := k.slots, barriers := k.barriers, acc := k.acc, tile := k.tile, poison := k.poison,
           eccPending := k.eccPending, landing := k.landing, owner := some c }

/-- Begin to restore a context: each image to the core of its rank, the routers from the plan, the injectors where they
stood (R472, R475). -/
def beginRestore (c : Nat) (s : State) : State :=
  let x := ctxGet s c
  let l := coresOf s (ctxPart c)
  let s := x.saved.foldl (fun s e =>
    match l[e.1]? with
    | some core => modCore core (restoreCore c e.2) s
    | none => s) s
  let s := modCtx c (fun x => { x with restoring := true }) s
  if (x.launch.map (·.running)).getD false then installRouters c (fun core => sget 0 x.savedInj core) s else s

/-- A chosen context takes the sections: they are zeroed where another context last ran there, or an image of the cores is
to be restored (R474). -/
def beginRun (c : Nat) (s : State) : State :=
  let p := ctxPart c
  let last := (partGet s p).lastCtx
  let x := ctxGet s c
  let s := if last != some c || x.image == .tile || x.image == .instruction then zeroPart p s else s
  let s := if last.isSome && last != some c then bump64 0x2C04 1 s else s
  let s := modPart p (fun y => { y with running := some c, lastSlot := c % 16, lastCtx := some c }) s
  if x.image = .none then enterRun c s else beginRestore c s

/-- A running context whose work is done becomes IDLE and gives up its sections (R466, R468). -/
def idleIfDone (c : Nat) (s : State) : State :=
  if (ctxGet s c).st = .running && !ctxWork s c then
    modPart (ctxPart c) (fun y => { y with running := none }) (modCtx c (fun x => { x with st := .idle }) s)
  else s

/-- Let a READY context of a partition run while its sections are free: they are woken first (R485). -/
def scheduleN : Nat → Nat → State → State
  | 0, _, s => s
  | f + 1, p, s =>
    let x := partGet s p
    if x.st = .none || x.destroying || x.running.isSome then s
    else
      match chooseNext s p with
      | none => s
      | some c =>
        if sectionsActive s p then scheduleN f p (idleIfDone c (beginRun c s)) else wakePart p s

/-- A scheduling decision of a partition. -/
def schedule (p : Nat) (s : State) : State := scheduleN 17 p s

/-- Every partition decides. -/
def scheduleAll (s : State) : State := s.work.parts.foldl (fun s e => schedule e.1 s) s

/-- A context gives up its sections without a save (R468). -/
def leave (c : Nat) (s : State) : State :=
  let p := ctxPart c
  let s := if (partGet s p).running = some c then modPart p (fun y => { y with running := none }) s else s
  schedule p s

/-- After anything that may end a running context's work. -/
def idleCheck (c : Nat) (s : State) : State :=
  if (ctxGet s c).st = .running && !ctxWork s c then leave c (modCtx c (fun x => { x with st := .idle }) s) else s

/-- A context becomes READY: under the priority policy it preempts a running one of lower priority (R468). -/
def becomeReady (c : Nat) (s : State) : State :=
  let p := ctxPart c
  let s := schedule p (modCtx c (fun x => { x with st := .ready }) s)
  match (partGet s p).running with
  | some d =>
    if (partGet s p).policy = 1 && (ctxGet s c).st = .ready && decide ((ctxGet s d).prio < (ctxGet s c).prio) then preempt d s
    else s
  | none => s

/-! ### Waking sections (R164, R165) -/

/-- WAKE_DONE: the section is ACTIVE, its held accesses complete, the next section begins to wake, and a context that waited
for its sections may run. -/
def execWakeDone (sec : Nat) (s : State) : Host.Outcome State Fault Refusal :=
  if s.ret.get sec = .waking then
    let mine := fun (h : HeldTile) => coreSection (h.addr % 2 ^ 40 / 2 ^ 20) == sec
    let l := s.ret.held.filter mine
    let s := { s with ret := { s.ret with held := s.ret.held.filter fun h => !mine h } }
    let s := l.foldl (fun s h => tileAccess h.addr h.write s) (setRet sec .active s)
    .next (scheduleAll (partsReady (startWakes (sec / 36) (logEvent 0x2102 (sec + 1) 0 [0] s))))
  else .next s

end Sys2Proof.Machine
end

