-- ==== Sys2Proof/Machine/DmaWin.lean ====
section
/-! DEFINITION. How tiles are dealt to cores, and the DMA windows that move them (R412, R416 to R418). -/
namespace Sys2Proof.Machine

/-! ### Tiles (R412) -/

/-- Index of the bucket that a variant takes for dimension d (R408). -/
def bucketIndex (ds : List PlanDim) (v d : Nat) : Nat :=
  v / ((ds.take d).map (·.count)).prod % ((ds[d]?.map (·.count)).getD 1)

/-- An invocation of a kernel as the windows need it: extents for tiling, actual extents, and offsets in tiles, per axis. -/
structure AxisView where
  tiling : List Nat
  actual : List Nat
  shift : List Nat

def axisView (ds : List PlanDim) (k : KRec) (v : Invocation) : AxisView :=
  let per := fun a =>
    match k.dim a with
    | none => (k.ext a % 2 ^ 31, k.ext a % 2 ^ 31, 0)
    | some d =>
      ((ds[d]?.bind fun x => x.sizes[bucketIndex ds v.variant d]?).getD 0, v.extents.getD d 0,
       v.offsets.getD d 0 / k.tile a)
  let l := (List.range 3).map per
  { tiling := l.map (·.1), actual := l.map (·.2.1), shift := l.map (·.2.2) }

/-- Tile counts TM, TN, TK. -/
def tileCounts (k : KRec) (x : AxisView) : List Nat :=
  (List.range 3).map fun a => (x.tiling.getD a 0 + k.tile a - 1) / k.tile a

/-- Axes of a LOOP_ORDER, outermost first. -/
def loopAxes : Nat → List Nat
  | 0 => [0, 1, 2]
  | 1 => [0, 2, 1]
  | 2 => [1, 0, 2]
  | 3 => [1, 2, 0]
  | 4 => [2, 0, 1]
  | _ => [2, 1, 0]

/-- Tile indices (i_m, i_n, i_k) of an ordinal. -/
def tileIndices (k : KRec) (n : List Nat) (o : Nat) : List Nat :=
  let l := loopAxes k.order
  let c := fun i => n.getD (l.getD i 0) 1
  let at_ := [o / (c 1 * c 2), o / c 2 % c 1, o % c 2]
  (List.range 3).map fun a => at_.getD (l.idxOf a) 0

/-- Ordinal of tile t of footprint core f. -/
def tileOrdinal (k : KRec) (f t : Nat) : Nat := ((t / k.runLen) * k.coresUsed + f) * k.runLen + t % k.runLen

/-- Tiles of footprint core f. -/
def tilesOf (k : KRec) (n : List Nat) (f : Nat) : Nat :=
  if k.coresUsed ≤ f then 0
  else
    let total := n.prod
    let round := k.coresUsed * k.runLen
    total / round * k.runLen + min k.runLen (total % round - f * k.runLen)

/-! ### Transfers (R416, R417) -/

/-- Two tiles differ on an axis of the DEP mask. -/
def depDiffers (w : PlanWin) (a b : List Nat) : Bool :=
  (List.range 3).any fun i => bit w.axes (4 + i) && a.getD i 0 != b.getD i 0

/-- The window transfers for tile t of its core. -/
def winTriggers (k : KRec) (n : List Nat) (w : PlanWin) (t : Nat) : Bool :=
  let idx := fun t => tileIndices k n (tileOrdinal k w.core t)
  if w.dir = 0 then t == 0 || depDiffers w (idx t) (idx (t - 1))
  else t + 1 == tilesOf k n w.core || depDiffers w (idx t) (idx (t + 1))

/-- The first tile from `t` on for which the window transfers. -/
def nextTile (k : KRec) (n : List Nat) (w : PlanWin) : Nat → Nat → Option Nat
  | 0, _ => none
  | fuel + 1, t =>
    if tilesOf k n w.core ≤ t then none
    else if winTriggers k n w t then some t
    else nextTile k n w fuel (t + 1)

/-- Elements of a run that begins at a global index which lie below an extent. -/
def inExtent (axis extent from_ count : Nat) : Nat := if axis = 3 then count else min count (extent - from_)

/-- Valid bits of row r of the transfer for a tile (R417). -/
def rowBits (w : PlanWin) (x : AxisView) (idx : List Nat) (r : Nat) : Nat :=
  let ra := bits w.axes 0 2
  let ca := bits w.axes 2 2
  let n := 8 * w.rowBytes / w.elemBits
  if inExtent ra (x.actual.getD ra 0) (idx.getD ra 0 * w.rows + r) 1 = 0 then 0
  else w.elemBits * inExtent ca (x.actual.getD ca 0) (idx.getD ca 0 * n) n

/-- Context virtual address of row r (R416, R428). -/
def rowVa (w : PlanWin) (arg : Nat) (x : AxisView) (idx : List Nat) (r : Nat) : Nat :=
  let steps : Int := ((List.range 3).map fun a =>
    ((idx.getD a 0 + x.shift.getD a 0 : Nat) : Int) * int32 (w.steps.getD a 0)).sum
  (((arg + w.offset + r * w.rowStride : Nat) : Int) + steps).toNat % 2 ^ 64

/-- Keep the low `n` bits of a byte. -/
def lowBits (n : Nat) (b : Byte) : Byte := BitVec.ofNat 8 (b.toNat % 2 ^ n)

/-- Sector q of a row whose first `v` bits are valid: how many of its bits are. -/
def sectorBits (v q : Nat) : Nat := min 512 (v - 512 * q)

/-- One inbound sector: the valid bytes are read, the rest is zero (R417). -/
def sectorIn (ctx ext core va off v : Nat) (s : State) : Option VErr × State :=
  match ctxReadN ctx ext va ((v + 7) / 8) s with
  | (.inr e, s) => (some e, s)
  | (.inl r, s) =>
    let b := if v % 8 = 0 then r.1 else r.1.mapIdx fun i x => if i = v / 8 then lowBits (v % 8) x else x
    (none, dmaTileWrite core off (slice b 0 64) r.2 s)

/-- One outbound sector: the valid elements are written; a byte that is valid in part keeps its other bits. -/
def sectorOut (ctx ext hint core va off v : Nat) (s : State) : Option VErr × State :=
  if v = 0 then (none, s)
  else
    let d := dmaTileRead core (off / 64) s
    let whole := d.1.1.take (v / 8)
    if v % 8 = 0 then ctxWriteN (.dma core) hint ctx ext d.1.2 va whole d.2
    else
      match ctxReadN ctx ext (va + v / 8) 1 d.2 with
      | (.inr e, s) => (some e, s)
      | (.inl r, s) =>
        let old := (r.1.getD 0 0).toNat
        let b := BitVec.ofNat 8 (old / 2 ^ (v % 8) * 2 ^ (v % 8) + (lowBits (v % 8) (d.1.1.getD (v / 8) 0)).toNat)
        ctxWriteN (.dma core) hint ctx ext (d.1.2 || r.2) va (whole ++ [b]) s

/-- A transfer's sectors, (row, sector) pairs, one after the other. -/
def moveSectors (f : Nat → Nat → State → Option VErr × State) : List (Nat × Nat) → State → Option VErr × State
  | [], s => (none, s)
  | (r, q) :: t, s =>
    match f r q s with
    | (some e, s) => (some e, s)
    | (none, s) => moveSectors f t s

/-- The data of transfer j of a window, for tile t of its core. -/
def moveTile (ctx ext core : Nat) (b : PlanBuf) (w : PlanWin) (arg j : Nat) (x : AxisView) (idx : List Nat) (s : State) :
    Option VErr × State :=
  let at_ := b.offset + j % b.copies * b.copy
  moveSectors (fun r q s =>
    let va := rowVa w arg x idx r + 64 * q
    let v := sectorBits (rowBits w x idx r) q
    let off := at_ + r * w.rowBytes + 64 * q
    if w.dir = 0 then sectorIn ctx ext core va off v s else sectorOut ctx ext w.hint core va off v s)
    ((List.range w.rows).flatMap fun r => (List.range (w.rowBytes / 64)).map fun q => (r, q)) s

/-! ### The events -/

/-- Work of a context goes on: it is RUNNING, or it stops at tile boundaries that have not all come (R470, R471). -/
def ctxActs (s : State) (c : Nat) : Bool :=
  let x := ctxGet s c
  (x.st == .running && x.stop.isNone) || (x.st == .stopping && x.stop == some .tile)

/-- What an event of window i of a context's kernel works with. -/
structure WinView where
  launch : Launch
  win : DmaWin
  hdr : PlanHdr
  k : KRec
  pw : PlanWin
  buf : PlanBuf
  axes : AxisView
  counts : List Nat

def winView (s : State) (ctx i : Nat) : Option WinView :=
  match (ctxGet s ctx).launch, launchKernel s ctx with
  | some l, some (pl, h, k) =>
    match l.dma[i]?, l.invs[l.inv]? with
    | some d, some v =>
      let rd := imgRead s pl.addr
      let x := axisView (planDims rd h.dims) k v
      let w := planWin rd k i
      some { launch := l, win := d, hdr := h, k := k, pw := w, buf := planBuf rd k w.buffer, axes := x,
             counts := tileCounts k x }
    | _, _ => none
  | _, _ => none

/-- Replace window i of a context's launch. -/
def putWin (ctx i : Nat) (d : DmaWin) (s : State) : State :=
  modCtx ctx (fun x => { x with launch := x.launch.map fun l => { l with dma := l.dma.set i d } }) s

/-- FREE of a window's flag sector (R418). -/
def winFree (s : State) (v : WinView) : Nat := leNat (memReadN (coreGet s v.win.core).tile (64 * v.pw.flagSector + 8) 8)

/-- DMA_TRANSFER_START (R418): the engine starts the window's next transfer where its flags let it. -/
def execDmaTransferStart (ctx i : Nat) (s : State) : Host.Outcome State Fault Refusal :=
  match winView s ctx i with
  | none => .next s
  | some v =>
    let free := winFree s v
    let may := if v.pw.dir = 0 then decide (v.win.j < free + v.buf.copies) else decide (v.win.j < free)
    .next (if ctxActs s ctx && v.launch.running && !v.win.active && !v.win.finished && may then
      putWin ctx i { v.win with active := true } s else s)

/-- A window after a transfer: DONE is written and the next tile is found. -/
def winNext (ctx i : Nat) (v : WinView) (s : State) : State :=
  let j := v.win.j + 1
  let s := dmaTileMasked v.win.core v.pw.flagSector
    ((leBytes 8 j).map (fun b => (true, b)) ++ List.replicate 56 (false, 0)) false s
  let n := nextTile v.k v.counts v.pw (tilesOf v.k v.counts v.pw.core + 1) (v.win.t + 1)
  putWin ctx i { v.win with j := j, active := false, t := n.getD v.win.t, finished := n.isNone } s

/-- DMA_TRANSFER_DONE (R416 to R418): every sector of the transfer has committed, or an access of it has failed. -/
def execDmaTransferDone (ctx i ext : Nat) (s : State) : Host.Outcome State Fault Refusal :=
  match winView s ctx i with
  | none => .next s
  | some v =>
    if !v.win.active || !ctxActs s ctx then .next s
    else
      let idx := tileIndices v.k v.counts (tileOrdinal v.k v.pw.core v.win.t)
      match moveTile ctx ext v.win.core v.buf v.pw (v.launch.args.getD v.pw.arg 0) v.win.j v.axes idx s with
      | (some e, s) => .next (ctxVFault ctx 1 0 (coreRef v.win.core) e s)
      | (none, s) => .next (winNext ctx i v s)

end Sys2Proof.Machine
end

