-- ==== Sys2Proof/Machine/RingOps.lean ====
section
/-! DEFINITION. The progress of a context's ring: what is started, what completes, and what goes wrong (R389 to R396,
R559). -/
namespace Sys2Proof.Machine

/-- The completion ring has no free entry (R394). -/
def cplFull (r : Ring) : Bool := (r.cplTail + 1) % 2 ^ r.cplLog2 == r.cplHead % 2 ^ r.cplLog2

/-- A disable ends when nothing is left to complete (R389). -/
def ringSettle (r : Ring) : Ring :=
  if r.disabling && r.fetched.isEmpty && r.done.isEmpty then { r with disabling := false } else r

/-- The completion of a command; NO_CPL keeps a successful one silent (R391). -/
def addDone (b : List Byte) (status reason detail : Nat) (r : Ring) : Ring :=
  if status = 0 && bit (field b 1 1) 1 then r
  else { r with done := r.done ++ [cmdCompletion b status reason detail] }

/-- Commands may start on a ring: its context is RUNNING and no stop is pending, the ring is ENABLED, its completion ring has
room (R394, R467). -/
def mayStart (s : State) (c : Nat) : Bool :=
  let r := ringGet s c
  (ctxGet s c).st == .running && (ctxGet s c).stop.isNone && r.st == .enabled && !cplFull r

/-- Commands with no row of their own, BAD_OPCODE, are rejected as they come to the front (R393). -/
def ringAdvance : Nat → Nat → State → State
  | 0, _, s => s
  | f + 1, c, s =>
    if !mayStart s c then s
    else
      match (ringGet s c).fetched with
      | e :: t =>
        if !e.started && decide (7 < field e.bytes 0 1) then
          ringAdvance f c (modRing c (fun r => addDone e.bytes 1 0x100 0 { r with fetched := t }) s)
        else s
      | [] => s

/-- What follows any change of a ring. -/
def ringGo (c : Nat) (s : State) : State := idleCheck c (ringAdvance 4096 c (modRing c ringSettle s))

/-- Complete the command at place `i` of the fetched ones. -/
def finishCmd (c i status reason detail : Nat) (s : State) : State :=
  match (ringGet s c).fetched[i]? with
  | none => s
  | some e =>
    ringGo c (modRing c (fun r => addDone e.bytes status reason detail { r with fetched := r.fetched.eraseIdx i }) s)

/-- Change the command at place `i`. -/
def modCmd (c i : Nat) (f : RingCmd → RingCmd) (s : State) : State :=
  modRing c (fun r => { r with fetched := r.fetched.modify i f }) s

/-- The entry at the front of a ring, if it can start and is of an opcode (R392). -/
def headCmd (s : State) (c op : Nat) : Option (List Byte) :=
  match (ringGet s c).fetched.head? with
  | some e => if mayStart s c && !e.started && field e.bytes 0 1 == op then some e.bytes else none
  | none => none

/-- What every entry has Reserved (R391). -/
def cmdReserved (b : List Byte) : Bool := bits (field b 1 1) 3 5 != 0 || field b 4 4 != 0

/-- The reason of RESERVED_SET and BAD_OPERAND, 0 where neither holds (R393). -/
def cmdReason (b : List Byte) (reserved operand : Bool) : Nat :=
  if cmdReserved b || reserved then 0x101 else if operand then 0x102 else 0

/-- Run a command that completes at once, unless its entry is refused; `f` answers status, reason, detail. -/
def runCmd (c op : Nat) (reserved operand : List Byte → Bool) (f : List Byte → State → (Nat × Nat × Nat) × State)
    (s : State) : State :=
  match headCmd s c op with
  | none => s
  | some b =>
    let r := cmdReason b (reserved b) (operand b)
    if r != 0 then finishCmd c 0 1 r 0 s
    else
      let x := f b (modCmd c 0 (fun e => { e with started := true }) s)
      finishCmd c 0 x.1.1 x.1.2.1 x.1.2.2 x.2

/-- The completion status of a failed access, and whether the context goes on (R393, R559). -/
def busStatus : Nat → Nat × Bool
  | 5 => (4, true)
  | 6 => (4, true)
  | 7 => (4, true)
  | 9 => (6, false)
  | 10 => (5, true)
  | _ => (2, false)

/-- Complete the command at place `i` after a failed access: an address error and REMOTE_LOST complete the command alone;
every other failure faults the context too (R276, R393), whose ring is HALTED. -/
def failCmd (c i detail : Nat) (e : VErr) (s : State) : State :=
  match e with
  | .xlat r va =>
    let s := modRing c (fun r => match r.fetched[i]? with
      | some e => addDone e.bytes 2 0 detail { r with fetched := r.fetched.eraseIdx i }
      | none => r) s
    ringGo c (dmaXlatFault c 2 r va s)
  | .bus k a =>
    let x := busStatus (k % 65536)
    let s := modRing c (fun r => match r.fetched[i]? with
      | some e => addDone e.bytes x.1 0 detail { r with fetched := r.fetched.eraseIdx i }
      | none => r) s
    ringGo c (if x.2 then recordAccess c 8 k a c s else containedCtx c 2 8 k a c s)

end Sys2Proof.Machine
end

