-- ==== Sys2Proof/Machine/Plans.lean ====
section
/-! DEFINITION. Loading and unloading plans, launching them, and the kernels of a launch (R105, R168, R412 to R415, R420 to
R431). -/
namespace Sys2Proof.Machine

/-! ### PLAN_LOAD and PLAN_UNLOAD (R420 to R422) -/

/-- A slot entry with INJ set, its plan-local group replaced by the die group (R420). -/
def mapGroup (groups : List Nat) (e : Nat) : Nat :=
  match groups[bits e 16 6]? with
  | some g => e - 2 ^ 16 * bits e 16 6 + 2 ^ 16 * (g % 64)
  | none => e

/-- Rewrite the slot tables of an image: each table once, however many kernels name it. -/
def resolveTables (addr : Nat) (groups : List Nat) (rd : Nat → Nat → Nat) (h : PlanHdr) (s : State) : State :=
  let offs := ((kernelRecs rd h).map (·.slotOff)).eraseDups
  offs.foldl (fun s o =>
    (List.range (h.cores * h.tableLen)).foldl (fun s i =>
      let e := rd (o + 4 * i) 4
      if bit e 15 && mapGroup groups e != e then
        writeBytes { who := .cc 0 } (globalOf s (addr + o + 4 * i)) (leBytes 4 (mapGroup groups e)) false s
      else s) s) s

/-- Accept a plan (R420, R421): groups, tables, slot. -/
def acceptPlan (ctx slot addr origin : Nat) (s : State) : State :=
  let rd := imgRead s addr
  let h := planHdr rd
  let die := origin / 36
  let g := ((freeDieGroups s die).take h.groups).map (64 * die + ·)
  let s := { s with lath := { s.lath with groups := g.foldl (fun m k => sput m k ctx) s.lath.groups } }
  let s := resolveTables addr g rd h s
  let pl : Plan := { addr := addr, bytes := h.bytes, origin := origin, groups := g, sections := footSections h origin }
  ok (bump 0x2A03 1 (modCtx ctx (fun x => { x with plans := sput x.plans slot pl }) s))

/-- PLAN_LOAD (R421, R423): accepted whole, or refused with the first failing check. An image with a poisoned sector is
poison that the loader consumes for the context (R564). -/
def execPlanLoad (ctx slot addr origin : Nat) (s : State) : Host.Outcome State Fault Refusal :=
  if 32 ≤ slot || 144 ≤ origin then .refused .illFormed
  else if !ctxExists s ctx then .next (failed 2 s)
  else
    match planBad s ctx slot addr origin with
    | some b => .next (failed b.reason (writeReject ctx slot 0 b (bump 0x2A03 2 s)))
    | none =>
      if localPoison s addr (planHdr (imgRead s addr)).bytes then
        .next (failed 1 (writeReject ctx slot 0 { reason := 1 } (bump 0x2A03 2 (containedCtx ctx 6 10 4 (globalOf s addr) 0 s))))
      else .next (acceptPlan ctx slot addr origin s)

/-- PLAN_UNLOAD (R422). -/
def execPlanUnload (ctx slot : Nat) (s : State) : Host.Outcome State Fault Refusal :=
  if !ctxExists s ctx then .next (failed 2 s)
  else
    let x := ctxGet s ctx
    match sfind x.plans slot with
    | none => .next (failed 0x20 s)
    | some pl =>
      if (x.launch.map (·.slot)) = some slot then .next (failed 0x21 s)
      else .next (ok (modCtx ctx (fun y => { y with plans := sdel y.plans slot }) (freeGroups pl.groups s)))

/-! ### LAUNCH (R426 to R431) -/

/-- The smallest bucket at least a size, by index. -/
def bucketFor (d : PlanDim) (n : Nat) : Nat := (d.used.findIdx? fun b => decide (n ≤ b)).getD 0

/-- Number of entries that a dimension's size is split into; none where it is refused (R428). -/
def splitCount (d : PlanDim) (n : Nat) : Option Nat :=
  if n ≤ d.largest then some 1
  else if !d.split then none
  else some (n / d.largest + (if n % d.largest = 0 then 0 else 1))

/-- Entries (bucket index, extent, offset) of a dimension's size (R428). -/
def splitList (d : PlanDim) (n : Nat) : List (Nat × Nat × Nat) :=
  if n ≤ d.largest then [(bucketFor d n, n, 0)]
  else
    let b := d.largest
    let r := n % b
    ((List.range (n / b)).map fun i => (d.count - 1, b, i * b)) ++ (if r = 0 then [] else [(bucketFor d r, r, n - r)])

/-- Invocations: the combinations of the entries, dimension 0 outermost; the variant accumulates with dimension 0 fastest
(R408, R428). -/
def invocations : List PlanDim → List Nat → Nat → List Invocation
  | d :: ds, n :: ns, w =>
    (splitList d n).flatMap fun e =>
      (invocations ds ns (w * d.count)).map fun v =>
        { variant := e.1 * w + v.variant, extents := e.2.1 :: v.extents, offsets := e.2.2 :: v.offsets }
  | _, _, _ => [{ variant := 0, extents := [], offsets := [] }]

/-- The operands of a LAUNCH (R426). -/
structure LaunchArgs where
  slot : Nat
  mode : Option Nat
  posBase : Nat
  extents : List Nat
  argVa : Nat

def launchArgs (b : List Byte) : LaunchArgs :=
  { slot := field b 8 1, mode := if bit (field b 9 1) 0 then some (field b 10 1 % 128) else none,
    posBase := field b 12 3, extents := (List.range 4).map fun i => field b (16 + 4 * i) 4, argVa := field b 32 8 }

/-- A set Reserved bit of a LAUNCH (R426, R427). -/
def launchReserved (b : List Byte) : Bool :=
  cmdReserved b || bits (field b 9 1) 1 7 != 0 || bit (field b 10 1) 7 || field b 11 1 != 0 || field b 15 1 != 0 ||
    (slice b 40 24).any (· != 0)

/-- The reason of R427 for which a LAUNCH is refused before its argument pointers are read, 0 for none. -/
def launchReason (s : State) (ctx : Nat) (b : List Byte) : Nat :=
  let a := launchArgs b
  if launchReserved b then 0x101
  else if 32 ≤ a.slot then 0x102
  else
    match sfind (ctxGet s ctx).plans a.slot with
    | none => 0x20
    | some pl =>
      let rd := imgRead s pl.addr
      let h := planHdr rd
      let ds := planDims rd h.dims
      let n := (List.range h.dims).map fun i => (ds[i]?.bind fun d => splitCount d (a.extents.getD i 0))
      if (a.extents.drop h.dims).any (· != 0) then 0x102
      else if n.any (·.isNone) then 0x22
      else if 65536 < (n.map (·.getD 1)).prod then 0x23
      else if (List.range h.dims).any fun i => (ds[i]?.map PlanDim.position).getD false &&
          decide (16777216 < a.posBase + a.extents.getD i 0) then 0x24
      else if a.argVa % 64 != 0 then 0x25
      else 0

/-- Argument pointers that a LINE window of the plan uses (R423). -/
def lineArgs (rd : Nat → Nat → Nat) (h : PlanHdr) : List Nat :=
  (kernelRecs rd h).flatMap fun k => ((planWins rd k).filter fun w => bit w.flags 0).map (·.arg)

/-- Refuse the LAUNCH at the front of a ring (R427, R429, R430). -/
def launchReject (ctx reason : Nat) (b : List Byte) (s : State) : State :=
  finishCmd ctx 0 1 reason 0
    (writeReject ctx (field b 8 1) 1 { reason := reason } (bump 0x2A03 4 (bump64 0x2A03 3 s)))

/-- A LAUNCH that has passed its first checks reads its argument pointers once and starts (R427, R428). -/
def launchStart (ctx : Nat) (b : List Byte) (pl : Plan) (s : State) : State :=
  let a := launchArgs b
  let rd := imgRead s pl.addr
  let h := planHdr rd
  let ds := planDims rd h.dims
  let s := modCmd ctx 0 (fun e => { e with started := true }) s
  match ctxReadN ctx 0 a.argVa 64 s with
  | (.inr e, s) => failCmd ctx 0 0 e (bump64 0x2A03 3 s)
  | (.inl r, s) =>
    if r.2 then failCmd ctx 0 0 (.bus 4 a.argVa) (bump64 0x2A03 3 s)
    else
      let args := patterns 8 8 r.1
      if args.any (fun p => p % 64 != 0) || (lineArgs rd h).any (fun i => args.getD i 0 % 1024 != 0) then
        launchReject ctx 0x25 b s
      else
        let l : Launch :=
          { slot := a.slot, mode := a.mode, posBase := a.posBase, extents := a.extents, argVa := a.argVa, args := args,
            invs := invocations ds (a.extents.take h.dims) 1, inv := 0, kernel := 0, running := false, dma := [] }
        modCtx ctx (fun x => { x with launch := some l }) (bump64 0x2A03 3 s)

/-- LAUNCH (R427): checked, then started; one with an extent of 0 completes at once. -/
def execLaunch (ctx : Nat) (s : State) : Host.Outcome State Fault Refusal :=
  match headCmd s ctx 1 with
  | none => .next s
  | some b =>
    let r := launchReason s ctx b
    if r != 0 then .next (launchReject ctx r b s)
    else
      match sfind (ctxGet s ctx).plans (launchArgs b).slot with
      | none => .next s
      | some pl =>
        let n := (planHdr (imgRead s pl.addr)).dims
        if ((launchArgs b).extents.take n).any (· == 0) then .next (finishCmd ctx 0 0 0 0 (bump64 0x2A03 3 s))
        else .next (launchStart ctx b pl s)

/-! ### Kernels (R105, R168, R413, R414, R418) -/

/-- The footprint cores of the launch's plan. -/
def footCores (pl : Plan) (h : PlanHdr) : List Nat := (List.range h.cores).map (footCore h pl.origin)

/-- Group block and index within it of slot t, for a kernel whose blocks take consecutive slots (assumption 16). -/
def slotPlace : List Nat → Nat → Nat → Option (Nat × Nat)
  | [], _, _ => none
  | n :: r, g, t => if t < n then some (g, t) else slotPlace r (g + 1) (t - n)

/-- Position base of an invocation: POS_BASE, with the offset along the position dimension (R431). -/
def invPos (ds : List PlanDim) (l : Launch) (v : Invocation) : Nat :=
  match ds.findIdx? PlanDim.position with
  | some i => l.posBase + v.offsets.getD i 0
  | none => l.posBase

/-- The initial scalar registers of a thread group (R413). -/
def initRegs (l : Launch) (pos : Nat) (x : AxisView) (k : KRec) (f g : Nat) : SMap W64 :=
  ([(1, l.argVa), (2, f), (3, k.index), (4, tilesOf k (tileCounts k x) f), (5, x.actual.getD 0 0), (6, x.actual.getD 1 0),
    (7, x.actual.getD 2 0), (8, l.inv), (9, pos), (10, g)].map fun e => (e.1, BitVec.ofNat 64 e.2)).filter fun e => e.2 != 0

/-- A core at the start of a kernel: L1s invalid, thread groups loaded, barrier units set (R83, R91, R168, R413). -/
def startCore (ctx : Nat) (mode : W32) (regs : Nat → SMap W64) (k : KRec) (z : Core) : Core :=
  let layout := k.layout.take k.gbCount
  let slots := (List.range 16).filterMap fun t => (slotPlace layout 0 t).map fun p =>
    (t, { st := .loaded, ctx := ctx, mask := 0xFFFFFFFF, pc := k.entry, s := regs p.2, coreMode := mode, gb := p.1 : Slot })
  let bars := (List.range layout.length).map fun g =>
    (g, { inUse := true, expected := layout.getD g 0, arrived := 0, accBase := (k.regions.getD g (0, 0)).1,
          accLen := (k.regions.getD g (0, 0)).2 : Barrier })
  { z with l1d := [], l1i := [], slots := slots, barriers := bars, owner := some ctx }

/-- Zero the flag sectors of a kernel's windows (R418). -/
def zeroFlags (h : PlanHdr) (pl : Plan) (ws : List PlanWin) (s : State) : State :=
  ws.foldl (fun s w => dmaTileMasked (footCore h pl.origin w.core) w.flagSector (List.replicate 64 (true, 0)) false s) s

/-- Start the launch's kernel on its footprint. -/
def startKernel (ctx : Nat) (l : Launch) (v : Invocation) (pl : Plan) (h : PlanHdr) (k : KRec) (s : State) : State :=
  let rd := imgRead s pl.addr
  let ds := planDims rd h.dims
  let x := axisView ds k v
  let n := tileCounts k x
  let ws := planWins rd k
  let mode := BitVec.ofNat 32 (l.mode.getD (num s 0x2004 1 0x30))
  let s := (List.range h.cores).foldl (fun s f =>
    modCore (footCore h pl.origin f) (startCore ctx mode (initRegs l (invPos ds l v) x k f) k) s) s
  let s := zeroFlags h pl ws s
  let dma := ws.map fun w =>
    let t := nextTile k n w (tilesOf k n w.core + 1) 0
    { core := footCore h pl.origin w.core, recOff := w.off, j := 0, active := false, t := t.getD 0,
      finished := t.isNone : DmaWin }
  let s := modCtx ctx (fun y => { y with launch := some { l with running := true, dma := dma } }) s
  installRouters ctx (fun _ => 0) (setSched ctx {} s)

/-- Every thread group of the context on the footprint has ENDED (R414). -/
def kernelEnded (s : State) (ctx : Nat) (l : List Nat) : Bool :=
  l.all fun c => (coreGet s c).slots.all fun t => t.2.ctx != ctx || t.2.st == .ended || t.2.st == .free

/-- A dirty L1 line is left on the footprint. -/
def footDirty (s : State) (l : List Nat) : Bool := l.any fun c => (coreGet s c).l1d.any fun e => e.2.dirty != 0

/-- What R414 waits for: write-backs acknowledged, windows finished, landing buffers empty. -/
def kernelQuiet (s : State) (ctx : Nat) (la : Launch) (l : List Nat) : Bool :=
  la.dma.all (·.finished) && l.all fun c =>
    (coreGet s c).landing.isEmpty && (coreGet s c).stores.all fun o => o.req.ctx != ctx

/-- The kernel is complete: the next kernel, the next invocation, or the end of the launch (R414, R429). -/
def kernelDone (ctx : Nat) (l : Launch) (h : PlanHdr) (s : State) : State :=
  let s := setSched ctx {} s
  if l.kernel + 1 < h.kernels then
    modCtx ctx (fun x => { x with launch := some { l with running := false, kernel := l.kernel + 1, dma := [] } }) s
  else if l.inv + 1 < l.invs.length then
    modCtx ctx (fun x => { x with launch := some { l with running := false, kernel := 0, inv := l.inv + 1, dma := [] } }) s
  else finishCmd ctx 0 0 0 0 (modCtx ctx (fun x => { x with launch := none }) s)

/-- KERNEL_START (R168, R414): the launch goes on by one stage: the kernel's end writes the L1s back, then completes, or the
next kernel starts. -/
def execKernelStart (ctx : Nat) (s : State) : Host.Outcome State Fault Refusal :=
  match (ctxGet s ctx).launch, launchKernel s ctx with
  | some l, some (pl, h, k) =>
    let foot := footCores pl h
    if (ctxGet s ctx).st != .running || (ctxGet s ctx).stop.isSome then .next s
    else if !l.running then
      match l.invs[l.inv]? with
      | some v => .next (startKernel ctx l v pl h k s)
      | none => .next s
    else if !kernelEnded s ctx foot then .next s
    else if footDirty s foot then .next (foot.foldl (fun s c => writeBackAll c s) s)
    else if !kernelQuiet s ctx l foot then .next s
    else .next (kernelDone ctx l h s)
  | _, _ => .next s

/-- TILE_OVERRUN (R415): an interval without YIELD.TB has exceeded WORST_TILE_CYCLES. -/
def execTileOverrun (ctx core : Nat) (s : State) : Host.Outcome State Fault Refusal :=
  if Config.nCores ≤ core then .refused .illFormed
  else
    let s := bump64 0x2A03 5 s
    let now := time s / 1000000000
    if num s 0x6A03 1 0 = 1 && sfind s.dict.ignLogged (256 * 0x2A03 + 5) != some now then
      .next (logRec { index := 0x2A03, sub := 5, sev := 1, ctx := ctx, part := ctxPart ctx,
                      payload := leBytes 8 (num s 0x2A03 5 0) ++ leBytes 2 (coreRef core) }
        { s with dict := { s.dict with ignLogged := sput s.dict.ignLogged (256 * 0x2A03 + 5) now } })
    else .next s

end Sys2Proof.Machine
end

