-- ==== Sys2Proof/Machine/Scalar.lean ====
section
/-! DEFINITION. The scalar instructions (R119). -/
namespace Sys2Proof.Machine

/-- S[D] ← f(S[A], S[B]). -/
def scalar3 (op mods : Nat) (f : W64 → W64 → W64) (c t : Nat) (w : W64) (s : State) : Host.Outcome State Fault Refusal :=
  issueSlot (scalarDesc 0 op) (okScalar3 mods) c t w (fun x => sWrite x (iD w) (f (sRead x (iA w)) (sRead x (iB w)))) s

/-- A 64-bit shift: by 64 or more its result is free (assumption 8). -/
def shift64 (op : Nat) (f : W64 → Nat → W64) (a b : W64) : W64 :=
  if b.toNat < 64 then f a b.toNat else Config.shiftBig64 op a b

/-- MOD of the compare instructions (R119). -/
def cmpInt {n : Nat} (mod : Nat) (a b : BitVec n) : Bool :=
  match mod with
  | 0 => a == b
  | 1 => a != b
  | 2 => a.slt b
  | 3 => a.sle b
  | 4 => a.ult b
  | _ => a.ule b

def execAddS (core slot : Nat) (w : W64) (s : State) : Host.Outcome State Fault Refusal :=
  scalar3 0 1 (· + ·) core slot w s
def execSubS (core slot : Nat) (w : W64) (s : State) : Host.Outcome State Fault Refusal :=
  scalar3 1 1 (· - ·) core slot w s
def execAndS (core slot : Nat) (w : W64) (s : State) : Host.Outcome State Fault Refusal :=
  scalar3 2 1 (· &&& ·) core slot w s
def execOrS (core slot : Nat) (w : W64) (s : State) : Host.Outcome State Fault Refusal :=
  scalar3 3 1 (· ||| ·) core slot w s
def execXorS (core slot : Nat) (w : W64) (s : State) : Host.Outcome State Fault Refusal :=
  scalar3 4 1 (· ^^^ ·) core slot w s
def execShlS (core slot : Nat) (w : W64) (s : State) : Host.Outcome State Fault Refusal :=
  scalar3 5 1 (shift64 5 fun a n => a <<< n) core slot w s
def execShrS (core slot : Nat) (w : W64) (s : State) : Host.Outcome State Fault Refusal :=
  scalar3 6 1 (shift64 6 fun a n => a >>> n) core slot w s
def execSraS (core slot : Nat) (w : W64) (s : State) : Host.Outcome State Fault Refusal :=
  scalar3 7 1 (shift64 7 fun a n => a.sshiftRight n) core slot w s
def execMulS (core slot : Nat) (w : W64) (s : State) : Host.Outcome State Fault Refusal :=
  scalar3 8 1 (· * ·) core slot w s
/-- CMP.S: 1 or 0 by MOD. -/
def execCmpS (core slot : Nat) (w : W64) (s : State) : Host.Outcome State Fault Refusal :=
  scalar3 9 6 (fun a b => if cmpInt (iMod w) a b then 1 else 0) core slot w s

def execAddiS (core slot : Nat) (w : W64) (s : State) : Host.Outcome State Fault Refusal :=
  issueSlot (scalarDesc 1 0) (okScalarI 1) core slot w (fun x => sWrite x (iD w) (sRead x (iA w) + iImm w)) s

/-- LI.S: MOD 0 loads IMM32, MOD 1 writes D[63:32] and keeps the low half. -/
def execLiS (core slot : Nat) (w : W64) (s : State) : Host.Outcome State Fault Refusal :=
  issueSlot (scalarDesc 1 1) (okScalarI 2) core slot w (fun x =>
    sWrite x (iD w) (if iMod w = 0 then iImm w
      else (w.extractLsb' 32 32 : W32) ++ ((sRead x (iD w)).truncate 32 : W32))) s

end Sys2Proof.Machine
end

