-- ==== Sys2Proof/Machine/Vector.lean ====
section
/-! DEFINITION. The vector instructions (R84, R86, R105 to R109, R115, R119, R120). -/
namespace Sys2Proof.Machine

def srcA (w : W64) (x : Slot) (l : Nat) : W32 := vSrc x (iSsel3 w 1) (iA w) l
def srcB (w : W64) (x : Slot) (l : Nat) : W32 := vSrc x (iSsel3 w 2) (iB w) l
def srcC (w : W64) (x : Slot) (l : Nat) : W32 := vSrc x (iSsel3 w 3) (iC w) l

/-- A vector R3 instruction with `n` sources: V[D] of every active lane from the lane's sources. -/
def vector3 (op mods n : Nat) (f : Slot → Nat → Lane) (c t : Nat) (w : W64) (s : State) :
    Host.Outcome State Fault Refusal :=
  issueSlot (vectorDesc 0 op) (okVector3 mods n) c t w (fun x => perLane (iD w) (f x) x) s

/-- CORE_MODE's controls in a slot. -/
def md (x : Slot) : Modes := modesOf x.coreMode

def bool32 (b : Bool) : W32 := if b then 1 else 0

def execFmaF32 (core slot : Nat) (w : W64) (s : State) : Host.Outcome State Fault Refusal :=
  vector3 0x20 1 3 (fun x l => fma32 (md x) (srcA w x l) (srcB w x l) (srcC w x l)) core slot w s
def execAddF32 (core slot : Nat) (w : W64) (s : State) : Host.Outcome State Fault Refusal :=
  vector3 0x21 1 2 (fun x l => add32 (md x) (srcA w x l) (srcB w x l)) core slot w s
def execSubF32 (core slot : Nat) (w : W64) (s : State) : Host.Outcome State Fault Refusal :=
  vector3 0x22 1 2 (fun x l => sub32 (md x) (srcA w x l) (srcB w x l)) core slot w s
def execMulF32 (core slot : Nat) (w : W64) (s : State) : Host.Outcome State Fault Refusal :=
  vector3 0x23 1 2 (fun x l => mul32 (md x) (srcA w x l) (srcB w x l)) core slot w s
def execMinF32 (core slot : Nat) (w : W64) (s : State) : Host.Outcome State Fault Refusal :=
  vector3 0x24 1 2 (fun x l => minMax32 true (md x) (srcA w x l) (srcB w x l)) core slot w s
def execMaxF32 (core slot : Nat) (w : W64) (s : State) : Host.Outcome State Fault Refusal :=
  vector3 0x25 1 2 (fun x l => minMax32 false (md x) (srcA w x l) (srcB w x l)) core slot w s
def execExp2F32 (core slot : Nat) (w : W64) (s : State) : Host.Outcome State Fault Refusal :=
  vector3 0x26 1 1 (fun x l => fixed32 Config.exp2F32 0x26 (md x) (srcA w x l)) core slot w s
def execLog2F32 (core slot : Nat) (w : W64) (s : State) : Host.Outcome State Fault Refusal :=
  vector3 0x27 1 1 (fun x l => fixed32 Config.log2F32 0x27 (md x) (srcA w x l)) core slot w s
def execRcpF32 (core slot : Nat) (w : W64) (s : State) : Host.Outcome State Fault Refusal :=
  vector3 0x28 1 1 (fun x l => fixed32 Config.rcpF32 0x28 (md x) (srcA w x l)) core slot w s
def execRsqF32 (core slot : Nat) (w : W64) (s : State) : Host.Outcome State Fault Refusal :=
  vector3 0x29 1 1 (fun x l => fixed32 Config.rsqF32 0x29 (md x) (srcA w x l)) core slot w s
def execCmpF32 (core slot : Nat) (w : W64) (s : State) : Host.Outcome State Fault Refusal :=
  vector3 0x2A 6 2 (fun x l => (bool32 (cmp32 (iMod w) (md x) (srcA w x l) (srcB w x l)), cmpFlags (iMod w) (srcA w x l) (srcB w x l))) core slot w s
def execCmpI32 (core slot : Nat) (w : W64) (s : State) : Host.Outcome State Fault Refusal :=
  vector3 0x34 6 2 (fun x l => (bool32 (cmpInt (iMod w) (srcA w x l) (srcB w x l)), 0)) core slot w s
def execAddI32 (core slot : Nat) (w : W64) (s : State) : Host.Outcome State Fault Refusal :=
  vector3 0x30 1 2 (fun x l => (srcA w x l + srcB w x l, 0)) core slot w s
def execSubI32 (core slot : Nat) (w : W64) (s : State) : Host.Outcome State Fault Refusal :=
  vector3 0x31 1 2 (fun x l => (srcA w x l - srcB w x l, 0)) core slot w s
def execMulI32 (core slot : Nat) (w : W64) (s : State) : Host.Outcome State Fault Refusal :=
  vector3 0x32 1 2 (fun x l => (srcA w x l * srcB w x l, 0)) core slot w s

/-- LOGIC.I32 by MOD (R119); a shift by 32 or more is free (assumption 8). -/
def logic32 (mod : Nat) (a b : W32) : W32 :=
  match mod with
  | 0 => a &&& b
  | 1 => a ||| b
  | 2 => a ^^^ b
  | m =>
    if b.toNat < 32 then
      (match m with
       | 3 => a <<< b.toNat
       | 4 => a >>> b.toNat
       | _ => a.sshiftRight b.toNat)
    else Config.shiftBig32 m a b

def execLogicI32 (core slot : Nat) (w : W64) (s : State) : Host.Outcome State Fault Refusal :=
  vector3 0x33 6 2 (fun x l => (logic32 (iMod w) (srcA w x l) (srcB w x l), 0)) core slot w s
/-- SEL.V: A where C is not 0, else B. -/
def execSelV (core slot : Nat) (w : W64) (s : State) : Host.Outcome State Fault Refusal :=
  vector3 0x35 1 3 (fun x l => (if srcC w x l = 0 then srcB w x l else srcA w x l, 0)) core slot w s
/-- SHFL.V: A of the lane named by B mod 32. -/
def execShflV (core slot : Nat) (w : W64) (s : State) : Host.Outcome State Fault Refusal :=
  vector3 0x36 1 2 (fun x l => (srcA w x ((srcB w x l).toNat % 32), 0)) core slot w s

/-- CVT: source type in C[3:0], destination type in MOD (R109, R119, assumption 7). -/
def execCvt (core slot : Nat) (w : W64) (s : State) : Host.Outcome State Fault Refusal :=
  issueSlot (vectorDesc 0 0x38) okCvt core slot w (fun x => perLane (iD w) (fun l =>
    match elemOf (iC w % 16), elemOf (iMod w) with
    | some a, some b => cvt32 a b (iMod w) (md x) (srcA w x l)
    | _, _ => (0, 0)) x) s

def execAddiI32 (core slot : Nat) (w : W64) (s : State) : Host.Outcome State Fault Refusal :=
  issueSlot (vectorDesc 1 0x20) okVectorI core slot w (fun x => perLane (iD w) (fun l =>
    (vSrc x (iSselI w 1) (iA w) l + w.extractLsb' 32 32, 0)) x) s

end Sys2Proof.Machine
end

