-- ==== Sys2Proof/Machine/Tensor.lean ====
section
/-! DEFINITION. The long TILE-format instructions: how they start, and their steps (R104, R108, R122, R127, R128, R134
to R142); ACC.SCALE.T. -/
namespace Sys2Proof.Machine

/-! ### Starting a long instruction (R127, R134) -/

def tileDesc (op : Nat) : InstrDesc := { fmt := 3, op := op, pipe := 2, maskFree := true, long := true }

/-- A long instruction with no step left completes (R133). -/
def longDone (x : Slot) : Slot :=
  advance { x with long := none, resuming := false, prog := { x.prog with valid := false } }

/-- Begin, or on restart continue from STEP (R134); an instruction of no steps completes. -/
def startLong (c t : Nat) (w : W64) (count : Nat) (x : Slot) (s : State) : State :=
  let st := if x.resuming then x.prog.step else 0
  if count ≤ st then putSlot c t (longDone x) s else putSlot c t { x with long := some ⟨w, st⟩ } s

/-- Issue a long TILE-format instruction: its operands are checked first (R122, R125). -/
def issueTile (op : Nat) (legal : W64 → Bool) (steps : W64 → Slot → Nat)
    (check : W64 → Slot → Core → Option (Nat × Nat)) (c t : Nat) (w : W64) (s : State) :
    Host.Outcome State Fault Refusal :=
  issue (tileDesc op) legal steps c t w (fun x s =>
    match check w x (coreGet s c) with
    | some e => raiseExc c t e.1 0xFFFFFFFF e.2 none s
    | none => startLong c t w (steps w x) x s) s

/-- The value of S[r] as a number. -/
def sNum (x : Slot) (r : Nat) : Nat := (sRead x r).toNat

/-! ### Reading the sources of a step (R564) -/

/-- Read ranges of tile memory for a step: a poisoned sector raises POISON, otherwise the step goes on. -/
def readRanges (c t st : Nat) (l : List (Nat × Nat)) (cont : State → State) (s : State) : State :=
  let s := l.foldl (fun s r => touchTile c r.1 r.2 s) s
  match l.findSome? fun r => firstPoison (coreGet s c) r.1 r.2 with
  | some sec => raisePoison c t 0xFFFFFFFF (64 * sec) (globalOf s (tileAddr c (64 * sec))) (some st) s
  | none => cont s

/-- Put results into the accumulator array and their flags into TG_FLAGS. -/
def accApply (c t : Nat) (l : List (Nat × Lane)) (s : State) : State :=
  modSlot c t (fun x => addFlags x (l.foldl (fun f e => f ||| e.2.2) 0))
    (modCore c (fun k => { k with acc := l.foldl (fun a e => sput a e.1 e.2.1) k.acc }) s)

/-- The 256 positions of a 16 × 16 sub-tile, row-major. -/
def sub16 : List (Nat × Nat) := (List.range 256).map fun i => (i / 16, i % 16)

/-! ### MMA.T (R104, R108, R135) -/

def mmaOpnds (w : W64) (x : Slot) : List TileOpnd :=
  [⟨sNum x (iSA w), operandBytes (iTypeA w) (iM w) (iK w), some 0, false⟩,
   ⟨sNum x (iSB w), operandBytes (iTypeB w) (iN w) (iK w), some 1, false⟩]

def mmaSteps (w : W64) (_ : Slot) : Nat := iM w / 16 * (iN w / 16) * (iK w / 32)

/-- The 32 elements of one run of an operand row, with the block's scale. -/
structure RunRow where
  codes : List Nat
  scale : Nat

def runRow (k : Core) (code base rows kk row run : Nat) : RunRow :=
  { codes := (List.range 32).map fun i => elemAt k base (elemBits code) (row * kk + 32 * run + i)
    scale := if isMx code then scaleAt k code base rows kk row run else 127 }

/-- Values of the elements of a run. -/
def runVals (code : Nat) (r : RunRow) : List FVal :=
  match elemOf code with
  | some e => r.codes.map (decodeElem e false)
  | none => []

/-- Sum of a run for one output, exactly, with the factor of the two block scales (R103, R104). -/
def mmaDot (ca cb : Nat) (a b : RunRow) : FVal × W32 :=
  if a.scale = 255 || b.scale = 255 then (.nan, flagSNAN)
  else
    let d := dotVal ((runVals ca a).zip (runVals cb b))
    (scaleVal ((a.scale : Int) + b.scale - 254) d.1, d.2)

/-- An INT8 element. -/
def int8 (b : Nat) : Int := if 128 ≤ b then (b : Int) - 256 else b

/-- Sum of a run of INT8 products (R108). -/
def mmaDotInt (a b : RunRow) : Int := ((a.codes.zip b.codes).map fun p => int8 p.1 * int8 p.2).sum

/-- An element that IEEE 754 calls a signalling NaN: E5M2, BF16, FP16 or FP32 with its quiet bit 0. -/
def signalElem (code v : Nat) : Bool :=
  match code with
  | 4 => bits v 2 5 == 31 && bits v 0 2 == 1
  | 5 => signalling (BitVec.ofNat 32 (v * 65536))
  | 6 => bits v 10 5 == 31 && bits v 0 10 != 0 && !bit v 9
  | 8 => signalling (BitVec.ofNat 32 v)
  | _ => false

/-- NV where a run or its accumulator holds a signalling NaN and the tensor unit counts that as invalid (R106, assumption 8). -/
def mmaSignal (ca cb : Nat) (a b : RunRow) (acc : W32) : W32 :=
  if (a.codes.any (signalElem ca) || b.codes.any (signalElem cb) || signalling acc) && Config.nanInvalid 0x300 true then flagNV
  else 0

/-- One output after one run, from its accumulator entry. -/
def mmaOut (ca cb : Nat) (md : Modes) (a b : RunRow) (acc : W32) : Lane :=
  if ca = 7 then accAddInt md.intSat acc (mmaDotInt a b)
  else
    let d := mmaDot ca cb a b
    accAdd md.accFtz acc (d.1, d.2 ||| mmaSignal ca cb a b acc)

/-- Ranges that a run of 16 rows of an operand reads. -/
def runRanges (code base rows kk row0 run : Nat) : List (Nat × Nat) :=
  (List.range 16).flatMap fun i =>
    (base + ((row0 + i) * kk + 32 * run) * elemBits code / 8, 4 * elemBits code) ::
      (if isMx code then [(base + rows * kk * elemBits code / 8 + (row0 + i) * (kk / 32) + run, 1)] else [])

/-- Step `st` of MMA.T: sub-tile st div (K/32), run st mod (K/32); with ZERO a sub-tile's first run starts from 0. -/
def mmaStep (c t : Nat) (w : W64) (st : Nat) (s : State) : State :=
  let x := slotGet (coreGet s c) t
  let a := sNum x (iSA w)
  let b := sNum x (iSB w)
  let acc := sNum x (iSD w)
  let sub := st / (iK w / 32)
  let run := st % (iK w / 32)
  let m0 := 16 * (sub / (iN w / 16))
  let n0 := 16 * (sub % (iN w / 16))
  readRanges c t st (runRanges (iTypeA w) a (iM w) (iK w) m0 run ++ runRanges (iTypeB w) b (iN w) (iK w) n0 run)
    (fun s =>
      let k := coreGet s c
      let ra := (List.range 16).map fun i => runRow k (iTypeA w) a (iM w) (iK w) (m0 + i) run
      let rb := (List.range 16).map fun j => runRow k (iTypeB w) b (iN w) (iK w) (n0 + j) run
      accApply c t (sub16.map fun p =>
        let i := acc + (m0 + p.1) * iN w + n0 + p.2
        (i, mmaOut (iTypeA w) (iTypeB w) (modesOf x.coreMode) (ra.getD p.1 ⟨[], 0⟩) (rb.getD p.2 ⟨[], 0⟩)
          (if iMod w = 1 && run = 0 then 0 else sget 0 k.acc i))) s) s

def execMmaT (core slot : Nat) (w : W64) (s : State) : Host.Outcome State Fault Refusal :=
  issueTile 0 okMma mmaSteps (fun w x k => tileCheck k x.gb (mmaOpnds w x) (some (sNum x (iSD w), iM w * iN w)) true false)
    core slot w s

/-! ### ACC.LD.T and ACC.ST.T -/

def accTile (w : W64) (x : Slot) (dst : Bool) : List TileOpnd :=
  [{ off := sNum x (iSA w), len := iM w * iN w * elemBits (iTypeA w) / 8, dst := dst }]

def accSteps (w : W64) (_ : Slot) : Nat := iM w / 16 * (iN w / 16)

/-- Corner of sub-tile `st` of an M × N array. -/
def subCorner (w : W64) (st : Nat) : Nat × Nat := (16 * (st / (iN w / 16)), 16 * (st % (iN w / 16)))

/-- Row segments of a sub-tile in a row-major tile of `n`-bit elements: offset and length of each. -/
def subRows (w : W64) (base n st : Nat) : List (Nat × Nat) :=
  (List.range 16).map fun i => (base + (((subCorner w st).1 + i) * iN w + (subCorner w st).2) * n / 8, 2 * n)

/-- An element widened to an accumulator entry (R109): FP32 and INT32 are taken as they are. -/
def widen (code : Nat) (md : Modes) (v : Nat) : Lane :=
  match elemOf code with
  | some (.float f) => if code = 8 then (BitVec.ofNat 32 v, 0)
    else laneOf (convertFp fFP32 md (Config.nanPayload v code 8) (decodeFp f false v)) 0
  | _ => (BitVec.ofNat 32 v, 0)

/-- An accumulator entry narrowed to an element (R109). -/
def narrow (code : Nat) (md : Modes) (v : W32) : Res :=
  match elemOf code with
  | some (.float f) => if code = 8 then (v.toNat, 0)
    else convertFp f md (Config.nanPayload v.toNat code 9) (decodeFp fFP32 false v.toNat)
  | some (.int 8) => convertInt 8 md (decodeElem (.int 32) false v.toNat)
  | _ => (v.toNat, 0)

def accLdStep (c t : Nat) (w : W64) (st : Nat) (s : State) : State :=
  let x := slotGet (coreGet s c) t
  let a := sNum x (iSA w)
  let n := elemBits (iTypeA w)
  readRanges c t st (subRows w a n st) (fun s =>
    let k := coreGet s c
    accApply c t (sub16.map fun p =>
      let i := ((subCorner w st).1 + p.1) * iN w + (subCorner w st).2 + p.2
      (sNum x (iSD w) + i, widen (iTypeA w) (modesOf x.coreMode) (elemAt k a n i))) s) s

def execAccLdT (core slot : Nat) (w : W64) (s : State) : Host.Outcome State Fault Refusal :=
  issueTile 1 okAccLd accSteps (fun w x k => tileCheck k x.gb (accTile w x false) (some (sNum x (iSD w), iM w * iN w)) true false)
    core slot w s

def accStStep (c t : Nat) (w : W64) (st : Nat) (s : State) : State :=
  let k := coreGet s c
  let x := slotGet k t
  let n := elemBits (iTypeA w)
  let rows := (List.range 16).map fun i => (List.range 16).map fun j =>
    narrow (iTypeA w) (modesOf x.coreMode)
      (sget 0 k.acc (sNum x (iSD w) + ((subCorner w st).1 + i) * iN w + (subCorner w st).2 + j))
  let s := ((subRows w (sNum x (iSA w)) n st).zip rows).foldl
    (fun s e => tileWrite c e.1.1 (packElems n (e.2.map (·.1))) false s) s
  modSlot c t (fun x => addFlags x (rows.flatten.foldl (fun f r => f ||| r.2) 0)) s

def execAccStT (core slot : Nat) (w : W64) (s : State) : Host.Outcome State Fault Refusal :=
  issueTile 2 okAccSt accSteps (fun w x k => tileCheck k x.gb (accTile w x true) (some (sNum x (iSD w), iM w * iN w)) true false)
    core slot w s

/-! ### CVT.MX.T (R136) -/

def cvtOpnds (w : W64) (x : Slot) : List TileOpnd :=
  [{ off := sNum x (iSA w), len := operandBytes (iTypeA w) (iM w) (iK w) },
   { off := sNum x (iSB w), len := operandBytes (iTypeB w) (iM w) (iK w), dst := true }]

def cvtSteps (w : W64) (_ : Slot) : Nat := iM w / 16 * (iK w / 32)

/-- One row's block: its scale, element codes and flags. -/
def cvtBlock (k : Core) (w : W64) (x : Slot) (row blk : Nat) : Nat × List Nat × W32 :=
  match elemOf (iTypeA w), elemOf (iTypeB w) with
  | some a, some (.float f) => mxBlock (iTypeB w) f (modesOf x.coreMode) ((List.range 32).map fun i =>
      decodeElem a false (elemAt k (sNum x (iSA w)) (elemBits (iTypeA w)) (row * iK w + 32 * blk + i)))
  | _, _ => (0, [], 0)

def cvtMxStep (c t : Nat) (w : W64) (st : Nat) (s : State) : State :=
  let x := slotGet (coreGet s c) t
  let r0 := 16 * (st / (iK w / 32))
  let blk := st % (iK w / 32)
  let n := elemBits (iTypeB w)
  let b := sNum x (iSB w)
  readRanges c t st (runRanges (iTypeA w) (sNum x (iSA w)) (iM w) (iK w) r0 blk) (fun s =>
    let k := coreGet s c
    (List.range 16).foldl (fun s i =>
      let r := cvtBlock k w x (r0 + i) blk
      modSlot c t (fun x => addFlags x r.2.2)
        (tileWrite c (b + iM w * iK w * n / 8 + (r0 + i) * (iK w / 32) + blk) (leBytes 1 r.1) false
          (tileWrite c (b + ((r0 + i) * iK w + 32 * blk) * n / 8) (packElems n r.2.1) false s))) s) s

def execCvtMxT (core slot : Nat) (w : W64) (s : State) : Host.Outcome State Fault Refusal :=
  issueTile 4 okCvtMx cvtSteps (fun w x k => tileCheck k x.gb (cvtOpnds w x) none false false) core slot w s

/-! ### TCOPY.T -/

def tcopyDesc : InstrDesc := { fmt := 3, op := 5, pipe := 3, maskFree := true, long := true }

def tcopyOpnds (w : W64) (x : Slot) : List TileOpnd :=
  [{ off := sNum x (iSA w), len := sNum x (iSC w) }, { off := sNum x (iSB w), len := sNum x (iSC w), dst := true }]

def tcopySteps (w : W64) (x : Slot) : Nat := (sNum x (iSC w) + 1023) / 1024

/-- Step `st` copies up to 1 KiB, sector by sector, poison with the data (R562). -/
def tcopyStep (c t : Nat) (w : W64) (st : Nat) (s : State) : State :=
  let x := slotGet (coreGet s c) t
  let n := min 1024 (sNum x (iSC w) - 1024 * st)
  let a := sNum x (iSA w) + 1024 * st
  let b := sNum x (iSB w) + 1024 * st
  let s := touchTile c a n s
  let k := coreGet s c
  (List.range (n / 64)).foldl (fun s i =>
    tileWrite c (b + 64 * i) (tileBytes k (a + 64 * i) 64) (tilePoisoned k (a / 64 + i)) s) s

def execTcopyT (core slot : Nat) (w : W64) (s : State) : Host.Outcome State Fault Refusal :=
  issue tcopyDesc (okTile 1) tcopySteps core slot w (fun x s =>
    match tileCheck (coreGet s core) x.gb (tcopyOpnds w x) none false (sNum x (iSC w) % 64 != 0) with
    | some e => raiseExc core slot e.1 0xFFFFFFFF e.2 none s
    | none => startLong core slot w (tcopySteps w x) x s) s

/-! ### Attention (R137 to R142) -/

def posMax : Nat := 2 ^ 24

/-- The 32 × 32 block of step columns `j` in a row-major tile of 32 × K elements of `n` bits: its row segments. -/
def blockRows (base n kk j : Nat) : List (Nat × Nat) :=
  (List.range 32).map fun r => (base + (r * kk + 32 * j) * n / 8, 4 * n)

def attnSteps (w : W64) (_ : Slot) : Nat := iK w / 32

/-- An operand of MASK.T, ROPE.T or SMAX.RUN: 32 × K elements of a type code. -/
def attnOpnd (code off kk : Nat) (bank : Option Nat) (dst : Bool) : TileOpnd :=
  { off := off, len := 32 * kk * elemBits code / 8, bank := bank, dst := dst }

/-- MASK.T writes −∞ to the score of query position q and key position p (R141). -/
def maskOut (mod q p v : Nat) : Bool :=
  match mod with
  | 0 => decide (q < p)
  | 1 => decide (q < p) || decide (p + v < q)
  | _ => decide (v ≤ p)

def maskStep (c t : Nat) (w : W64) (st : Nat) (s : State) : State :=
  let x := slotGet (coreGet s c) t
  let a := sNum x (iSA w)
  readRanges c t st (blockRows a 32 (iK w) st) (fun s =>
    ((List.range 1024).filter fun i =>
      maskOut (iMod w) (vRead x (iVbase w) (i / 32)).toNat (sNum x (iSB w) + 32 * st + i % 32) (sNum x (iSC w))).foldl
      (fun s i => tileWrite c (a + 4 * (i / 32 * iK w + 32 * st + i % 32)) (leBytes 4 0xFF800000) false s) s) s

/-- A position outside its range (R140): a query position, or a key position of a column. -/
def maskPosBad (w : W64) (x : Slot) : Bool :=
  ((List.range 32).any fun r => decide (posMax ≤ (vRead x (iVbase w) r).toNat)) ||
    decide (posMax < sNum x (iSB w) + iK w)

def execMaskT (core slot : Nat) (w : W64) (s : State) : Host.Outcome State Fault Refusal :=
  issueTile 0x10 (okTile 3) attnSteps (fun w x k =>
    match tileCheck k x.gb [attnOpnd 8 (sNum x (iSA w)) (iK w) none true] none true false with
    | some e => some e
    | none => if maskPosBad w x then some (9, 0) else none) core slot w s

/-- The FP32 bits of a BF16 or FP32 element. -/
def asF32 (code v : Nat) : W32 := if code = 5 then BitVec.ofNat 32 (v * 65536) else BitVec.ofNat 32 v

/-- The rotated pair of columns 2i and 2i + 1 in row `r`, in TYPE_B (R142). -/
def ropeOut (k : Core) (w : W64) (x : Slot) (r i : Nat) : List Res :=
  let a := sNum x (iSA w)
  let n := elemBits (iTypeA w)
  let lo := asF32 (iTypeA w) (elemAt k a n (r * iK w + 2 * i))
  let hi := asF32 (iTypeA w) (elemAt k a n (r * iK w + 2 * i + 1))
  let p := Config.ropePair lo hi (vRead x (iVbase w) r).toNat ((sRead x (iSC w)).truncate 32) i (iK w)
  let fl := Config.fnFlags 0x11 lo ||| Config.fnFlags 0x11 hi
  [p.1, p.2].map fun v =>
    let o := narrow (iTypeB w) (modesOf x.coreMode) v
    (o.1, o.2 ||| (fl &&& 0x1F))

def ropeStep (c t : Nat) (w : W64) (st : Nat) (s : State) : State :=
  let x := slotGet (coreGet s c) t
  let n := elemBits (iTypeB w)
  readRanges c t st (blockRows (sNum x (iSA w)) (elemBits (iTypeA w)) (iK w) st) (fun s =>
    let k := coreGet s c
    (List.range 32).foldl (fun s r =>
      let o := (List.range 16).flatMap fun i => ropeOut k w x r (16 * st + i)
      modSlot c t (fun x => addFlags x (o.foldl (fun f e => f ||| e.2) 0))
        (tileWrite c (sNum x (iSB w) + (r * iK w + 32 * st) * n / 8) (packElems n (o.map (·.1))) false s)) s) s

def execRopeT (core slot : Nat) (w : W64) (s : State) : Host.Outcome State Fault Refusal :=
  issueTile 0x11 okRope attnSteps (fun w x k =>
    match tileCheck k x.gb [attnOpnd (iTypeA w) (sNum x (iSA w)) (iK w) none false,
        attnOpnd (iTypeB w) (sNum x (iSB w)) (iK w) none true] none false false with
    | some e => some e
    | none =>
      if (List.range 32).any fun r => decide (posMax ≤ (vRead x (iVbase w) r).toNat) then some (9, 0) else none)
    core slot w s

/-- Row `r` of the scores of step columns `j`. -/
def scoreRow (k : Core) (a kk r j : Nat) : List W32 :=
  (List.range 32).map fun i => BitVec.ofNat 32 (elemAt k a 32 (r * kk + 32 * j + i))

/-- Write V registers of all 32 lanes. -/
def vAll (d : Nat) (f : Nat → Lane) (x : Slot) : Slot := writeLanes d f (List.range 32) x

/-- First phase (R138): m′ is raised to the maximum of m′ and the row's columns. -/
def smaxMax (k : Core) (w : W64) (j : Nat) (x : Slot) : Slot :=
  vAll (iVbase w + 1) (fun r =>
    (scoreRow k (sNum x (iSA w)) (iK w) r j).foldl
      (fun a v => let o := minMax32 false (modesOf x.coreMode) a.1 v; (o.1, a.2 ||| o.2))
      (vRead x (iVbase w + (if j = 0 then 0 else 1)) r, 0)) x

def negInf : W32 := 0xFF800000
def one32 : W32 := 0x3F800000

/-- exp2((v − m′) × f) (R120, R138). -/
def smaxExp (md : Modes) (v m f : W32) : Lane := fixed32 Config.exp2F32 0x26 md (Config.smaxArg v m f)

/-- First step of the second phase: c and l × c; an empty row has c = 1 and l unchanged (R138). -/
def smaxCorr (w : W64) (x : Slot) : Slot :=
  let f : W32 := (sRead x (iSC w)).truncate 32
  let md := modesOf x.coreMode
  let m := fun r => vRead x (iVbase w) r
  let m' := fun r => vRead x (iVbase w + 1) r
  let c := fun r : Nat => if m' r = negInf then (one32, 0) else smaxExp md (m r) (m' r) f
  let l := fun r : Nat => vRead x (iVbase w + 2) r
  vAll (iVbase w + 2) (fun r => if m' r = negInf then (l r, 0) else mul32 md (l r) (c r).1)
    (vAll (iVbase w + 3) c x)

/-- Probabilities of row `r` in a step of the second phase, with their flags. -/
def smaxProbs (k : Core) (w : W64) (x : Slot) (r j : Nat) : List Res :=
  let m' := vRead x (iVbase w + 1) r
  (scoreRow k (sNum x (iSA w)) (iK w) r j).map fun v =>
    if m' = negInf then (0, 0)
    else
      let e := smaxExp (modesOf x.coreMode) v m' ((sRead x (iSC w)).truncate 32)
      let o := narrow (iTypeB w) (modesOf x.coreMode) e.1
      (o.1, o.2 ||| e.2)

/-- l after a step of the second phase: the FP32 values of P are added in ascending column order. -/
def smaxSum (w : W64) (x : Slot) (r : Nat) (p : List Res) : Lane :=
  let l := vRead x (iVbase w + 2) r
  if vRead x (iVbase w + 1) r = negInf then (l, 0)
  else p.foldl (fun a e =>
    let o := add32 (modesOf x.coreMode) a.1 (widen (iTypeB w) {} e.1).1
    (o.1, a.2 ||| o.2 ||| e.2)) (l, 0)

def smaxStep (c t : Nat) (w : W64) (st : Nat) (s : State) : State :=
  let x := slotGet (coreGet s c) t
  let n := iK w / 32
  let j := st % n
  readRanges c t st (blockRows (sNum x (iSA w)) 32 (iK w) j) (fun s =>
    let k := coreGet s c
    if st < n then modSlot c t (smaxMax k w j) s
    else
      let x := slotGet k t
      let x := if j = 0 then smaxCorr w x else x
      let p := fun r => smaxProbs k w x r j
      let s := (List.range 32).foldl (fun s r =>
        tileWrite c (sNum x (iSB w) + 2 * (r * iK w + 32 * j)) (packElems 16 ((p r).map (·.1))) false s)
        (putSlot c t x s)
      modSlot c t (fun x => vAll (iVbase w + 2) (fun r => smaxSum w x r (p r)) x) s) s

def smaxSteps (w : W64) (_ : Slot) : Nat := 2 * (iK w / 32)

def execSmaxRun (core slot : Nat) (w : W64) (s : State) : Host.Outcome State Fault Refusal :=
  issueTile 0x12 okSmax smaxSteps (fun w x k =>
    tileCheck k x.gb [attnOpnd 8 (sNum x (iSA w)) (iK w) none false,
      attnOpnd (iTypeB w) (sNum x (iSB w)) (iK w) (some 0) true] none false false) core slot w s

/-- ACC.SCALE.T (R139): row r of a 32 × N region times lane r of V[VBASE], one rounding to nearest even. -/
def execAccScaleT (core slot : Nat) (w : W64) (s : State) : Host.Outcome State Fault Refusal :=
  issue { tileDesc 3 with long := false } (okTile 1) (fun _ _ => 0) core slot w (fun x s =>
    let k := coreGet s core
    let a := sNum x (iSD w)
    if accBad k x.gb (a, 32 * iN w) then raiseExc core slot 7 0xFFFFFFFF 0 none s
    else
      let md : Modes := { round := 0, ftz := (modesOf x.coreMode).accFtz }
      let s := accApply core slot ((List.range (32 * iN w)).map fun i =>
        (a + i, mul32 md (sget 0 k.acc (a + i)) (vRead x (iVbase w) (i / iN w)))) s
      modSlot core slot advance s) s

/-- POS.GEN (R119, R140): S[A] + LANE_ID × IMM32; a position out of range raises POSITION_RANGE. -/
def execPosGen (core slot : Nat) (w : W64) (s : State) : Host.Outcome State Fault Refusal :=
  issue { fmt := 1, op := 0x40, pipe := 1, maskFree := false } okPosGen (fun _ _ => 0) core slot w (fun x s =>
    let p := fun l : Nat => sRead x (iA w) + BitVec.ofNat 64 l * iImm w
    let bad := (lanesOf x.mask).filter fun l => decide (posMax ≤ (p l).toNat)
    if bad.isEmpty then
      putSlot core slot (advance (perLane (iD w) (fun l => ((p l).truncate 32, 0)) x)) s
    else raiseExc core slot 9 (bad.foldl (fun m l => m ||| (1 <<< l)) 0) 0 none s) s

end Sys2Proof.Machine
end

