-- ==== Sys2Proof/Machine/Control.lean ====
section
/-! DEFINITION. Branches, exit, barriers, fences, YIELD, BRK and the CSR instructions (R87, R90, R91, R118, R119, R121,
R143, R144, R147, R148). -/
namespace Sys2Proof.Machine

def ctlDesc (fmt op : Nat) (maskFree : Bool) : InstrDesc := { fmt := fmt, op := op, pipe := 4, maskFree := maskFree }

/-- PC plus a signed number of instruction words. -/
def relPc (pc : Nat) (n : Int) : Nat := (((pc : Int) + 8 * n) % 2 ^ 64).toNat

/-! ### Branches (R87) -/

/-- The threads of a mask that satisfy a predicate. -/
def maskOf (m : W32) (p : Nat → Bool) : W32 := ((lanesOf m).filter p).foldl (fun a l => a ||| (1 <<< l)) 0

/-- The active threads that take a branch. -/
def takenMask (w : W64) (x : Slot) : W32 :=
  maskOf x.mask fun l =>
    ((if iBrScalar w then sRead x (iD w) != 0 else vRead x (iD w) l != 0) != iNeg w)

/-- BR (R87): a uniform condition pushes nothing; a divergent one pushes the not-taken threads, or overflows. -/
def execBr (core slot : Nat) (w : W64) (s : State) : Host.Outcome State Fault Refusal :=
  issue (ctlDesc 4 0 false) (fun w => okBr (iBrScalar w) w) (fun _ _ => 0) core slot w (fun x s =>
    let tk := takenMask w x
    if tk = x.mask then putSlot core slot (goTo (relPc x.pc (iTarget w)) x) s
    else if tk = 0 then putSlot core slot (advance x) s
    else if 32 ≤ x.stack.length then raiseExc core slot 0xA x.mask 0 none (bump 0x2003 1 s)
    else
      let e : Reconv := { mask := x.mask &&& ~~~tk, addr := relPc x.pc (iReconv w), resume := relPc x.pc 1, arrived := false }
      putSlot core slot (goTo (relPc x.pc (iTarget w)) { x with mask := tk, stack := e :: x.stack }) s) s

/-- An instruction of the control pipe that changes only its own slot and names the next address itself. -/
def issueJump (op : Nat) (maskFree : Bool) (legal : W64 → Bool) (f : W64 → Slot → Slot) (c t : Nat) (w : W64) (s : State) :
    Host.Outcome State Fault Refusal :=
  issue (ctlDesc 4 op maskFree) legal (fun _ _ => 0) c t w (fun x s => putSlot c t (f w x) s) s

/-- BR.U: a uniform condition in S[A]. -/
def execBrU (core slot : Nat) (w : W64) (s : State) : Host.Outcome State Fault Refusal :=
  issueJump 1 false (okBr true) (fun w x =>
    if (sRead x (iD w) != 0) != iNeg w then goTo (relPc x.pc (iTarget w)) x else advance x) core slot w s

def execJmp (core slot : Nat) (w : W64) (s : State) : Host.Outcome State Fault Refusal :=
  issueJump 2 true (okBr false) (fun w x => goTo (relPc x.pc (iTarget w)) x) core slot w s

/-- CALL links PC + 8 into S[A]. -/
def execCall (core slot : Nat) (w : W64) (s : State) : Host.Outcome State Fault Refusal :=
  issueJump 3 true (okBr true) (fun w x =>
    goTo (relPc x.pc (iTarget w)) (sWrite x (iD w) (BitVec.ofNat 64 (x.pc + 8)))) core slot w s

/-- RET jumps to S[A]; instruction addresses are multiples of 8 (R114). -/
def execRet (core slot : Nat) (w : W64) (s : State) : Host.Outcome State Fault Refusal :=
  issueJump 4 true (okBr true) (fun w x => goTo ((sRead x (iD w)).toNat / 8 * 8) x) core slot w s

/-! ### EXIT and the barrier (R85, R87, R90, R91) -/

/-- Release a barrier: its waiting thread groups are READY, and the count resets (R90). -/
def releaseBar (gb : Nat) (k : Core) : Core :=
  { k with
    slots := k.slots.map fun e => (e.1, if e.2.gb = gb ∧ e.2.st = .waitBar then { e.2 with st := .ready } else e.2)
    barriers := smod {} k.barriers gb (fun b => { b with arrived := 0 }) }

/-- Release a barrier all of whose thread groups have arrived. -/
def checkBar (gb : Nat) (k : Core) : Core :=
  let b := sget {} k.barriers gb
  if b.expected ≤ b.arrived && b.arrived != 0 then releaseBar gb k else k

/-- A thread group of a block ends: the expected count falls, and the unit frees with the last (R91). -/
def groupEnded (gb : Nat) (k : Core) : Core :=
  checkBar gb { k with barriers := smod {} k.barriers gb (fun b =>
    { b with expected := b.expected - 1, inUse := decide (1 < b.expected) }) }

/-- After EXIT: the next stacked threads that are left run, or the thread group has ended (R85, R87). -/
def resumeStack : List Reconv → Slot → Slot
  | [], x => { x with mask := 0, stack := [], st := .ended }
  | e :: t, x =>
    if e.mask = 0 then resumeStack t x
    else if e.arrived then goTo e.addr { x with mask := e.mask, stack := t }
    else goTo e.resume { x with mask := e.mask, stack := { e with mask := 0, arrived := true } :: t }

/-- EXIT: the active threads exit and are removed from every stacked mask (R87). -/
def execExit (core slot : Nat) (w : W64) (s : State) : Host.Outcome State Fault Refusal :=
  issue (ctlDesc 5 1 false) (okCtl 1) (fun _ _ => 0) core slot w (fun x s =>
    let y := resumeStack (x.stack.map fun e => { e with mask := e.mask &&& ~~~x.mask }) x
    let s := putSlot core slot y s
    if y.st = .ended then modCore core (groupEnded x.gb) s else s) s

/-- The thread group has a load or atomic that has not returned (R144). -/
def loadsOut (k : Core) (t : Nat) : Bool := k.loads.any fun l => l.slot == t

/-- A fence of a scope can complete (R144): 0 group block, 1 device, 2 system. -/
def fenceDone (s : State) (c t scope : Nat) : Bool :=
  let k := coreGet s c
  !(k.loads.any fun l => l.slot == t && l.atom.isNone) &&
  (scope == 0 ||
    (!(k.stores.any fun o => scope == 2 || o.scope == .thisDevice) &&
     !(k.loads.any fun l => l.slot == t && l.atom.isSome && (scope == 2 || scopeOf s l.req.addr == .thisDevice))))

/-- BAR.GB (R90, R143): completes a fence of group-block scope, arrives, and waits. -/
def execBarGb (core slot : Nat) (w : W64) (s : State) : Host.Outcome State Fault Refusal :=
  issue (ctlDesc 5 3 false) (okCtl 1) (fun _ _ => 0) core slot w (fun x s =>
    if !fenceDone s core slot 0 then putSlot core slot { x with st := .waitDep } s
    else
      let s := putSlot core slot { advance x with st := .waitBar } s
      modCore core (fun k => checkBar x.gb { k with
        barriers := smod {} k.barriers x.gb (fun b => { b with arrived := b.arrived + 1 }) }) s) s

/-- A fence of a scope (R144): nothing later of the thread group issues until it completes. -/
def fence (scope : Nat) (c t : Nat) (w : W64) (s : State) : Host.Outcome State Fault Refusal :=
  issue { ctlDesc 5 4 true with fence := some scope } (okCtl 3) (fun _ _ => 0) c t w (fun x s =>
    putSlot c t (if fenceDone s c t scope then advance x else { x with st := .waitDep }) s) s

def execFenceGb (core slot : Nat) (w : W64) (s : State) : Host.Outcome State Fault Refusal := fence 0 core slot w s
def execFenceDev (core slot : Nat) (w : W64) (s : State) : Host.Outcome State Fault Refusal := fence 1 core slot w s
def execFenceSys (core slot : Nat) (w : W64) (s : State) : Host.Outcome State Fault Refusal := fence 2 core slot w s

/-! ### NOP, BRK, YIELD -/

def execNop (core slot : Nat) (w : W64) (s : State) : Host.Outcome State Fault Refusal :=
  issue (ctlDesc 5 0 true) (okCtl 1) (fun _ _ => 0) core slot w (fun x s => putSlot core slot (advance x) s) s

/-- BRK raises BREAKPOINT. -/
def execBrk (core slot : Nat) (w : W64) (s : State) : Host.Outcome State Fault Refusal :=
  issue (ctlDesc 5 0xC false) (okCtl 1) (fun _ _ => 0) core slot w (fun x s => raiseExc core slot 0xD x.mask 0 none s) s

/-- YIELD (R147), and its tile boundary (R148). -/
def execYield (core slot : Nat) (w : W64) (s : State) : Host.Outcome State Fault Refusal :=
  issue (ctlDesc 5 2 true) (okCtl 2) (fun _ _ => 0) core slot w (fun x s =>
    if iMod w = 1 && (ctxGet s x.ctx).stop = some .tile then putSlot core slot { advance x with stopped := true } s
    else putSlot core slot { advance x with st := .waitYield, aux := max 1 (iImm16 w) } s) s

/-- YIELD_EXPIRE: the cycles of a YIELD have passed (R147). -/
def execYieldExpire (core slot : Nat) (s : State) : Host.Outcome State Fault Refusal :=
  let x := slotGet (coreGet s core) slot
  if x.st = .waitYield && !x.stopped && coreRuns s core then
    .next (putSlot core slot { x with st := .ready, aux := 0 } s)
  else .next s

/-- SLOT_FREE: an ENDED slot becomes FREE (R85). -/
def execSlotFree (core slot : Nat) (s : State) : Host.Outcome State Fault Refusal :=
  if (slotGet (coreGet s core) slot).st = .ended then .next (putSlot core slot {} s) else .next s

/-! ### CSR.R and CSR.W (R118) -/

/-- PROG_STATE (R131). -/
def progWord (x : Slot) : W64 :=
  BitVec.ofNat 64 (x.prog.step % 65536 + 2 ^ 16 * (x.prog.op % 256) + 2 ^ 24 * (x.prog.fmt % 16) +
    2 ^ 32 * (x.aux % 65536) + (if x.prog.valid then 2 ^ 63 else 0))

/-- The value of a CSR for a thread; `free` stands for CYCLE. -/
def csrVal (c t n lane free : Nat) (x : Slot) : W64 :=
  match n with
  | 0 => x.coreMode.zeroExtend 64
  | 1 => x.flags.zeroExtend 64
  | 2 => BitVec.ofNat 64 lane
  | 3 => BitVec.ofNat 64 t
  | 4 => BitVec.ofNat 64 x.gb
  | 5 => BitVec.ofNat 64 (coreRef c)
  | 6 => BitVec.ofNat 64 x.ctx
  | 7 => BitVec.ofNat 64 free
  | 8 => x.mask.zeroExtend 64
  | _ => progWord x

/-- CSR.R: into S[D], or into V[D] of the active lanes (two registers for a 64-bit CSR). LANE_ID into S[D] takes a free
lane's (assumption 8); CYCLE is free, the model having no clock (assumption 2). -/
def execCsrR (core slot : Nat) (w : W64) (s : State) : Host.Outcome State Fault Refusal :=
  issue (ctlDesc 5 0xA (iCsr w != 2)) okCsrR (fun _ _ => 0) core slot w (fun x s =>
    let f := draw s
    let n := iCsr w
    let act := lanesOf x.mask
    let y :=
      if iSselI w 0 then sWrite x (iD w) (csrVal core slot n (act.getD (f.1 % act.length) 0) f.1 x)
      else
        let lo := perLane (iD w) (fun l => ((csrVal core slot n l f.1 x).truncate 32, 0)) x
        if csrWide n then perLane (iD w + 1) (fun l => ((csrVal core slot n l f.1 x).extractLsb' 32 32, 0)) lo else lo
    putSlot core slot (advance y) f.2) s

/-- CSR.W: from S[A], or from V[A] of a free active lane (assumption 8). TG_FLAGS is cleared by writing 1. -/
def execCsrW (core slot : Nat) (w : W64) (s : State) : Host.Outcome State Fault Refusal :=
  issue (ctlDesc 5 0xB (iCsr w != 2)) okCsrW (fun _ _ => 0) core slot w (fun x s =>
    let f := draw s
    let act := lanesOf x.mask
    let v : W32 := if iSselI w 1 then (sRead x (iA w)).truncate 32
      else vRead x (iA w) (act.getD (f.1 % act.length) (f.1 % 32))
    let y := if iCsr w = 0 then { x with coreMode := v &&& 0x7F } else { x with flags := x.flags &&& ~~~v }
    putSlot core slot (advance y) f.2) s

end Sys2Proof.Machine
end

