-- ==== Sys2Proof/Machine/Plumb.lean ====
section
/-! DEFINITION. PLB.ISSUE and PLB.POLL, and the events of the Plumb arrays (R123, R436 to R456). -/
namespace Sys2Proof.Machine

/-- The ticket-table entry that the next issue takes: a free one, or else the oldest that is final (R439). `issues` less the
sequence number is an entry's age. -/
def ticketSlot (x : Ctx) : Option Nat :=
  match (List.range 32).find? fun e => (sfind x.tickets e).isNone with
  | some e => some e
  | none =>
    let l := x.tickets.filter fun t => ticketFinal t.2.st
    let age := fun (t : Nat × Ticket) => (x.issues + 2 ^ 24 - t.2.seq) % 2 ^ 24
    (l.find? fun t => l.all fun u => decide (age u ≤ age t)).map (·.1)

/-- PLB.ISSUE (R123, R438, R439): enqueue the descriptor at S[A] on the array of the core's stack pair. -/
def execPlbIssue (core slot : Nat) (w : W64) (s : State) : Host.Outcome State Fault Refusal :=
  issue (ctlDesc 5 8 true) (fun w => okCtl 1 w && decide (iA w < 32) && decide (iD w < 32)) (fun _ _ => 0) core slot w
    (fun x s =>
      let a := coreDie core
      let c := ctxGet s x.ctx
      if plbShare s a (ctxPart x.ctx) = 0 then raiseExc core slot 0xB 0xFFFFFFFF 0 none s
      else
        match ticketSlot c with
        | none => putSlot core slot { x with st := .waitMem } s
        | some e =>
          if 32 ≤ plbLive s a then putSlot core slot { x with st := .waitMem } s
          else
            let q := c.issues % 2 ^ 24
            let d : PlbDesc :=
              { ctx := x.ctx, part := ctxPart x.ctx, entry := e, seq := q, va := (sRead x (iA w)).toNat, bytes := [],
                started := false, suspended := false, nextProblem := 0, doneProblems := 0, flagged := 0 }
            let s := setCtx x.ctx { c with
              tickets := sput c.tickets e { seq := q, st := 0, reason := 0, done := 0 }
              issues := (c.issues + 1) % 2 ^ 24 } s
            let s := modArray a (fun y => { y with queue := y.queue ++ [d] }) s
            putSlot core slot (advance (sWrite x (iD w) (BitVec.ofNat 64 (e + 256 * q)))) s) s

/-- The status word of a ticket (R440). -/
def ticketWord (x : Ctx) (v : Nat) : Nat :=
  match sfind x.tickets (v % 32) with
  | some t => if t.seq = v / 256 % 2 ^ 24 then t.st + 256 * t.reason + 2 ^ 32 * t.done else 15
  | none => 15

/-- PLB.POLL (R440). -/
def execPlbPoll (core slot : Nat) (w : W64) (s : State) : Host.Outcome State Fault Refusal :=
  issue (ctlDesc 5 9 true) (fun w => okCtl 1 w && decide (iA w < 32) && decide (iD w < 32)) (fun _ _ => 0) core slot w
    (fun x s =>
      putSlot core slot (advance (sWrite x (iD w)
        (BitVec.ofNat 64 (ticketWord (ctxGet s x.ctx) (sRead x (iA w)).toNat)))) s) s

/-- PLB_SHARE (R436): NO_PARTITION where the partition does not exist; a share above its range is applied as clamped. -/
def execPlbShare (part : Nat) (lanes : List Nat) (s : State) : Host.Outcome State Fault Refusal :=
  .next (if (partGet s part).st = .none then failed 1 s else ok (giveShares part lanes s))

/-- The problem work of a descriptor may go on. -/
def plbMayRun (s : State) (a : Nat) (d : PlbDesc) : Bool :=
  let x := ctxGet s d.ctx
  !d.suspended && x.st != .none && x.st != .faulted && x.stop != some .urgent && decide (0 < plbShare s a d.part) &&
    !isOut s (4 + a)

/-- A descriptor fails its check: only STATUS is written (R444). -/
def plbFailed (a ext reason : Nat) (d : PlbDesc) (s : State) : State :=
  match plbWrite a d ext false (d.va + 92) (leBytes 4 (5 + 256 * reason)) s with
  | (some e, s) => plbAbort a d e s
  | (none, s) =>
    plbLeave a d (bump 0x2B04 6 (modTicket d (fun t => { t with st := 5, reason := reason }) s))

/-- PLB_DESC_START (R444): the i-th descriptor of an array's queue is read and checked. -/
def execPlbDescStart (array i ext : Nat) (s : State) : Host.Outcome State Fault Refusal :=
  if 4 ≤ array then .refused .illFormed
  else
    match (arrayGet s array).queue[i]? with
    | none => .next s
    | some d =>
      if d.started || !plbMayRun s array d || decide (plbShare s array d.part ≤ plbBusy s array d.part) then .next s
      else
        match ctxReadN d.ctx ext d.va 128 s with
        | (.inr e, s) => .next (plbAbort array d e s)
        | (.inl (b, p), s) =>
          if p then .next (plbAbort array d (.bus 4 d.va) s)
          else
            let r := plbReason d.va b
            if r != 0 then .next (plbFailed array ext r { d with bytes := b } s)
            else .next (putDesc array { d with bytes := b, started := true }
              (modTicket d (fun t => { t with st := 1 }) s))

/-! ### PLB_STEP -/

/-- Read what BA_BACKSUB needs beside its record: one delta per observation slot, by camera index (R447). -/
def readDeltas (d : PlbDesc) (ext : Nat) (x : PlbFields) (input : List Byte) :
    List Nat → State → ((List Byte × Bool) ⊕ VErr) × State
  | [], s => (.inl ([], false), s)
  | i :: t, s =>
    match ctxReadN d.ctx ext (x.auxVa + 4 * x.cam * field input (64 + 4 * i) 4) (4 * x.cam) s with
    | (.inr e, s) => (.inr e, s)
    | (.inl r, s) =>
      match readDeltas d ext x input t s with
      | (.inr e, s) => (.inr e, s)
      | (.inl q, s) => (.inl (r.1 ++ q.1, r.2 || q.2), s)

/-- Everything that a problem reads: its input record, and what ASSEMBLE adds to or BA_BACKSUB's deltas. -/
def readProblem (d : PlbDesc) (ext n : Nat) (s : State) : ((List Byte × List Byte × Bool) ⊕ VErr) × State :=
  let x := plbFields d.bytes
  match ctxReadN d.ctx ext (x.inVa + x.inStride * n) (plbInBytes x) s with
  | (.inr e, s) => (.inr e, s)
  | (.inl r, s) =>
    let aux :=
      if x.op = 1 && x.accum then ctxReadN d.ctx ext (x.outVa + x.outStride * n) (workBytes x) s
      else if x.op = 0x11 then readDeltas d ext x r.1 (List.range x.m) s
      else (.inl ([], false), s)
    match aux with
    | (.inr e, s) => (.inr e, s)
    | (.inl q, s) => (.inl (r.1, q.1, r.2 || q.2), s)

/-- What a free lane takes (R441, R454): a suspended problem of a descriptor that runs again, or else an unstarted one, of
the oldest descriptor whose partition has a lane to spare. -/
inductive PlbDeal
  | again (q : PlbProblem)
  | fresh (d : PlbDesc)

def plbDeal (s : State) (a : Nat) : Option PlbDeal :=
  let x := arrayGet s a
  let can := fun (d : PlbDesc) => d.started && plbMayRun s a d && decide (plbBusy s a d.part < plbShare s a d.part)
  x.queue.findSome? fun d =>
    if !can d then none
    else
      let w := (plbInFlight s a d).filter (·.lane.isNone)
      match w.find? fun q => w.all fun z => decide (q.problem ≤ z.problem) with
      | some q => some (.again q)
      | none => if d.nextProblem < (plbFields d.bytes).count then some (.fresh d) else none

/-- A free lane takes its problem: a fresh one is loaded; the error record of a poisoned input follows R563 (R451). -/
def plbTake (a lane ext : Nat) (s : State) : State :=
  match plbDeal s a with
  | none => s
  | some (.again q) =>
    let f := fun (z : PlbProblem) =>
      if z.ctx = q.ctx ∧ z.seq = q.seq ∧ z.problem = q.problem then { z with lane := some lane } else z
    modArray a (fun x => { x with problems := x.problems.map f }) s
  | some (.fresh d) =>
    match readProblem d ext d.nextProblem s with
    | (.inr e, s) => plbAbort a d e s
    | (.inl (input, aux, p), s) =>
      let q : PlbProblem := { lane := some lane, part := d.part, ctx := d.ctx, seq := d.seq, problem := d.nextProblem,
                              step := 0, input := input, aux := aux, poisoned := p }
      let s := if p then errReport { cls := 2, source := 9, cause := 4, place := a, ctx := d.ctx, part := d.part,
                                     addr := (plbFields d.bytes).inVa + (plbFields d.bytes).inStride * d.nextProblem } s
               else s
      modArray a (fun x => { x with problems := x.problems ++ [q] })
        (putDesc a { d with nextProblem := d.nextProblem + 1 } s)

/-- Subindex of the counter of a RESULT (R457). -/
def plbCounter : Nat → Nat
  | 1 => 2
  | 2 => 3
  | 3 => 4
  | 4 => 5
  | _ => 1

/-- The descriptor is complete: its completion fields, then the ticket (R442, R443). -/
def plbComplete (a ext : Nat) (d : PlbDesc) (s : State) : State :=
  let st := if d.flagged = 0 then 3 else 4
  match plbWrite a d ext false (d.va + 84) (leBytes 4 d.doneProblems ++ leBytes 4 d.flagged ++ leBytes 4 st) s with
  | (some e, s) => plbAbort a d e s
  | (none, s) => plbLeave a d (modTicket d (fun t => { t with st := st, done := d.doneProblems }) s)

/-- The last step of a problem: its outputs, its status word, the counters, and the end of its descriptor (R442). -/
def plbFinish (a ext : Nat) (d : PlbDesc) (q : PlbProblem) (s : State) : State :=
  let x := plbFields d.bytes
  let r := plbRun x q.input q.aux
  let result := if q.poisoned then 4 else r.result
  let outs := r.out.map fun o => (x.outVa + x.outStride * q.problem + o.1, o.2, q.poisoned)
  match plbWrites a d ext (outs ++ [(x.statusVa + 8 * q.problem, plbStatus result r.rank r.retries 0 0, false)]) s with
  | (some e, s) => plbAbort a d e s
  | (none, s) =>
    let s := bump64 0x2B04 1 s
    let s := if result = 0 then s else bump64 0x2B04 (plbCounter result) s
    let d := { d with doneProblems := d.doneProblems + 1, flagged := d.flagged + (if result = 0 then 0 else 1) }
    let s := modArray a (fun y => { y with problems := y.problems.filter fun z =>
      !(z.ctx == q.ctx && z.seq == q.seq && z.problem == q.problem) }) (putDesc a d s)
    if d.doneProblems = x.count then plbComplete a ext d s
    else modTicket d (fun t => { t with done := d.doneProblems }) s

/-- PLB_STEP (R441, R445, R453): a lane performs one step of its problem; an idle lane takes a problem. -/
def execPlbStep (array lane ext : Nat) (s : State) : Host.Outcome State Fault Refusal :=
  if 4 ≤ array || 64 ≤ lane then .refused .illFormed
  else
    let x := arrayGet s array
    match x.problems.find? fun q => q.lane == some lane with
    | none => .next (plbTake array lane ext s)
    | some q =>
      match x.queue.find? fun d => d.ctx == q.ctx && d.seq == q.seq with
      | none => .next s
      | some d =>
        if !plbMayRun s array d then .next s
        else if q.step + 1 < plbSteps (plbFields d.bytes) q.input then
          let f := fun (z : PlbProblem) => if z.lane = some lane then { z with step := z.step + 1 } else z
          .next (modArray array (fun y => { y with problems := y.problems.map f }) s)
        else .next (plbFinish array ext d q s)

end Sys2Proof.Machine
end

