-- ==== Sys2Proof/Machine/Rings.lean ====
section
/-! DEFINITION. Doorbells, the rings of contexts and their commands (R384, R385, R389 to R397, R404). -/
namespace Sys2Proof.Machine

/-! ### Doorbells (R390, R394, R404) -/

/-- A function decodes its BARs: the link is up, it is in D0, and a VF is enabled (R380, R381). -/
def decodes (s : State) (fn : Fn) : Bool :=
  s.host.linkUp && !s.host.d3hot.contains (fnKey fn) && (fn == .pf || s.host.vfEnable)

/-- A VF's page belongs to a context of the partition that the VF drives (R383). -/
def pageOf (s : State) (fn : Fn) (ctx : Nat) : Bool :=
  match fn with
  | .pf => true
  | .vf n => ((sfind s.host.vfMap n).map (·.part)) == some (ctxPart ctx)

/-- A PF page of a context that a VF drives (R404). -/
def notOwned (s : State) (fn : Fn) (ctx : Nat) : Bool := fn == .pf && ctxFn s ctx != .pf

/-- A CMD_TAIL value is in the valid span (R390). -/
def tailValid (r : Ring) (t : Nat) : Bool :=
  let n := 2 ^ r.cmdLog2
  decide ((t + (n - r.cmdTail % n)) % n ≤ (r.cmdHead + n - 1 + (n - r.cmdTail % n)) % n)

/-- A valid CMD_TAIL: entries become available, and an IDLE context is READY (R390, R466). -/
def newTail (ctx t : Nat) (s : State) : State :=
  let s := modRing ctx (fun r => { r with cmdTail := t % 2 ^ r.cmdLog2 }) s
  if (ctxGet s ctx).st = .idle && ctxWork s ctx then becomeReady ctx s else s

/-- Doorbells are acted on: READY or READY_DEGRADED, and no tamper stop (R379, R522). -/
def doorbellsServed (s : State) : Bool := isReady s && !s.askar.sec.tamperStop

/-- A write of CMD_TAIL. -/
def cmdTail (fn : Fn) (ctx value : Nat) (s : State) : State :=
  let t := value % 4096
  if !decodes s fn then s
  else if !doorbellsServed s then ignored 0x2907 1 s
  else if !pageOf s fn ctx || (ringGet s ctx).st != .enabled then ignored 0x2907 2 s
  else if !tailValid (ringGet s ctx) t then ignored 0x2907 3 s
  else if notOwned s fn ctx then ignored 0x2907 4 s
  else newTail ctx t s

/-- CMD_TAIL (R390). -/
def execCmdTail (fn : Fn) (ctx value : Nat) (s : State) : Host.Outcome State Fault Refusal :=
  if 1024 ≤ ctx then .refused .illFormed else .next (cmdTail fn ctx value s)

/-- A CPL_HEAD value is in the valid span (R394). -/
def headValid (r : Ring) (h : Nat) : Bool :=
  let n := 2 ^ r.cplLog2
  decide ((h + (n - r.cplHead % n)) % n ≤ (r.cplTail + (n - r.cplHead % n)) % n)

/-- A write of CPL_HEAD; a ring that is not ENABLED takes it while completion entries wait (R389, R394, R396). -/
def cplHead (fn : Fn) (ctx value : Nat) (s : State) : State :=
  let h := value % 4096
  let r := ringGet s ctx
  if !decodes s fn then s
  else if !doorbellsServed s then ignored 0x2907 1 s
  else if !pageOf s fn ctx || (r.st != .enabled && r.done.isEmpty) then ignored 0x2907 2 s
  else if notOwned s fn ctx then ignored 0x2907 4 s
  else if !headValid r h then ignored 0x2907 5 s
  else ringGo ctx (modRing ctx (fun r => { r with cplHead := h % 2 ^ r.cplLog2 }) s)

/-- CPL_HEAD (R394). -/
def execCplHead (fn : Fn) (ctx value : Nat) (s : State) : Host.Outcome State Fault Refusal :=
  if 1024 ≤ ctx then .refused .illFormed else .next (cplHead fn ctx value s)

/-! ### RING_SETUP (R389) -/

/-- RING_SETUP enable answers a reason. -/
def ringReason (s : State) (a : RingArgs) : Option Nat :=
  let cmdEnd := a.cmdBase + 64 * 2 ^ a.cmdLog2
  let inAp := match a.fn with
    | .pf => true
    | .vf n => match sfind s.host.vfMap n with
      | some m => decide (m.apBase ≤ a.cmdBase) && decide (cmdEnd ≤ m.apBase + m.apBytes)
      | none => false
  let cplOk := isHostAddr a.cplBase && isHostAddr (a.cplBase + 16 * 2 ^ a.cplLog2 - 1) && devOf a.cplBase == devId s
  if a.cmdBase % 4096 != 0 || a.cplBase % 4096 != 0 || decide (backedBytes < cmdEnd) || !inAp || !cplOk then some 1
  else if !ctxExists s a.ctx || ctxFn s a.ctx != a.fn then some 2
  else if !isReady s then some 3
  else if (ringGet s a.ctx).st != .disabled || (ringGet s a.ctx).disabling then some 4
  else none

/-- Enable a ring; a FAULTED context returns to IDLE (R389, R480). -/
def ringEnable (a : RingArgs) (s : State) : State :=
  match ringReason s a with
  | some r => failed r s
  | none =>
    let s := setRing a.ctx { st := .enabled, fn := a.fn, cmdBase := a.cmdBase, cmdLog2 := a.cmdLog2, cplBase := a.cplBase,
                             cplLog2 := a.cplLog2, vector := a.vector, coalesceNs := a.coalesceNs } s
    ok (if (ctxGet s a.ctx).st = .faulted then modCtx a.ctx (fun x => { x with st := .idle, faulting := false }) s else s)

/-- RING_SETUP enable. -/
def execRingEnable (args : RingArgs) (s : State) : Host.Outcome State Fault Refusal :=
  if 1024 ≤ args.ctx then .refused .illFormed else .next (ringEnable args s)

/-- A ring that is disabled: entries not fetched are discarded; of the fetched ones those started go on, and WAITs and those
not started complete ABORTED (R389). -/
def stopRing (r : Ring) : Ring :=
  let goesOn := fun (e : RingCmd) => e.started && field e.bytes 0 1 != 4
  ringSettle { r with
    st := .disabled
    disabling := true
    cmdHead := r.cmdTail
    fetched := r.fetched.filter goesOn
    done := r.done ++ (r.fetched.filter fun e => !goesOn e).map fun e =>
      cmdCompletion e.bytes 3 0 (if field e.bytes 0 1 = 4 then e.detail else 0) }

/-- Disable a ring. -/
def ringDisable (ctx : Nat) (s : State) : State :=
  if !ctxExists s ctx then failed 2 s
  else if !isReady s then failed 3 s
  else if (ringGet s ctx).st = .disabled then ok s
  else
    let s := modRing ctx stopRing s
    let s := if (ctxGet s ctx).st = .waiting then modCtx ctx (fun x => { x with st := .idle }) s else s
    ringGo ctx (ok s)

/-- RING_SETUP disable. -/
def execRingDisable (ctx : Nat) (s : State) : Host.Outcome State Fault Refusal :=
  if 1024 ≤ ctx then .refused .illFormed else .next (ringDisable ctx s)

/-! ### Fetch and completion (R390, R394, R397) -/

/-- CMD_FETCH (R390): the device fetches the next available entry. -/
def execCmdFetch (ctx : Nat) (s : State) : Host.Outcome State Fault Refusal :=
  let r := ringGet s ctx
  if (ctxGet s ctx).st != .running || (ctxGet s ctx).stop.isSome || r.st != .enabled || r.cmdHead == r.cmdTail then .next s
  else
    let g := globalOf s (r.cmdBase + 64 * r.cmdHead)
    let e := accessErr s g false ctx 0
    if e != 0 then .next (containedCtx ctx 2 8 e g ctx s)
    else
      let d := readBytes g 64 s
      if d.1.2 then .next (containedCtx ctx 2 8 4 g ctx d.2)
      else .next (ringGo ctx (modRing ctx (fun r => { r with
        cmdHead := (r.cmdHead + 1) % 2 ^ r.cmdLog2
        fetched := r.fetched ++ [{ bytes := d.1.1, started := false, detail := 0 }] }) d.2))

/-- The 16 bytes of a completion entry (R393). -/
def cplBytes (r : Ring) (c : Completion) : List Byte :=
  leBytes 2 c.tag ++ leBytes 1 c.status ++ leBytes 1 (if r.phase then 1 else 0) ++ leBytes 2 c.reason ++
    leBytes 1 c.opcode ++ leBytes 1 0 ++ leBytes 8 c.detail

/-- COMPLETION_WRITE (R394, R397, R399): the oldest entry that waits is written where the ring has room, and its interrupt
raised or left to the coalescing timer. -/
def execCompletionWrite (ctx : Nat) (s : State) : Host.Outcome State Fault Refusal :=
  let r := ringGet s ctx
  match r.done with
  | [] => .next s
  | c :: t =>
    if !s.host.linkUp || cplFull r then .next s
    else
      let s := hostSend (.write r.fn (r.cplBase % 2 ^ 52 + 16 * r.cplTail) (cplBytes r c) false) s
      let tail := (r.cplTail + 1) % 2 ^ r.cplLog2
      let now := c.int || r.coalesceNs == 0
      let s := setRing ctx { r with done := t, cplTail := tail, phase := if tail = 0 then !r.phase else r.phase,
                                    coalescing := if now then r.coalescing else true } s
      .next (ringGo ctx (if now then raiseVector r.fn r.vector s else s))

/-- COALESCE_TIMER (R397): COALESCE_NS have passed since the first completion written without an interrupt. -/
def execCoalesceTimer (ctx : Nat) (s : State) : Host.Outcome State Fault Refusal :=
  let r := ringGet s ctx
  if r.coalescing then .next (raiseVector r.fn r.vector (setRing ctx { r with coalescing := false } s)) else .next s

/-! ### Commands (R391, R392) -/

/-- RING_NOP. -/
def execRingNop (ctx : Nat) (s : State) : Host.Outcome State Fault Refusal :=
  .next (runCmd ctx 0 (fun _ => false) (fun _ => false) (fun _ s => ((0, 0, 0), s)) s)

/-- SIGNAL (R392): an 8-byte store. -/
def execSignal (ctx ext : Nat) (s : State) : Host.Outcome State Fault Refusal :=
  match headCmd s ctx 3 with
  | none => .next s
  | some b =>
    let va := field b 8 8
    let r := cmdReason b false (va % 8 != 0)
    if r != 0 then .next (finishCmd ctx 0 1 r 0 s)
    else
      match ctxWriteN (.dma 0) 0 ctx ext false va (slice b 16 8) (modCmd ctx 0 (fun e => { e with started := true }) s) with
      | (some e, s) => .next (failCmd ctx 0 0 e s)
      | (none, s) => .next (finishCmd ctx 0 0 0 0 s)

/-- Read the value that the WAIT at the front waits for: it completes where the value is large enough; otherwise the context
is WAITING and gives up its sections (R392, R466). -/
def waitRead (ctx ext : Nat) (b : List Byte) (s : State) : State :=
  let va := field b 8 8
  let was := (ctxGet s ctx).st
  match ctxReadN ctx ext va 8 s with
  | (.inr e, s) => failCmd ctx 0 0 e s
  | (.inl d, s) =>
    if d.2 then failCmd ctx 0 0 (.bus 4 va) s
    else
      let v := leNat d.1
      if field b 16 8 ≤ v then
        let s := finishCmd ctx 0 0 0 v s
        if was = .waiting then becomeReady ctx s else s
      else
        let s := modCmd ctx 0 (fun e => { e with started := true, detail := v }) s
        if was = .running then leave ctx (modCtx ctx (fun x => { x with st := .waiting }) s) else s

/-- WAIT (R392). -/
def execWait (ctx ext : Nat) (s : State) : Host.Outcome State Fault Refusal :=
  match headCmd s ctx 4 with
  | none => .next s
  | some b =>
    let r := cmdReason b false (field b 8 8 % 8 != 0)
    if r != 0 then .next (finishCmd ctx 0 1 r 0 s)
    else .next (waitRead ctx ext b (modCmd ctx 0 (fun e => { e with started := true }) s))

/-- WAIT_POLL (R392, R467): the value is read again. -/
def execWaitPoll (ctx ext : Nat) (s : State) : Host.Outcome State Fault Refusal :=
  match (ringGet s ctx).fetched.head? with
  | some e =>
    if e.started && field e.bytes 0 1 == 4 && (ctxGet s ctx).st == .waiting then .next (waitRead ctx ext e.bytes s)
    else .next s
  | none => .next s

/-- WIN_UPDATE from a ring (R185, R393). -/
def execRingWinUpdate (ctx : Nat) (s : State) : Host.Outcome State Fault Refusal :=
  .next (runCmd ctx 5 (fun b => field b 9 7 != 0) (fun _ => false) (fun b s =>
    match winUpdate ctx (field b 8 1) (slice b 16 32) s with
    | .inl r => ((1, r, 0), s)
    | .inr t => ((0, 0, 0), t)) s)

/-- XLAT_INVAL from a ring (R181): GRANULES 0 is the whole space. -/
def execRingXlatInval (ctx : Nat) (s : State) : Host.Outcome State Fault Refusal :=
  .next (runCmd ctx 6 (fun _ => false) (fun b => field b 8 8 % 65536 != 0 || decide (2 ^ 48 ≤ field b 8 8)) (fun b s =>
    ((0, 0, 0), xlatInval ctx (field b 8 8) (65536 * field b 16 4) s)) s)

/-- FLUSH_UC (R239, R391): the flush begins; once it has ended the command completes. -/
def execFlushUc (ctx : Nat) (s : State) : Host.Outcome State Fault Refusal :=
  match (ringGet s ctx).fetched.head? with
  | none => .next s
  | some e =>
    let m := field e.bytes 8 1
    if e.started && field e.bytes 0 1 == 7 then
      .next (if s.uc.flushing.contains (ctx, m) then s else finishCmd ctx 0 0 0 0 s)
    else
      match headCmd s ctx 7 with
      | none => .next s
      | some b =>
        let r := cmdReason b false (decide (2 ≤ m))
        if r != 0 then .next (finishCmd ctx 0 1 r 0 s)
        else .next (ucFlush ctx m (modCmd ctx 0 (fun e => { e with started := true }) s))

/-! ### DMA_COPY (R391, R392, R471, R562) -/

/-- Copy up to `n` bytes, at most to the next sector of the destination at a time: bytes copied, and a failure. -/
def copyRun (ctx ext hint : Nat) : Nat → Nat → Nat → Nat → Nat → State → Nat × Option VErr × State
  | 0, _, _, _, got, s => (got, none, s)
  | f + 1, src, dst, n, got, s =>
    if n = 0 then (got, none, s)
    else
      let k := min n (64 - dst % 64)
      match ctxReadN ctx ext src k s with
      | (.inr e, s) => (got, some e, s)
      | (.inl d, s) =>
        match ctxWriteN (.dma 0) hint ctx ext d.2 dst d.1 s with
        | (some e, s) => (got, some e, s)
        | (none, s) => copyRun ctx ext hint f (src + k) (dst + k) (n - k) (got + k) s

/-- Outstanding ASYNC copies of a ring. -/
def asyncOut (r : Ring) : Nat :=
  (r.fetched.filter fun e => e.started && field e.bytes 0 1 == 2 && bit (field e.bytes 1 1) 0).length

/-- The DMA_COPY at place `i` may start (R392). -/
def copyMayStart (s : State) (ctx i : Nat) (b : List Byte) : Bool :=
  mayStart s ctx && (if bit (field b 1 1) 0 then decide (asyncOut (ringGet s ctx) < num s 0x6905 1 4) else i == 0)

/-- The context's copies go on: not while it is switched out or stops at an instruction (R467, R471). -/
def copyGoes (s : State) (ctx : Nat) : Bool := ctxActs s ctx || (ctxGet s ctx).st == .waiting || (ctxGet s ctx).st == .idle

/-- Commit the next `n` bytes of the copy at place `i`. -/
def copyOn (ctx i n ext : Nat) (e : RingCmd) (s : State) : State :=
  let b := e.bytes
  let len := field b 24 8
  let k := min n (len - e.detail)
  match copyRun ctx ext (field b 32 1) (k + 1) (field b 8 8 + e.detail) (field b 16 8 + e.detail) k 0 s with
  | (got, some x, s) => failCmd ctx i (e.detail + got) x s
  | (got, none, s) =>
    if e.detail + got = len then finishCmd ctx i 0 0 len s
    else modCmd ctx i (fun z => { z with started := true, detail := e.detail + got }) s

/-- DMA_COPY (R391, R392): the i-th fetched command starts where it may, and commits its next `n` bytes. -/
def execDmaCopy (ctx i n ext : Nat) (s : State) : Host.Outcome State Fault Refusal :=
  match (ringGet s ctx).fetched[i]? with
  | none => .next s
  | some e =>
    let b := e.bytes
    if field b 0 1 != 2 then .next s
    else if e.started then .next (if copyGoes s ctx then copyOn ctx i n ext e s else s)
    else if !copyMayStart s ctx i b then .next s
    else
      let r := cmdReason b false (field b 24 8 == 0 || decide (2 ^ 40 < field b 24 8) || decide (4 < field b 32 1))
      if r != 0 then .next (finishCmd ctx i 1 r 0 s)
      else .next (copyOn ctx i n ext e (modCmd ctx i (fun z => { z with started := true }) s))

end Sys2Proof.Machine
end

