-- ==== Sys2Proof/Machine/Carrak.lean ====
section
/-! DEFINITION. The Carrak Link rows: flits and retry, ports, HELLO, LSAs, routes, device IDs, stewards and Craze mode
(R345 to R376). -/
namespace Sys2Proof.Machine

/-- A row that concerns a port. -/
def atPort (p : Nat) (f : State → State) (s : State) : Host.Outcome State Fault Refusal :=
  if p < 24 then .next (f s) else .refused .illFormed

/-- CREDITS of a QX4 per VC and set, and the longest message of each VC in units (R349). -/
def linkCredits : List Nat := [4096, 256, 512, 4096, 256, 128]
def linkLongest : List Nat := [33, 1, 1, 33, 1, 34]

/-! ### Ports that stop (R354, R356, R357) -/

/-- A Craze run on a port ends when the port leaves ACTIVE (R373). -/
def crazeLeave (p : Nat) (s : State) : State :=
  match s.carrak.craze with
  | some r => if !r.helda && r.index == p then { s with carrak := { s.carrak with craze := none } } else s
  | none => s

/-- Send the packets that a port held unacknowledged by the route table, or those not for the peer (R357). -/
def resendUnacked (p : Nat) (keep : LinkPkt → Bool) (s : State) : State :=
  let l := ((portGet s p).unacked.map (·.2)).filter keep
  l.foldl (fun s k => linkSend none k s) (modPort p (fun x => { x with unacked := [] }) s)

/-- A port leaves ACTIVE or RETRAIN for DOWN or DISABLED (R356, R357, R362). -/
def portStop (p : Nat) (st : PortState) (reason : Nat) (s : State) : State :=
  let x := portGet s p
  let was := x.st == .active || x.st == .retrain
  let s := setPort p { x with st := st, reason := reason, nakOut := false, rxStream := [], stewardReq := none } s
  let s := crazeLeave p s
  if !was then s
  else
    let s := if st = .down then portCount p 5 s else s
    let s := logEvent 0x2802 (p + 1) 3 (leBytes 1 (if st = .down then 5 else 6)) s
    let s := rerouteHeld p (floodLsa s)
    match x.peer with
    | none => s
    | some q =>
      if canReach s q.id then
        linkSend none (ctlPkt s q.id 5 false (leBytes 1 p ++ leBytes 3 0 ++ leBytes 4 x.recvPkts)) s
      else resendUnacked p (fun k => k.dstDev != q.id) s

/-- An ACTIVE port loses lock or reaches the replay limit (R354, R356). -/
def portRetrain (p reason : Nat) (s : State) : State :=
  if (portGet s p).st = .active then
    crazeLeave p (portCount p 4 (modPort p (fun x => { x with
      st := .retrain, reason := if reason = 0 then x.reason else reason }) s))
  else s

/-- A link protocol error (R358). -/
def portProto (p : Nat) (s : State) : State :=
  portStop p .disabled 0xB (errReport { cls := 3, source := 7, cause := 0x14, place := p } (portCount p 7 s))

/-! ### Packets that arrive (R347, R350, R365) -/

/-- The packet at the front of a byte stream: its header's fields. -/
def parsePkt (b : List Byte) : LinkPkt :=
  { pkt := { vc := field b 0 1 % 8, set := bits (field b 0 1) 3 1, opcode := field b 1 1, dest := field b 2 2,
             src := field b 4 2, txn := field b 6 2, address := field b 8 8,
             data := slice b 32 (32 * field b 16 1), list := [], ctx := field b 18 2 % 1024, part := field b 18 2 / 1024,
             qos := field b 20 1 % 4, poison := bit (field b 21 1) 1, bcast := bit (field b 21 1) 2, epoch := field b 22 2,
             sectors := BitVec.ofNat 16 (field b 24 2) },
    srcDev := field b 27 1, dstDev := field b 28 1, hops := field b 29 1, set := field b 30 1 % 2,
    deflected := bit (field b 30 1) 1 }

/-- The header breaks the rules of the link (R358). -/
def pktBad (b : List Byte) : Bool :=
  let vc := field b 0 1 % 8
  decide (16 ≤ field b 0 1) || decide (5 < vc) || bit (field b 21 1) 0 || field b 17 1 != 0 || decide (8 ≤ field b 21 1) ||
  decide (4 ≤ field b 20 1) || decide (4 ≤ field b 30 1) || field b 31 1 != 0 ||
  decide (linkLongest.getD (linkVc vc (field b 1 1)) 0 < 1 + field b 16 1) ||
  (vc == 5 && !(decide (1 ≤ field b 1 1) && decide (field b 1 1 ≤ 7)))

/-- The entry router of a port for a line (R203, R204). -/
def portRouter (p addr : Nat) : Nat := bNode (p / 6) 0 (p % 6 + 6 * lineFold 2 addr)

/-- A packet that has arrived whole: taken up here, or sent on (R347, R348, R365). -/
def pktIn (p : Nat) (k : LinkPkt) (s : State) : State :=
  let mine := k.dstDev == s.carrak.deviceId && s.carrak.idState == .held
  if k.pkt.vc = 5 && (k.pkt.bcast || mine || k.pkt.opcode = 6 || k.pkt.opcode = 7) then
    { s with carrak := { s.carrak with delivered := s.carrak.delivered ++ [k.pkt] } }
  else if mine then
    let s := if k.pkt.vc = 2 || k.pkt.vc = 3 then txnEnd k.pkt.txn k.srcDev s else s
    let q := classify (portRouter p k.pkt.address) { k.pkt with set := 0 } s
    scrimAt (portRouter p k.pkt.address) q.1 q.2
  else if 31 ≤ k.hops then
    linkSend none (ctlPkt s k.srcDev 4 false (leBytes 2 k.pkt.txn ++ leBytes 2 k.pkt.dest ++ leBytes 1 k.dstDev))
      (bump 0x280B 4 s)
  else linkSend (some p) { k with hops := k.hops + 1 } s

/-- Take whole packets from the stream; padding of 0xFF runs to the end of the flit (R347). -/
def parseStream : Nat → Nat → State → State
  | 0, _, s => s
  | f + 1, p, s =>
    let x := portGet s p
    match x.rxStream with
    | [] => s
    | b :: _ =>
      if b = 0xFF then modPort p (fun x => { x with rxStream := [] }) s
      else if x.rxStream.length < 32 then s
      else if pktBad x.rxStream then portProto p (modPort p (fun x => { x with rxStream := [] }) s)
      else
        let k := parsePkt x.rxStream
        let n := 32 * (1 + field x.rxStream 16 1)
        if x.rxStream.length < n then s
        else if sget 0 x.granted (creditKey k) < pktUnits k then
          portProto p (modPort p (fun x => { x with rxStream := [] }) s)
        else
          parseStream f p (pktIn p k (modPort p (fun x => { x with
            rxStream := x.rxStream.drop n
            recvPkts := (x.recvPkts + 1) % 2 ^ 32 }) s))

/-! ### Flits (R345, R350, R351) -/

/-- Packets that still have a flit in the replay store: the newest whose flits make it up. -/
def trimUnacked (flits : Nat) : List (Nat × LinkPkt) → List (Nat × LinkPkt)
  | [] => []
  | e :: t =>
    if flits ≤ (t.map fun k => ((pktBytes k.2).length + 247) / 248).sum then trimUnacked flits t else e :: t

/-- ACK: data flits before it leave the replay store. -/
def ackIn (p ack : Nat) (s : State) : State :=
  modPort p (fun x =>
    let r := if (x.replay.any fun e => e.1 == ack) || x.txSeq = ack then x.replay.dropWhile fun e => e.1 != ack else x.replay
    { x with
      replay := r
      unacked := trimUnacked r.length x.unacked
      nakCount := if r.length < x.replay.length then 0 else x.nakCount }) s

/-- The credit return of a flit: VC and set, 7 for none (R345). -/
def creditIn (p buf count : Nat) (s : State) : State :=
  if buf % 8 = 7 then s
  else modPort p (fun x => { x with
    credits := smod 0 x.credits (2 * (buf % 8) + buf / 8 % 2) (· + count) }) s

/-- Ask for a flit again: a NAK goes out, and is repeated until the flit arrives (R351). -/
def sendNak (p : Nat) (s : State) : State :=
  if (portGet s p).nakOut then s
  else linkOut (.nak p (portGet s p).rxExpected) (modPort p (fun x => { x with nakOut := true }) s)

/-- A flit on an ACTIVE port. -/
def carrakFlit (p : Nat) (f : LinkFlit) (s : State) : State :=
  let x := portGet s p
  if x.st != .active then s
  else if !f.crcOk then
    let s := portCount p 2 s
    if f.ftype = 2 then s else sendNak p s
  else if 3 ≤ f.ftype || f.crBuf % 8 = 6 then portProto p s
  else
    let s := creditIn p f.crBuf f.crCount (ackIn p f.ack s)
    let s :=
      if f.ftype != 0 then s
      else if f.seq != x.rxExpected then sendNak p s
      else
        parseStream 300 p (modPort p (fun x => { x with
          rxExpected := (x.rxExpected + 1) % 1024
          nakOut := false
          rxStream := x.rxStream ++ slice f.payload 0 248 }) s)
    flushPort 4096 p s

def execCarrakFlit (port : Nat) (f : LinkFlit) (s : State) : Host.Outcome State Fault Refusal :=
  atPort port (carrakFlit port f) s

/-- NAK: replay from EXPECTED_SEQ; the eighth for one SEQ without progress retrains the port (R351). -/
def nakIn (p seq : Nat) (s : State) : State :=
  let x := portGet s p
  if x.st != .active then s
  else
    let n := if x.nakSeq = seq then x.nakCount + 1 else 1
    let s := setPort p { x with nakSeq := seq, nakCount := n } s
    if 8 ≤ n then portRetrain p 7 (modPort p (fun x => { x with nakCount := 0 }) s)
    else (x.replay.dropWhile fun e => e.1 != seq).foldl (fun s e => crazeFlit p e.1 e.2 s) (portCount p 3 s)

def execNak (port seq : Nat) (s : State) : Host.Outcome State Fault Refusal := atPort port (nakIn port seq) s

/-- NAK_REPEAT (R351). -/
def execNakRepeat (port : Nat) (s : State) : Host.Outcome State Fault Refusal :=
  atPort port (fun s =>
    let x := portGet s port
    if x.st = .active && x.nakOut then linkOut (.nak port x.rxExpected) s else s) s

/-! ### HELLO (R346, R355, R368) -/

/-- The HELLO that a port sends. -/
def ownHello (s : State) (p : Nat) : HelloFlit :=
  let x := portGet s p
  { version := 1, port := p, idState := idCode s.carrak.idState, deviceId := s.carrak.deviceId, dimRank := x.dimRank,
    dateline := x.dateline, echoValid := x.helloRecv.isSome, serial := s.part.serial,
    peerSerial := (x.helloRecv.map (·.serial)).getD 0
    credits := linkCredits.flatMap fun n => [n, n] }

/-- This end is the steward by R368: the lower DEVICE_ID, or the lower SERIAL where an end holds none. -/
def stewardHere (s : State) (q : Peer) : Bool :=
  if s.carrak.idState = .held && q.idState = 2 then decide (s.carrak.deviceId < q.id) else decide (s.part.serial < q.serial)

/-- Enter ACTIVE: SEQ and counts restart, and the peer's values are taken (R355). -/
def portActive (p : Nat) (h : HelloFlit) (s : State) : State :=
  let q : Peer := { serial := h.serial, port := h.port, id := h.deviceId, idState := h.idState, dimRank := h.dimRank,
                    dateline := h.dateline }
  let s := modPort p (fun x => { x with
    st := .active
    reason := 0
    peer := some q
    credits := (List.range 12).map fun i => (i, h.credits.getD i 0)
    granted := (List.range 12).map fun i => (i, linkCredits.getD (i / 2) 0)
    txSeq := 0
    rxExpected := 0
    replay := []
    nakOut := false
    nakCount := 0
    rxStream := []
    sentPkts := 0
    recvPkts := 0
    unacked := []
    steward := stewardHere s q
    stewardReq := none
    backoff := false }) s
  flushPort 4096 p (floodLsa s)

/-- Whether the exchange is complete (R355). -/
def helloCheck (p : Nat) (s : State) : State :=
  let x := portGet s p
  match x.st, x.helloRecv with
  | .hello, some h => if h.echoValid && h.peerSerial == s.part.serial && x.helloSentEcho then portActive p h s else s
  | _, _ => s

/-- HELLO. -/
def helloIn (p : Nat) (h : HelloFlit) (s : State) : State :=
  let x := portGet s p
  match x.st with
  | .hello =>
    if h.serial = s.part.serial then portStop p .disabled 4 s
    else if h.version != 1 then portStop p .disabled 5 s
    else helloCheck p (setPort p { x with helloRecv := some h } s)
  | .active => if (x.peer.map (·.serial)) != some h.serial then portProto p s else s
  | _ => s

def execHello (port : Nat) (f : HelloFlit) (s : State) : Host.Outcome State Fault Refusal := atPort port (helloIn port f) s

/-- HELLO_SEND: every 10 µs. -/
def execHelloSend (port : Nat) (s : State) : Host.Outcome State Fault Refusal :=
  atPort port (fun s =>
    let x := portGet s port
    if x.st = .hello then
      helloCheck port (modPort port (fun x => { x with helloSentEcho := x.helloSentEcho || x.helloRecv.isSome })
        (linkOut (.hello port (ownHello s port)) s))
    else s) s

/-- HELLO_TIMEOUT. -/
def execHelloTimeout (port : Nat) (s : State) : Host.Outcome State Fault Refusal :=
  atPort port (fun s => if (portGet s port).st = .hello then portStop port .down 3 s else s) s

/-! ### Training (R342, R354, R356, R368) -/

/-- A port's B-die is out of service or lost: the port stays OFF. -/
def portGone (s : State) (p : Nat) : Bool := isOut s (4 + p / 6) || s.helda.lost.contains (p / 6)

/-- The port has no supply: VDD_SERDES is not in range, or its domain is latched off (R527, R533). -/
def portDark (s : State) (p : Nat) : Bool := railGet s 15 != .inRange || latched s (149 + 7 * (p / 6))

/-- Enter TRAINING. -/
def portTrain (p : Nat) (s : State) : State :=
  if portGone s p || portDark s p then s else modPort p (fun x => { x with st := .training, peer := none, usable := 8 }) s

/-- PORT_TRAINED: from TRAINING to HELLO, from RETRAIN to ACTIVE; with fewer than 4 lanes the port does not come up. -/
def portTrained (p lanes : Nat) (s : State) : State :=
  let x := portGet s p
  let n := if 8 ≤ lanes then 8 else 4
  match x.st with
  | .training =>
    if lanes < 4 then setPort p { x with reason := 0xA } s
    else setPort p { x with
      st := .hello
      lanes := n
      usable := n
      helloRecv := none
      helloSentEcho := false
      dimRank := num s 0x2806 (p + 1) 0
      dateline := num s 0x2807 (p + 1) 0 == 1 } s
  | .retrain => if lanes < 4 then s else flushPort 4096 p (setPort p { x with st := .active, lanes := n, usable := n } s)
  | _ => s

def execPortTrained (port lanes : Nat) (s : State) : Host.Outcome State Fault Refusal :=
  atPort port (portTrained port lanes) s

/-- PORT_TRAIN_FAIL: DOWN; NO_SIGNAL or TRAIN_FAILED is free, LANES where too few lanes were found (assumption 27). -/
def execPortTrainFail (port : Nat) (s : State) : Host.Outcome State Fault Refusal :=
  atPort port (fun s =>
    let x := portGet s port
    if x.st = .training then
      let f := draw s
      portStop port .down (if x.reason = 0xA then 0xA else 1 + f.1 % 2) f.2
    else s) s

/-- PORT_DOWN_RETRY: every 100 ms. -/
def execPortDownRetry (port : Nat) (s : State) : Host.Outcome State Fault Refusal :=
  atPort port (fun s => if (portGet s port).st = .down then portTrain port s else s) s

/-- FEC_LOCK_LOSS. -/
def execFecLockLoss (port : Nat) (s : State) : Host.Outcome State Fault Refusal := atPort port (portRetrain port 0) s

/-- PORT_RETRAIN_LIMIT. -/
def execPortRetrainLimit (port : Nat) (s : State) : Host.Outcome State Fault Refusal :=
  atPort port (fun s => if (portGet s port).st = .retrain then portStop port .down 6 s else s) s

/-! ### The device ID (R32, R359 to R361) -/

/-- A line number or address whose device field changes. -/
def renameLine (old new l : Nat) : Nat := if l / 2 ^ 46 = old then l % 2 ^ 46 + 2 ^ 46 * new else l
def renameAddr (old new a : Nat) : Nat := if a / 2 ^ 56 = old then a % 2 ^ 56 + 2 ^ 56 * new else a

def renameCache (o n : Nat) (c : Cache) : Cache :=
  { ways := c.ways.map fun e => (e.1, { e.2 with tag := renameLine o n e.2.tag })
    mshrs := c.mshrs.map fun m => { m with line := renameLine o n m.line }
    evicts := c.evicts.map fun e => { e with line := renameLine o n e.line }
    held := c.held.map fun h => { h with req := { h.req with addr := renameAddr o n h.req.addr } } }

def renamePkt (o n : Nat) (b : BPkt) : BPkt := { b with m := { b.m with addr := renameAddr o n b.m.addr } }

/-- What the coherent layer holds of this device's lines goes by the new ID in use (R31, R32; assumption 27). -/
def renameDevice (o n : Nat) (s : State) : State :=
  if o = n then s
  else { s with uc := { s.uc with
    slices := s.uc.slices.map fun e => (e.1, { e.2 with
      c := renameCache o n e.2.c
      trackers := e.2.trackers.map fun t => { t with line := renameLine o n t.line }
      homeHeld := e.2.homeHeld.map (renamePkt o n) })
    cc := s.uc.cc.map fun e => (e.1, renameCache o n e.2)
    homes := s.uc.homes.map fun e => (e.1, { e.2 with dir := e.2.dir.map fun d => { d with line := renameLine o n d.line } })
    once := s.uc.once.map fun x => { x with addr := renameAddr o n x.addr }
    sent := s.uc.sent.map (renamePkt o n) } }

/-- Set ID_STATE and the ID, and tell every device (R360, R362). -/
def setId (st : IdState) (id : Nat) (s : State) : State :=
  let old := devId s
  let s := { s with carrak := { s.carrak with idState := st, deviceId := id } }
  floodLsa (renameDevice old (devId s) s)

/-- HELD IDs of other devices. -/
def heldIds (s : State) : List Nat :=
  ((s.carrak.lsas.filter fun b => b.serial != s.part.serial && b.idState == 2).map (·.deviceId)).eraseDups

/-- This device no longer holds its ID: to it every other device is unreachable (R361). -/
def idGone (s : State) : State :=
  let l := heldIds s
  l.foldl (fun s d => deviceGone d s) { s with carrak := { s.carrak with unreachable := l } }

/-- Precedence of a holder, lower first (R360). -/
def claimRank (admin : Bool) (st : Nat) : Nat := (if admin then 0 else 2) + (if st = 2 then 0 else 1)

def isAdmin (s : State) : Bool := num s 0x2801 1 1 == 0

/-- An LSA beats this device's claim. -/
def beats (s : State) (b : LsaBody) : Bool :=
  let r := claimRank b.admin b.idState
  let m := claimRank (isAdmin s) (idCode s.carrak.idState)
  decide (r < m) || (r == m && decide (b.serial < s.part.serial))

/-- The LSA names the ID that this device claims or holds. -/
def clashes (s : State) (b : LsaBody) : Bool :=
  (s.carrak.idState == .claiming || s.carrak.idState == .held) && (b.idState == 1 || b.idState == 2) &&
    b.deviceId == s.carrak.deviceId && b.serial != s.part.serial

/-- This device loses its claim (R361). -/
def loseId (s : State) : State :=
  let held := s.carrak.idState == .held
  let auto := !isAdmin s
  let s := setId (if auto then .none else .conflict) s.carrak.deviceId s
  let s := { s with carrak := { s.carrak with reclaim := auto } }
  if held then idGone s else s

/-- The candidate of a claim (R359). -/
def candidate (s : State) : Nat :=
  let cfg := num s 0x2801 2 0
  let taken := (s.carrak.lsas.filter fun b => b.serial != s.part.serial && (b.idState == 1 || b.idState == 2)).map (·.deviceId)
  if isAdmin s || !taken.contains cfg then cfg else ((List.range 256).find? fun i => !taken.contains i).getD cfg

/-- Begin a claim from NONE or CONFLICT. -/
def startClaim (s : State) : State :=
  if s.carrak.idState = .none || s.carrak.idState = .conflict then
    setId .claiming (candidate s) { s with carrak := { s.carrak with reclaim := false } }
  else s

/-- ID_CLAIM: ID_MODE and DEVICE_ID_CFG, then ID_CMD claim. -/
def execIdClaim (mode id : Nat) (s : State) : Host.Outcome State Fault Refusal :=
  .next (ok (startClaim (setNum 0x2801 2 (min id 255) (setNum 0x2801 1 (min mode 1) s))))

/-- ID_CMD release (R361). -/
def releaseId (s : State) : State :=
  match s.carrak.idState with
  | .held => idGone (setId .none s.carrak.deviceId s)
  | .claiming => setId .none s.carrak.deviceId s
  | _ => s

def execIdRelease (s : State) : Host.Outcome State Fault Refusal := .next (ok (releaseId s))

/-- CLAIM_TIMER: 10 ms after the claim (R360). -/
def claimTimer (s : State) : State :=
  if s.carrak.idState != .claiming then s
  else if s.carrak.lsas.any fun b => clashes s b && beats s b then loseId s
  else setId .held s.carrak.deviceId { s with carrak := { s.carrak with unreachable := [] } }

def execClaimTimer (s : State) : Host.Outcome State Fault Refusal := .next (claimTimer s)

/-- AUTO_RECLAIM: the random delay of a device that lost an AUTO claim has passed (R361). -/
def execAutoReclaim (s : State) : Host.Outcome State Fault Refusal :=
  .next (if s.carrak.reclaim && s.carrak.idState = .none then startClaim s else s)

/-! ### LSAs and routes (R362 to R365, R367) -/

/-- LSA: a newer one is kept and flooded; claims are checked; a holder that gave up an ID is gone under it. -/
def lsaIn (p : Nat) (b : LsaBody) (s : State) : State :=
  let old := s.carrak.lsas.find? fun x => x.serial == b.serial
  if b.serial = s.part.serial || (old.map fun o => decide (b.seq ≤ o.seq)).getD false then s
  else
    let s := { s with carrak := { s.carrak with
      lsas := b :: s.carrak.lsas.filter fun x => x.serial != b.serial
      stale := true } }
    let s := floodPkt (some p) (ctlPkt s 0 2 true (lsaBytes b)) s
    let s := match old with
      | some o => if o.idState = 2 && !(b.idState = 2 && b.deviceId = o.deviceId) then deviceGone o.deviceId s else s
      | none => s
    if clashes s b then
      let s := bump 0x2801 5 s
      if beats s b then loseId s else s
    else s

def execLsa (port : Nat) (b : LsaBody) (s : State) : Host.Outcome State Fault Refusal := atPort port (lsaIn port b) s

/-- LSA_PERIODIC: every 1 s. -/
def execLsaPeriodic (s : State) : Host.Outcome State Fault Refusal := .next (floodLsa s)

/-- LSA_AGE_OUT: an LSA not refreshed for 3.5 s. -/
def execLsaAgeOut (serial : Nat) (s : State) : Host.Outcome State Fault Refusal :=
  .next (if serial = s.part.serial || !(s.carrak.lsas.any fun b => b.serial == serial) then s
    else { s with carrak := { s.carrak with
      lsas := s.carrak.lsas.filter fun b => b.serial != serial
      stale := true } })

/-- Devices at the other end of a device's links, where both ends list the link (R363). -/
def neighbours (l : List LsaBody) (serial : Nat) : List Nat :=
  match l.find? fun b => b.serial == serial with
  | none => []
  | some b => (b.entries.filterMap fun e =>
      match l.find? fun x => x.serial == e.peerSerial with
      | some x => if x.entries.any fun f => f.peerSerial == serial && f.port == e.peerPort && f.peerPort == e.port
          then some x.serial else none
      | none => none).eraseDups

/-- Breadth first from a device, never through this one: (serial, distance). -/
def spread (l : List LsaBody) (own : Nat) : Nat → List Nat → Nat → List (Nat × Nat) → List (Nat × Nat)
  | 0, _, _, seen => seen
  | f + 1, front, d, seen =>
    let next := ((front.flatMap (neighbours l)).eraseDups).filter fun n => n != own && !(seen.any fun e => e.1 == n)
    if next.isEmpty then seen else spread l own f next (d + 1) (seen ++ next.map fun n => (n, d + 1))

/-- Lowest ports of the groups that a route may use: ACTIVE, or in RETRAIN (R356, R363). -/
def routeHeads (s : State) : List Nat :=
  (List.range 24).filter fun p =>
    let up := fun q => (portGet s q).st == .active || (portGet s q).st == .retrain
    up p && ((groupPorts s p).filter up).head? == some p

/-- A group with its path length to a destination; in the order of R363. -/
def bestGroup : List (Nat × Nat × Nat) → Option (Nat × Nat × Nat)
  | [] => none
  | e :: t =>
    match bestGroup t with
    | none => some e
    | some b =>
      if e.2.1 < b.2.1 || (e.2.1 = b.2.1 && (e.2.2 < b.2.2 || (e.2.2 = b.2.2 && e.1 < b.1))) then some e else some b

/-- The route to a device. -/
def routeOf (s : State) (serial : Nat) : Route :=
  let d := spread s.carrak.lsas s.part.serial 256 [serial] 0 [(serial, 0)]
  let own := neighbours s.carrak.lsas s.part.serial
  let g := (routeHeads s).filterMap fun p =>
    match (portGet s p).peer with
    | none => none
    | some q => if own.contains q.serial then
        (d.find? fun e => e.1 == q.serial).map fun e => (p, e.2 + 1, effRank (portGet s p)) else none
  match bestGroup g with
  | none => { dist := 255, primary := none, alt := none, deflecting := false }
  | some b =>
    if 31 < b.2.1 then { dist := 255, primary := none, alt := none, deflecting := false }
    else { dist := b.2.1, primary := some b.1, alt := (bestGroup (g.filter fun e => e.1 != b.1)).map (·.1),
           deflecting := false }

/-- ROUTE_RECOMPUTE: the route table anew; devices that are no longer reached are gone (R363, R367). -/
def recompute (s : State) : State :=
  if !s.carrak.stale then s
  else
    let before := (s.carrak.routes.filter fun e => e.2.primary.isSome).map (·.1)
    let routes := (heldIds s).foldl (fun r d =>
      match s.carrak.lsas.find? fun b => b.idState == 2 && b.deviceId == d && b.serial != s.part.serial with
      | some b => sput r d (routeOf s b.serial)
      | none => r) []
    let s := bump 0x280B 3 { s with carrak := { s.carrak with routes := routes, stale := false } }
    let gone := before.filter fun d => !((sfind routes d).map fun r => r.primary.isSome).getD false
    let s := gone.foldl (fun s d => dictPathLost d (deviceGone d s)) s
    (List.range 24).foldl (fun s p => rerouteHeld p s) s

def execRouteRecompute (s : State) : Host.Outcome State Fault Refusal := .next (recompute s)

/-- LOSS_NOTICE: a B-die's home of another device is lost; flooded on once (R277, R348). -/
def lossNotice (p serial b home : Nat) (s : State) : State :=
  let k := 4 * serial + b
  if serial = s.part.serial || sfind s.carrak.lossSeen k = some home then s
  else
    let s := { s with carrak := { s.carrak with lossSeen := sput s.carrak.lossSeen k home } }
    let s := floodPkt (some p) (ctlPkt s 0 3 true (leBytes 8 serial ++ leBytes 1 b ++ leBytes 1 home)) s
    match s.carrak.lsas.find? fun x => x.serial == serial && x.idState == 2 with
    | some x => if home = 3 then remoteHomeLost x.deviceId b s else s
    | none => s

def execLossNotice (port serial b home : Nat) (s : State) : Host.Outcome State Fault Refusal :=
  if b < 4 then atPort port (lossNotice port serial b home) s else .refused .illFormed

/-- UNREACH: the transaction completes with REMOTE_LOST (R365). -/
def unreach (device txn : Nat) (s : State) : State :=
  let s := txnEnd txn device s
  let s := failOnce (fun o => o.id == txn && devOf o.addr == device) 0xA s
  s.uc.slices.foldl (fun s e =>
    (e.2.c.mshrs.filter fun m => m.txn == txn && m.bz != .home && devOf (lineAddr m.line) == device).foldl (fun s m =>
      failMshr (.slice e.1) m.line 0xA (bump 0x2504 2 s)) s) s

def execUnreach (device txn : Nat) (s : State) : Host.Outcome State Fault Refusal := .next (unreach device txn s)

/-- LINK_RECOVER: packets that the peer received are dropped, the rest go again (R357). -/
def portRecover (p received : Nat) (s : State) : State :=
  let x := portGet s p
  if x.st = .active || x.st = .retrain then s
  else
    let l := x.unacked.filter fun e => !(decide ((received + 2 ^ 32 - e.1) % 2 ^ 32 < 2 ^ 31))
    portCount p 6 (resendUnacked p (fun _ => true) (setPort p { x with unacked := l, replay := [] } s))

def execCarrakLinkRecover (port received : Nat) (s : State) : Host.Outcome State Fault Refusal :=
  atPort port (portRecover port received) s

/-! ### The steward (R368 to R371) -/

/-- A CTL message to the peer of a port. -/
def toPeer (p opcode : Nat) (body : List Byte) (s : State) : State :=
  match (portGet s p).peer with
  | some q => portPut p (ctlPkt s q.id opcode false body) s
  | none => s

/-- The STEWARD command of a session: refused during the back-off; otherwise it waits for the answer (R369, R370). -/
def stewardCmd (p : Nat) (give : Bool) (s : State) : State :=
  let x := portGet s p
  if x.backoff then failed 3 s
  else
    let n := s.carrak.nonce % 65536
    let s := { s with carrak := { s.carrak with nonce := n + 1 } }
    let s := modPort p (fun x => { x with stewardReq := some { give := give, nonce := n, session := 0 } }) s
    inProgress (toPeer p 6 (leBytes 1 p ++ leBytes 1 (b2n give) ++ leBytes 2 n) s)

def execStewardTake (port : Nat) (s : State) : Host.Outcome State Fault Refusal := atPort port (stewardCmd port false) s
def execStewardGive (port : Nat) (s : State) : Host.Outcome State Fault Refusal := atPort port (stewardCmd port true) s

/-- Answer a steward request: 0 accepted, 1 denied, 2 withdrawn. -/
def stewardAnswer (p result nonce : Nat) (s : State) : State :=
  toPeer p 7 (leBytes 1 p ++ leBytes 1 result ++ leBytes 2 nonce) s

/-- STEWARD_REQ from the peer (R369, R370). -/
def stewardReqIn (p : Nat) (give : Bool) (nonce : Nat) (s : State) : State :=
  let x := portGet s p
  if x.st != .active then s
  else
    match x.stewardReq, x.peer with
    | some _, some q =>
      let here := stewardHere s q
      runEnd 0x280C 0x23 (leBytes 2 1) (bump 0x280C 3 (stewardAnswer p 2 nonce
        (setPort p { x with stewardReq := none, backoff := true, steward := here } s)))
    | _, _ =>
      if give = x.steward then stewardAnswer p 1 nonce s
      else stewardAnswer p 0 nonce (setPort p { x with steward := give } s)

def execStewardReq (port : Nat) (give : Bool) (nonce : Nat) (s : State) : Host.Outcome State Fault Refusal :=
  atPort port (stewardReqIn port give nonce) s

/-- STEWARD_RSP to this end's request: the role moves where it is accepted; denied leaves it (R369). -/
def stewardRspIn (p : Nat) (accepted : Bool) (nonce : Nat) (s : State) : State :=
  let x := portGet s p
  match x.stewardReq with
  | none => s
  | some r =>
    if r.nonce = nonce then runEnd 0x280C 0 [] (setPort p { x with stewardReq := none, steward := if accepted then !r.give else x.steward } s)
    else s

def execStewardRsp (port : Nat) (accepted : Bool) (nonce : Nat) (s : State) : Host.Outcome State Fault Refusal :=
  atPort port (stewardRspIn port accepted nonce) s

/-- STEWARD_TIMEOUT: 100 µs without an answer (R369). -/
def execStewardTimeout (port : Nat) (s : State) : Host.Outcome State Fault Refusal :=
  atPort port (fun s =>
    if (portGet s port).stewardReq.isSome then
      runEnd 0x280C 0x23 (leBytes 2 2) (modPort port (fun x => { x with stewardReq := none }) s) else s) s

/-- STEWARD_BACKOFF_END (R370). -/
def execStewardBackoffEnd (port : Nat) (s : State) : Host.Outcome State Fault Refusal :=
  atPort port (modPort port (fun x => { x with backoff := false })) s

/-- PORT_IDLE_HALF: the steward narrows an idle port, unless IDLE_TO_HALF_US is 0 (R368). -/
def execPortIdleHalf (port : Nat) (s : State) : Host.Outcome State Fault Refusal :=
  atPort port (fun s =>
    let x := portGet s port
    if x.st = .active && x.steward && num s 0x6805 2 0 != 0 && x.lanes = 8 then setPort port { x with lanes := 4 } s
    else s) s

/-- PORT_WIDEN: back to 8 lanes, where 8 are usable (R368). -/
def execPortWiden (port : Nat) (s : State) : Host.Outcome State Fault Refusal :=
  atPort port (fun s =>
    let x := portGet s port
    if x.st = .active && x.steward && x.lanes = 4 && x.usable = 8 then setPort port { x with lanes := 8 } s else s) s

/-- FEC_ERROR_RETRAIN: the steward retrains; how many codewords were uncorrected is free (R368, assumption 27). -/
def execFecErrorRetrain (port : Nat) (s : State) : Host.Outcome State Fault Refusal :=
  atPort port (fun s =>
    let x := portGet s port
    if x.st = .active && x.steward then
      let f := draw s
      portRetrain port 0 (modPort port (fun x => { x with
        counters := smod 0 x.counters 1 fun n => min (n + 1 + f.1) (2 ^ 64 - 1) }) f.2)
    else s) s

/-! ### LINK_CTL and PORT_COUNTER_CLEAR (R375, R376) -/

/-- LINK_CTL enable: a DOWN or DISABLED port, as R376 says; R354 lists OFF too (DEDUCED, notes/assumptions/27.md). -/
def portEnable (p : Nat) (s : State) : State :=
  if (portGet s p).st = .down || (portGet s p).st = .disabled then portTrain p s else s

def execPortEnable (port : Nat) (s : State) : Host.Outcome State Fault Refusal :=
  atPort port (fun s => ok (portEnable port s)) s

/-- LINK_CTL disable. -/
def execPortDisable (port : Nat) (s : State) : Host.Outcome State Fault Refusal :=
  atPort port (fun s => ok (if (portGet s port).st = .disabled then s else portStop port .disabled 9 s)) s

/-- LINK_CTL retrain: an ACTIVE port, at its steward end (R368, R376). -/
def portRetrainCmd (p : Nat) (s : State) : State := if (portGet s p).steward then portRetrain p 0 s else s

def execPortRetrain (port : Nat) (s : State) : Host.Outcome State Fault Refusal :=
  atPort port (fun s => ok (portRetrainCmd port s)) s

def execPortCounterClear (port : Nat) (s : State) : Host.Outcome State Fault Refusal :=
  atPort port (fun s => ok (modPort port (fun x => { x with counters := [] }) s)) s

/-! ### Craze mode (R372 to R374, R376) -/

/-- Craze mode and EI_RUN are locked (R374, R568). -/
def crazeLocked (s : State) : Bool :=
  match s.askar.sec.lc with
  | .deployed => s.carrak.crazeGrant.isNone
  | .decommissioned => true
  | _ => false

/-- CRAZE_RUN 1. -/
def crazeStart (run : CrazeArgs) (s : State) : State :=
  if s.carrak.craze.isSome then failed 4 s
  else if run.helda && !linkOk s run.index || !run.helda && decide (24 ≤ run.index) then failed 5 s
  else if crazeLocked s then failed 6 s
  else
    let up := if run.helda then carries s run.index else (portGet s run.index).st == .active
    let r : CrazeRun := { helda := run.helda, index := run.index, dir := run.dir, kinds := run.kinds,
                          rateLog2 := run.rateLog2, seed := run.seed, durationMs := run.durationMs }
    ok (if up then { s with carrak := { s.carrak with craze := some r } } else s)

def execCrazeStart (run : CrazeArgs) (s : State) : Host.Outcome State Fault Refusal := .next (crazeStart run s)

def crazeEnd (s : State) : State := { s with carrak := { s.carrak with craze := none } }

def execCrazeStop (s : State) : Host.Outcome State Fault Refusal := .next (ok (crazeEnd s))
def execCrazeDurationEnd (s : State) : Host.Outcome State Fault Refusal := .next (crazeEnd s)

/-- CRAZE_UNLOCK: a CRAZE_GRANT record of LIFETIME_S seconds (R374, R515). -/
def crazeUnlock (r : List Byte) (s : State) : State :=
  match provCheck s r 4 0x6821 1 with
  | none => authFailed s
  | some p =>
    let s := useNonce s
    ok { s with carrak := { s.carrak with
      crazeGrant := some (time s + 1000000000 * field r 56 4)
      crazeBytes := p } }

def execCrazeUnlock (record : List Byte) (s : State) : Host.Outcome State Fault Refusal := .next (crazeUnlock record s)

/-- CRAZE_GRANT_EXPIRY: the grant ends, and a run with it where the grant allowed it. -/
def execCrazeGrantExpiry (s : State) : Host.Outcome State Fault Refusal :=
  .next (if s.carrak.crazeGrant.isSome then
    let s := { s with carrak := { s.carrak with crazeGrant := none } }
    if crazeLocked s then crazeEnd s else s
  else s)

end Sys2Proof.Machine
end

