-- ==== Sys2Proof/Machine/LoadStore.lean ====
section
/-! DEFINITION. LD, ST and ATOM, the completion of loads, the L1 data cache, and INV.L1 and WB.L1 (R83, R97, R119, R145,
R154, R171 to R174, R183). -/
namespace Sys2Proof.Machine

def memDesc (op : Nat) : InstrDesc := { fmt := 2, op := op, pipe := 3, maskFree := false }

/-! ### Addresses (R84, R114) -/

/-- Bytes of an access: LD and ST by MOD, ATOM by MOD[15]. -/
def accSize (w : W64) : Nat :=
  if iOp w = 2 then (if 8 ≤ iMod w then 8 else 4)
  else match iMod w with
    | 0 | 1 => 1
    | 2 | 3 => 2
    | 4 => 4
    | _ => 8

/-- The address of a lane: base and signed OFFSET, wrapping at 64 bits. -/
def laneAddr (w : W64) (x : Slot) (l : Nat) : Nat :=
  ((if iAScalar w then sRead x (iA w) else v64 x (iA w) l) + BitVec.ofInt 64 (iOffset w)).toNat

/-- Value of a lane of the data register, of an access's size. -/
def laneData (r : Nat) (n : Nat) (x : Slot) (l : Nat) : Nat :=
  (if n = 8 then (v64 x r l).toNat else (vRead x r l).toNat) % 2 ^ (8 * n)

/-- Lanes in the order in which their accesses to one address take effect (R171, assumption 8). -/
def rankLanes (k : Nat) (l : List Nat) : List Nat :=
  l.foldr (fun a acc => acc.takeWhile (fun b => Config.laneRank k b < Config.laneRank k a) ++
    a :: acc.dropWhile (fun b => Config.laneRank k b < Config.laneRank k a)) []

/-- Write a lane of V[D] with `n` bytes as LD's MOD says. -/
def loadWrite (d n : Nat) (sg : Bool) (l v : Nat) (x : Slot) : Slot :=
  if n = 8 then vWrite (vWrite x d l (BitVec.ofNat 32 v)) (d + 1) l (BitVec.ofNat 32 (v / 2 ^ 32))
  else vWrite x d l (if sg then (BitVec.ofNat (8 * n) v).signExtend 32 else BitVec.ofNat 32 v)

/-! ### Own tile memory (SPACE 1) -/

/-- The exception of a lane's tile access. -/
def tileLaneBad (n a : Nat) : Option Nat :=
  if a % n != 0 then some 4 else if 0x80000 ≤ a then some 5 else none

/-- Lanes with an exception, lowest code first: the code, the lanes that raised it, and the first one's address (R125,
R126). -/
def worst (l : List (Nat × Option Nat × Nat)) : Option (Nat × W32 × Nat) :=
  match (l.filterMap (·.2.1)).min? with
  | none => none
  | some c =>
    let m := l.filter fun e => e.2.1 == some c
    some (c, m.foldl (fun a e => a ||| (1 <<< e.1)) 0, (m.head?.map (·.2.2)).getD 0)

/-- One lane of an ATOM in tile memory, where no other agent takes part. -/
def tileAtomLane (c t : Nat) (w : W64) (l : Nat) (s : State) : State :=
  let k := coreGet s c
  let x := slotGet k t
  let n := accSize w
  let a := laneAddr w x l
  let old := leNat (tileBytes k a n)
  let new := atomNew (iMod w % 8) (8 * n) old (laneData (iD w) n x l) (laneData (iBCas w) n x l)
  modSlot c t (loadWrite (iD w) n false l old) (tileWrite c a (leBytes n new) false s)

/-- A tile-memory access of the active lanes: exceptions first, then poison where the instruction reads, then its effect. -/
def tileMem (c t : Nat) (w : W64) (x : Slot) (s : State) : State :=
  let n := accSize w
  let lanes := lanesOf x.mask
  match worst (lanes.map fun l => (l, tileLaneBad n (laneAddr w x l), laneAddr w x l)) with
  | some e => raiseExc c t e.1 e.2.1 e.2.2 none s
  | none =>
    let reads := iOp w != 1
    let s := if reads then lanes.foldl (fun s l => touchTile c (laneAddr w x l) n s) s else s
    let k := coreGet s c
    let bad := if reads then lanes.filter fun l => tilePoisoned k (laneAddr w x l / 64) else []
    match bad with
    | b :: _ =>
      raisePoison c t (bad.foldl (fun a l => a ||| (1 <<< l)) 0) (laneAddr w x b)
        (globalOf s (tileAddr c (laneAddr w x b / 64 * 64))) none s
    | [] =>
      let f := draw s
      let s := match iOp w with
        | 0 => modSlot c t (fun y => lanes.foldl (fun y l =>
            loadWrite (iD w) n (iMod w == 1 || iMod w == 3) l (leNat (tileBytes k (laneAddr w x l) n)) y) y) s
        | 1 => (rankLanes f.1 lanes).foldl (fun s l =>
            tileWrite c (laneAddr w x l) (leBytes n (laneData (iD w) n x l)) false s) f.2
        | _ => (rankLanes f.1 lanes).foldl (fun s l => tileAtomLane c t w l s) f.2
      modSlot c t advance s

/-! ### The L1 data cache (R83, R97, R172) -/

/-- Bits `o` to `o + n - 1` of a byte mask. -/
def byteMask (o n : Nat) : W64 := BitVec.ofNat 64 ((2 ^ n - 1) * 2 ^ o)

/-- Lines of a set. -/
def l1Set (k : Core) (key : Nat) : List (Nat × L1Line) := k.l1d.filter fun e => e.1 % 128 == key % 128

/-- Make room for a line in its set: a line that gives way is free (pseudo-LRU is not fixed to the bit, assumption 8) and
is written back where it is dirty. -/
def l1Room (c t key : Nat) (s : State) : State :=
  let l := l1Set (coreGet s c) key
  if (sfind (coreGet s c).l1d key).isSome || decide (l.length < 8) then s
  else
    let f := draw s
    let v := (l.getD (f.1 % l.length) (0, {})).1
    modCore c (fun k => { k with l1d := sdel k.l1d v }) (writeBackLine c t v f.2)

/-- The line's attributes come from the access that reaches it (R183). -/
def lineFor (x : Xlat) (va hint : Nat) (l : L1Line) : L1Line :=
  { l with va := va / 64 * 64, ctx := x.ctx, near := x.near, hint := hint, scratch := x.scratch, bwClass := x.bwClass }

/-- HINT 0 takes the window's (R183). -/
def effHint (w : W64) (x : Xlat) : Nat := if iHint w = 0 then x.hint else iHint w

/-- Put the bytes that a sector brought into a line, keeping those the line has (R172). -/
def l1Install (c t : Nat) (r : UcReq) (va : Nat) (d : List Byte) (p : Bool) (s : State) : State :=
  let key := r.addr / 64
  let s := l1Room c t key s
  modCore c (fun k => { k with l1d := smod {} k.l1d key (fun l =>
    { l with
      data := (List.range 64).map fun i => if l.valid.getLsbD i then l.data.getD i 0 else d.getD i 0
      valid := BitVec.allOnes 64
      poison := l.poison || p
      va := va / 64 * 64
      ctx := r.ctx
      near := r.near
      hint := r.hint
      scratch := r.scratch
      bwClass := r.bwClass }) }) s

/-- Store bytes of a sector into its line, which is allocated where it is absent. -/
def l1Store (c t : Nat) (x : Xlat) (va hint : Nat) (bs : List Byte) (s : State) : State :=
  let g := xlatAddr x va
  let s := l1Room c t (g / 64) s
  let m := byteMask (g % 64) bs.length
  modCore c (fun k => { k with l1d := smod {} k.l1d (g / 64) (fun l => lineFor x va hint
    { l with
      data := patch l.data (g % 64) bs
      valid := l.valid ||| m
      dirty := l.dirty ||| m
      poison := l.poison && bs.length != 64 }) }) s

/-! ### Global accesses (SPACE 0) -/

/-- One lane of a global access, translated. -/
structure LaneAcc where
  lane : Nat
  va : Nat
  x : Xlat

/-- Translate the lanes of an access: each lane's exception, and its translation. -/
def laneXlats (c ctx : Nat) (w : W64) (sl : Slot) (k : Access) : List Nat → State →
    (List (Nat × Option Nat × Nat) × List LaneAcc × List Nat) × State
  | [], s => (([], [], []), s)
  | l :: t, s =>
    let va := laneAddr w sl l
    if va % accSize w != 0 then
      let r := laneXlats c ctx w sl k t s
      (((l, some 4, va) :: r.1.1, r.1.2), r.2)
    else
      match translate c ctx va k s with
      | (.inl x, s) =>
        let r := laneXlats c ctx w sl k t s
        (((l, none, va) :: r.1.1, ⟨l, va, x⟩ :: r.1.2.1, r.1.2.2), r.2)
      | (.inr n, s) =>
        let r := laneXlats c ctx w sl k t s
        (((l, some 8, va) :: r.1.1, r.1.2.1, n :: r.1.2.2), r.2)

/-- The sectors of a list of accesses, each once. -/
def accSectors (l : List LaneAcc) : List Nat := (l.map fun a => xlatAddr a.x a.va / 64).eraseDups

/-- A lane's bytes are all in the L1. -/
def l1Has (k : Core) (n : Nat) (a : LaneAcc) : Bool :=
  let g := xlatAddr a.x a.va
  !a.x.l1Uncached && (match sfind k.l1d (g / 64) with
    | some l => byteMask (g % 64) n &&& ~~~l.valid == 0
    | none => false)

/-- The load entry for one missing sector (R97). -/
def loadEntry (k : Core) (c t : Nat) (w : W64) (x : Slot) (l : List LaneAcc) (sec : Nat) : Option Load :=
  let m := l.filter fun a => xlatAddr a.x a.va / 64 == sec
  m.head?.map fun a =>
    { id := k.nextId, slot := t, va := a.va, pc := x.pc, uncached := a.x.l1Uncached, atom := none
      parts := m.map fun b => { lane := b.lane, reg := iD w, off := xlatAddr b.x b.va % 64, size := accSize w,
                                signed := iMod w == 1 || iMod w == 3 }
      req := { src := .core c, txn := k.nextId, addr := 64 * sec, near := a.x.near, hint := effHint w a.x,
               scratch := a.x.scratch, bwClass := a.x.bwClass, ctx := x.ctx, part := ctxPart x.ctx, write := none,
               poison := false } }

/-- Put out the load entries of the missing sectors. -/
def sendLoads (c t : Nat) (w : W64) (x : Slot) (l : List LaneAcc) (s : State) : State :=
  (accSectors l).foldl (fun s sec => modCore c (fun k =>
    match loadEntry k c t w x l sec with
    | some e => { k with nextId := k.nextId + 1, loads := k.loads ++ [e] }
    | none => k) s) s

/-- LD from global memory: hits are written at once; each missing sector takes an entry. -/
def loadGlobal (c t : Nat) (w : W64) (x : Slot) (l : List LaneAcc) (s : State) : State :=
  let k := coreGet s c
  let n := accSize w
  let hit := l.filter (l1Has k n)
  let miss := l.filter fun a => !l1Has k n a
  if 64 < k.loads.length + (accSectors miss).length then putSlot c t { x with st := .waitMem } s
  else
    let lineOfAcc := fun (a : LaneAcc) => sget {} k.l1d (xlatAddr a.x a.va / 64)
    match hit.filter fun a => (lineOfAcc a).poison with
    | b :: r =>
      raisePoison c t ((b :: r).foldl (fun m a => m ||| (1 <<< a.lane)) 0) b.va (xlatAddr b.x b.va / 64 * 64) none s
    | [] =>
      let y := hit.foldl (fun y a => loadWrite (iD w) n (iMod w == 1 || iMod w == 3) a.lane
        (leNat (slice (lineOfAcc a).data (xlatAddr a.x a.va % 64) n)) y) x
      sendLoads c t w x miss (putSlot c t (advance y) s)

/-- A store that bypasses the L1 (R183); a line that the L1 holds takes the bytes as well. -/
def storeThrough (c t : Nat) (w : W64) (n : Nat) (x : Slot) (a : LaneAcc) (s : State) : State :=
  let g := xlatAddr a.x a.va
  let bs := leBytes n (laneData (iD w) n x a.lane)
  let s := modCore c (fun k => { k with l1d := k.l1d.map fun e =>
    (e.1, if e.1 = g / 64 then { e.2 with data := patch e.2.data (g % 64) bs, valid := e.2.valid ||| byteMask (g % 64) n }
          else e.2) }) s
  pushStore c t (fun id =>
    { src := .core c, txn := id, addr := g / 64 * 64, near := a.x.near, hint := effHint w a.x, scratch := a.x.scratch,
      bwClass := a.x.bwClass, ctx := x.ctx, part := ctxPart x.ctx,
      write := some (maskedBytes (byteMask (g % 64) n) (patch [] (g % 64) bs)), poison := false }) s

/-- How many write-backs and writes a store can need: each uncached lane, and each line that it allocates in a set that then
holds more than 8. -/
def storeNeeds (k : Core) (l : List LaneAcc) : Nat :=
  let absent := (accSectors (l.filter fun a => !a.x.l1Uncached)).filter fun key => (sfind k.l1d key).isNone
  (l.filter (·.x.l1Uncached)).length +
    (absent.filter fun key =>
      decide (8 < (l1Set k key).length + (absent.filter fun o => o % 128 == key % 128).length)).length

/-- ST to global memory. -/
def storeGlobal (c t : Nat) (w : W64) (x : Slot) (l : List LaneAcc) (s : State) : State :=
  let k := coreGet s c
  let need := storeNeeds k l
  if need != 0 && decide (32 < k.stores.length + need) then putSlot c t { x with st := .waitMem } s
  else
    let f := draw s
    let n := accSize w
    let s := (rankLanes f.1 (l.map (·.lane))).foldl (fun s i =>
      match l.find? fun a => a.lane == i with
      | some a =>
        if a.x.l1Uncached then storeThrough c t w n x a s
        else l1Store c t a.x a.va (effHint w a.x) (leBytes n (laneData (iD w) n x i)) s
      | none => s) f.2
    putSlot c t (advance x) s

/-- The operand flit of an ATOM: operation, size, offset in the line, operand and comparand. -/
def atomFlit (op n off operand comparand : Nat) : List Byte :=
  leBytes 1 op ++ leBytes 1 n ++ leBytes 2 off ++ leBytes 4 0 ++ leBytes 8 operand ++ leBytes 8 comparand ++ leBytes 8 0

/-- Send one lane's atomic to the line's home (R174). -/
def sendAtom (c t : Nat) (w : W64) (x : Slot) (a : LaneAcc) (s : State) : State :=
  let g := xlatAddr a.x a.va
  let n := accSize w
  let k := coreGet s c
  let o : AtomOp := { op := iMod w % 8, size := n, operand := laneData (iD w) n x a.lane,
                      comparand := laneData (iBCas w) n x a.lane }
  let flit := atomFlit o.op n (g % 1024) o.operand o.comparand
  let e : Load :=
    { id := k.nextId, slot := t, va := a.va, pc := x.pc, uncached := true, atom := some o
      parts := [{ lane := a.lane, reg := iD w, off := 0, size := n, signed := false }]
      req := { src := .core c, txn := k.nextId, addr := g / 64 * 64, near := a.x.near, hint := effHint w a.x,
               scratch := a.x.scratch, bwClass := a.x.bwClass, ctx := x.ctx, part := ctxPart x.ctx, write := none,
               poison := false } }
  let s := setCore c { k with nextId := k.nextId + 1, loads := k.loads ++ [e] } s
  if isHostAddr g then
    sendB .atom { dst := .slice (proxySlice g), src := .core c, txn := e.id, addr := lineAddr (lineOf g), near := false,
                  ctx := x.ctx, epoch := 0, sectors := 0, spoison := 0, data := flit } s
  else
    sendOnce .atom (.slice (if devOf g = devId s then homeSlice g a.x.near else proxySlice g)) (.core c) e.id
      (g / 64 * 64) a.x.near x.ctx 0 false flit s

/-- The L1 gives up the line of an atomic, writing it back where it is dirty (R174). -/
def l1Drop (c t key : Nat) (s : State) : State :=
  modCore c (fun k => { k with l1d := sdel k.l1d key }) (writeBackLine c t key s)

/-- ATOM on global memory. -/
def atomGlobal (c t : Nat) (w : W64) (x : Slot) (l : List LaneAcc) (s : State) : State :=
  let k := coreGet s c
  let dirty := ((accSectors l).filter fun key => (sget {} k.l1d key).dirty != 0).length
  if 64 < k.loads.length + l.length || (dirty != 0 && decide (32 < k.stores.length + dirty)) then
    putSlot c t { x with st := .waitMem } s
  else
    let f := draw s
    let s := (accSectors l).foldl (fun s key => l1Drop c t key s) (putSlot c t (advance x) f.2)
    (rankLanes f.1 (l.map (·.lane))).foldl (fun s i =>
      match l.find? fun a => a.lane == i with
      | some a => sendAtom c t w x a s
      | none => s) s

/-- An access through a translation: exceptions of the lanes first (R125), then the access. -/
def globalMem (c t : Nat) (w : W64) (k : Access) (f : Slot → List LaneAcc → State → State) (x : Slot) (s : State) :
    State :=
  let r := laneXlats c x.ctx w x k (lanesOf x.mask) s
  let s := (r.1.2.2.zip ((r.1.1.filter fun e => e.2.1 == some 8).map (·.2.2))).foldl
    (fun s e => countXlatFault x.ctx e.1 e.2 s) r.2
  match worst r.1.1 with
  | some e => raiseExc c t e.1 e.2.1 e.2.2 none s
  | none => f x r.1.2.1 s

/-- LD (R119, R171, R183). -/
def execLd (core slot : Nat) (w : W64) (s : State) : Host.Outcome State Fault Refusal :=
  issue (memDesc 0) okLd (fun _ _ => 0) core slot w (fun x s =>
    if iSpace w = 1 then tileMem core slot w x s else globalMem core slot w .load (loadGlobal core slot w) x s) s

/-- ST (R119, R171, R172, R183). -/
def execSt (core slot : Nat) (w : W64) (s : State) : Host.Outcome State Fault Refusal :=
  issue (memDesc 1) okSt (fun _ _ => 0) core slot w (fun x s =>
    if iSpace w = 1 then tileMem core slot w x s else globalMem core slot w .store (storeGlobal core slot w) x s) s

/-- ATOM (R119, R174). -/
def execAtom (core slot : Nat) (w : W64) (s : State) : Host.Outcome State Fault Refusal :=
  issue (memDesc 2) okAtom (fun _ _ => 0) core slot w (fun x s =>
    if iSpace w = 1 then tileMem core slot w x s else globalMem core slot w .atomic (atomGlobal core slot w) x s) s

/-! ### Entries that complete (R97, R276, R279, R564) -/

/-- A thread group in WAIT_MEM can try again. -/
def wakeMem (c : Nat) (s : State) : State :=
  modCore c (fun k => { k with slots := k.slots.map fun e =>
    (e.1, if e.2.st = .waitMem then { e.2 with st := .ready } else e.2) }) s

/-- Write the lanes of a completed load. -/
def loadWriteBack (e : Load) (d : List Byte) (x : Slot) : Slot :=
  e.parts.foldl (fun y p => loadWrite p.reg p.size p.signed p.lane (leNat (slice d p.off p.size)) y) x

/-- LOAD_COMPLETE: the entry frees; the data goes to the L1 and to the registers. An error status faults the context
(R276, R279, R559); poison raises POISON (R564). -/
def execLoadComplete (core id status : Nat) (poison : Bool) (data : List Byte) (s : State) :
    Host.Outcome State Fault Refusal :=
  match (coreGet s core).loads.find? fun e => e.id == id with
  | none => .next s
  | some e =>
    let x0 := slotGet (coreGet s core) e.slot
    let s := wakeMem core (modCore core (fun k => { k with loads := k.loads.filter fun o => o.id != id }) s)
    if status != 0 then
      .next (containedCtx e.req.ctx 0 0 status e.req.addr (coreRef core) s)
    else
      let s := if e.uncached then s else l1Install core e.slot e.req e.va data poison s
      if poison then
        let lanes : W32 := e.parts.foldl (fun m p => m ||| (1 <<< p.lane)) 0
        .next (raisePoison core e.slot lanes e.va e.req.addr none (modSlot core e.slot (fun x => { x with pc := e.pc }) s))
      else if x0.ctx = e.req.ctx && x0.st != .free then .next (modSlot core e.slot (loadWriteBack e data) s)
      else .next s

/-- MEM_ENTRY_FREE: a store or write-back has been acknowledged. -/
def execMemEntryFree (core id : Nat) (s : State) : Host.Outcome State Fault Refusal :=
  .next (wakeMem core (modCore core (fun k => { k with stores := k.stores.filter fun o => o.id != id }) s))

/-! ### INV.L1 and WB.L1 (R145, R146) -/

/-- First line address and number of lines of the range form, widened outward. -/
def l1Range (w : W64) (x : Slot) : Nat × Nat :=
  let b := sNum x (iA w)
  let n := sNum x (iD w)
  (b / 64, if n = 0 then 0 else (b + n + 63) / 64 - b / 64)

/-- Steps: 64 lines each; 1,024 lines of the L1 data cache, 512 of the instruction cache. -/
def l1Steps (w : W64) (x : Slot) : Nat :=
  match iMod w with
  | 0 => 16
  | 1 => (min (l1Range w x).2 1024 + 63) / 64
  | _ => 8

/-- The lines that a step covers: a range longer than the cache is walked by its sets. -/
def stepLines (w : W64) (x : Slot) (k : Core) (st : Nat) : List Nat :=
  let r := l1Range w x
  (k.l1d.filter fun e =>
    let inSet := e.1 % 128 / 8 == st
    let v := e.2.va / 64
    if iMod w = 0 then inSet
    else e.2.ctx == x.ctx && decide (r.1 ≤ v) && decide (v < r.1 + r.2) &&
      (if r.2 ≤ 1024 then (v - r.1) / 64 == st else inSet)).map (·.1)

/-- One step; `none` where the in-flight bound of R97 refuses it, and the step is redone. -/
def l1Step (inv : Bool) (c t : Nat) (w : W64) (st : Nat) (s : State) : Option State :=
  if iMod w = 2 then
    some (modCore c (fun k => { k with l1i := k.l1i.filter fun l => l % 128 / 16 != st }) s)
  else
    let k := coreGet s c
    let l := stepLines w (slotGet k t) k st
    let dirty := (l.filter fun key => (sget {} k.l1d key).dirty != 0).length
    if dirty != 0 && decide (32 < k.stores.length + dirty) then
      if 32 ≤ k.stores.length then none
      else
        -- as many write-backs as the bound lets out; the step is then redone
        some (((l.filter fun key => (sget {} k.l1d key).dirty != 0).take (32 - k.stores.length)).foldl
          (fun s key => writeBackLine c t key s) s)
    else
      some (l.foldl (fun s key => if inv then l1Drop c t key s else writeBackLine c t key s) s)

/-- INV.L1 and WB.L1 start as long instructions. -/
def issueL1 (op mods : Nat) (c t : Nat) (w : W64) (s : State) : Host.Outcome State Fault Refusal :=
  issue { fmt := 5, op := op, pipe := 3, maskFree := true, long := true } (okL1 mods) l1Steps c t w
    (fun x s => startLong c t w (l1Steps w x) x s) s

def execInvL1 (core slot : Nat) (w : W64) (s : State) : Host.Outcome State Fault Refusal := issueL1 5 3 core slot w s
def execWbL1 (core slot : Nat) (w : W64) (s : State) : Host.Outcome State Fault Refusal := issueL1 6 2 core slot w s

/-! ### LONG_STEP (R127, R128, R133, R134) -/

/-- Steps of a long instruction. -/
def longCount (w : W64) (x : Slot) : Nat :=
  if iFmt w = 5 then l1Steps w x
  else
    match iOp w with
    | 0 => mmaSteps w x
    | 1 | 2 => accSteps w x
    | 4 => cvtSteps w x
    | 5 => tcopySteps w x
    | 0x10 | 0x11 => attnSteps w x
    | _ => smaxSteps w x

/-- Run one step; none where it is refused and redone, with the state it leaves. -/
def longStep (c t : Nat) (w : W64) (st : Nat) (s : State) : Option State :=
  if iFmt w = 5 then l1Step (iOp w == 5) c t w st s
  else
    some (match iOp w with
      | 0 => mmaStep c t w st s
      | 1 => accLdStep c t w st s
      | 2 => accStStep c t w st s
      | 4 => cvtMxStep c t w st s
      | 5 => tcopyStep c t w st s
      | 0x10 => maskStep c t w st s
      | 0x11 => ropeStep c t w st s
      | _ => smaxStep c t w st s)

/-- The step is the L1 step that the in-flight bound let out only in part. -/
def stepPartial (c t : Nat) (w : W64) (st : Nat) (s : State) : Bool :=
  iFmt w == 5 && iMod w != 2 &&
    (let k := coreGet s c
     let l := stepLines w (slotGet k t) k st
     let dirty := (l.filter fun key => (sget {} k.l1d key).dirty != 0).length
     dirty != 0 && decide (32 < k.stores.length + dirty))

/-- LONG_STEP: the next step of the long instruction of a slot; the last one completes it. -/
def execLongStep (core slot : Nat) (s : State) : Host.Outcome State Fault Refusal :=
  let x := slotGet (coreGet s core) slot
  match x.long with
  | none => .next s
  | some r =>
    if x.stopped || !coreRuns s core then .next s
    else
      match longStep core slot r.word r.step s with
      | none => .next s
      | some t =>
        if stepPartial core slot r.word r.step s then .next t
        else
          let y := slotGet (coreGet t core) slot
          if y.long.isNone then .next t
          else if longCount r.word y ≤ r.step + 1 then .next (putSlot core slot (longDone y) t)
          else .next (putSlot core slot { y with long := some ⟨r.word, r.step + 1⟩ } t)

end Sys2Proof.Machine
end

