-- ==== Sys2Proof/Machine/SaveRestore.lean ====
section
/-! DEFINITION. What a switch saves and restores, and what an urgent stop tears down (R160, R237, R455, R471 to R475, R479 to
R484). -/
namespace Sys2Proof.Machine

/-! ### The image of a core (R470, R473) -/

/-- The offset lies in a buffer of the kernel. -/
def inBuffers (bs : List PlanBuf) (o : Nat) : Bool := bs.any fun b => decide (b.offset ≤ o) && decide (o < b.offset + b.bytes)

/-- The accumulator entry lies in a region of the kernel. -/
def inRegions (k : KRec) (e : Nat) : Bool :=
  (k.regions.take k.gbCount).any fun r => decide (r.1 ≤ e) && decide (e < r.1 + r.2)

/-- A tile-level image: no V registers, the accumulator's regions and the kernel's buffers alone. -/
def tileImage (k : KRec) (bs : List PlanBuf) (x : Core) : Core :=
  { x with
    slots := x.slots.map fun t => (t.1, { t.2 with v := [] })
    acc := x.acc.filter fun e => inRegions k e.1
    tile := x.tile.filter fun e => inBuffers bs e.1
    poison := x.poison.filter fun p => inBuffers bs (64 * p)
    l1d := [], l1i := [], loads := [], stores := [], xlat := [] }

/-- An instruction-level image. -/
def fullImage (x : Core) : Core := { x with l1d := [], l1i := [], loads := [], stores := [], xlat := [] }

/-- Images of the partition's cores, by rank; a core that holds nothing is not listed. -/
def coreImages (s : State) (p : Nat) (f : Core → Core) : SMap Core :=
  ((coresOf s p).mapIdx fun i c => (i, c)).filterMap fun e => (sfind s.cores e.2).map fun x => (e.1, f x)

/-! ### The save area (R465, R473) -/

/-- Sectors of a save area that a save at a level writes: local addresses. -/
def saveSectors (d : CtxDesc) (cores : Nat) (kind : ImageKind) : List Nat :=
  let n := match kind with
    | .tile => cores * 742400
    | .instruction => cores * 742400
    | _ => 0
  (List.range ((65536 + n) / 64)).map fun i => d.saveBase + 64 * i

/-- The cause with which an access to the save area fails, if one does. -/
def saveError (s : State) (l : List Nat) : Option (Nat × Nat) :=
  l.findSome? fun a =>
    let g := globalOf s a
    let e := accessErr s g true 0xFFFF 0
    if e = 0 then none else some (e, g)

/-- Write the save area, hint STREAM, near placement. The layout inside an image is not given: the bytes are free
(assumption 2). -/
def writeSave (ctx : Nat) (l : List Nat) (s : State) : State :=
  l.foldl (fun s a =>
    let f := freeBytes s
    writeBytes { who := .cc 0, near := true, hint := 2, ctx := ctx } (globalOf s a) f.1 false f.2) s

/-- A failed save or restore (R478, R556). -/
def saveFault (ctx addr : Nat) (s : State) : State :=
  let s := errReport { cls := 2, source := 10, cause := 0xC, ctx := ctx, addr := addr, part := ctxPart ctx } s
  ctxFault ctx { cause := 9, code := 0xC, source := 6, address := addr } s

/-! ### Save (R472, R473) -/

/-- What lets a save complete: thread groups stopped, or loads returned; and the Lath schedule at rest (R470 to R472). -/
def saveReady (s : State) (ctx : Nat) : Bool :=
  let x := ctxGet s ctx
  let l := coresOf s (ctxPart ctx)
  let lath := !(schedGet s ctx).running || (schedGet s ctx).stoppedAt.isSome
  match x.stop with
  | some .contextOnly => true
  | some .tile =>
    lath && l.all fun c => (coreGet s c).slots.all fun t => t.2.ctx != ctx || t.2.stopped || t.2.st == .ended || t.2.st == .free
  | some .instruction => lath && l.all fun c => (coreGet s c).loads.all fun o => o.req.ctx != ctx
  | _ => false

/-- Take the schedule of a context to rest: words under way to its routers, and where its injectors stand, are kept. -/
def saveLath (ctx : Nat) (s : State) : State :=
  let mine := fun (c : Nat) => ((sfind s.lath.routers c).map (·.ctx)) == some ctx
  let inj := (s.lath.routers.filter fun e => e.2.ctx == ctx).map fun e =>
    (e.1, (e.2.injPos + 32 * e.2.injList.length - e.2.queue.length) % e.2.injList.length)
  let flight := s.lath.flight.filter fun f => mine f.core
  let s := modCtx ctx (fun x => { x with savedInj := inj, kS := (schedGet s ctx).stoppedAt.getD 0 }) s
  let s := { s with lath := { s.lath with
    flight := s.lath.flight.filter fun f => !mine f.core
    savedFlight := sput s.lath.savedFlight ctx flight } }
  setSched ctx {} s

/-- The level of the image for a stop. -/
def imageKind : Option StopKind → ImageKind
  | some .tile => .tile
  | some .instruction => .instruction
  | _ => .context

/-- The images of a stop. -/
def stopImages (s : State) (ctx : Nat) : SMap Core :=
  let p := ctxPart ctx
  match (ctxGet s ctx).stop, launchKernel s ctx with
  | some .tile, some (pl, _, k) => coreImages s p (tileImage k (planBufs (imgRead s pl.addr) k))
  | some .instruction, _ => coreImages s p fullImage
  | _, _ => []

/-- Every L1 of a partition is written back and invalidated (R169). -/
def flushL1s (p : Nat) (s : State) : State :=
  (coresOf s p).foldl (fun s c =>
    if (sfind s.cores c).isSome then modCore c (fun x => { x with l1d := [], l1i := [] }) (writeBackAll c s) else s) s

/-- The save is complete: the context is READY with its image, and the partition chooses again (R466, R473). -/
def saveDone (ctx : Nat) (s : State) : State :=
  let p := ctxPart ctx
  let kind := imageKind (ctxGet s ctx).stop
  let s := if kind = .tile then plbSuspend ctx s else s
  let s := flushL1s p s
  let l := saveSectors (ctxGet s ctx).desc (coresOf s p).length kind
  match saveError s l with
  | some e => saveFault ctx e.2 s
  | none =>
    let s := writeSave ctx l s
    let img := stopImages s ctx
    let s := if kind = .context then s else saveLath ctx s
    let s := modCtx ctx (fun x => { x with st := .ready, stop := none, image := kind, saved := img }) s
    leave ctx s

/-- SAVE_COMPLETE (R470 to R473). -/
def execSaveComplete (ctx : Nat) (s : State) : Host.Outcome State Fault Refusal :=
  .next (if (ctxGet s ctx).st = .stopping && ctxHolds s ctx && saveReady s ctx then saveDone ctx s else s)

/-- RESTORE_COMPLETE (R475): the last core image is restored and the Lath schedule has restarted. A save area that cannot be
read faults the context. -/
def execRestoreComplete (ctx : Nat) (s : State) : Host.Outcome State Fault Refusal :=
  let x := ctxGet s ctx
  let kernel := (x.launch.map (·.running)).getD false
  if !(x.restoring && x.st == .ready && ctxHolds s ctx && sectionsActive s (ctxPart ctx)) then .next s
  else if kernel && !(schedGet s ctx).running then .next s
  else
    let l := saveSectors x.desc (coresOf s (ctxPart ctx)).length x.image
    match saveError s l, l.find? fun a => localPoison s a 64 with
    | some e, _ => .next (saveFault ctx e.2 s)
    | none, some a => .next (saveFault ctx (globalOf s a) s)
    | none, none => .next (idleCheck ctx (ringGo ctx (enterRun ctx s)))

/-! ### Urgent stop (R481 to R484) -/

/-- Cancel a context's requests in one cache: held requests, waiters, and writes that wait; its reads' SCRATCH is dropped. -/
def cancelIn (ctx : Nat) (c : Cache) : Cache :=
  { c with
    held := c.held.filter fun h => h.req.ctx != ctx
    mshrs := c.mshrs.map fun m => { m with
      waiters := m.waiters.filter fun w => w.ctx != ctx
      write := match m.write with
        | some r => if r.ctx = ctx then none else some r
        | none => none
      hints := if m.ctx = ctx then m.hints.map (fun h => (h.1, false)) else m.hints } }

/-- Cancel a context's requests in the coherent layer and in its cores (R482). -/
def cancelCtx (ctx : Nat) (s : State) : State :=
  { s with
    uc := { s.uc with
      slices := s.uc.slices.map fun e => (e.1, { e.2 with c := cancelIn ctx e.2.c })
      cc := s.uc.cc.map fun e => (e.1, cancelIn ctx e.2) }
    cores := s.cores.map fun e => (e.1, { e.2 with
      loads := e.2.loads.filter fun l => l.req.ctx != ctx
      stores := e.2.stores.filter fun o => o.req.ctx != ctx
      l1d := e.2.l1d.filter fun l => l.2.ctx != ctx
      xlat := e.2.xlat.filter fun x => x.ctx != ctx }) }

/-- The truncated-burst event of a DMA engine that is stopped (R160, R237). -/
def truncEvent (cause idx sub addr unit master committed : Nat) (s : State) : State :=
  let s := bump idx sub s
  logRec { index := idx, sub := sub, sev := 2,
           payload := leBytes 8 addr ++ leBytes 2 unit ++ leBytes 1 master ++ leBytes 1 cause ++ leBytes 4 committed } s

/-- Sectors of a transfer, row and sector. -/
def winSectors (w : PlanWin) : List (Nat × Nat) :=
  (List.range w.rows).flatMap fun r => (List.range (w.rowBytes / 64)).map fun q => (r, q)

/-- A transfer in flight is cut: a free number of its sectors has committed, the rest is not written. -/
def truncWindow (cause ctx i : Nat) (s : State) : State :=
  match winView s ctx i with
  | none => s
  | some v =>
    let l := winSectors v.pw
    let f := draw s
    let n := f.1 % l.length
    let idx := tileIndices v.k v.counts (tileOrdinal v.k v.pw.core v.win.t)
    let arg := v.launch.args.getD v.pw.arg 0
    let at_ := v.buf.offset + v.win.j % v.buf.copies * v.buf.copy
    let move := fun r q s =>
      let va := rowVa v.pw arg v.axes idx r + 64 * q
      let b := sectorBits (rowBits v.pw v.axes idx r) q
      let off := at_ + r * v.pw.rowBytes + 64 * q
      if v.pw.dir = 0 then sectorIn ctx 0 v.win.core va off b s else sectorOut ctx 0 v.pw.hint v.win.core va off b s
    let s := (moveSectors move (l.take n) f.2).2
    let p := l.getD n (0, 0)
    if v.pw.dir = 0 then
      truncEvent cause 0x2105 6 (tileAddr v.win.core (at_ + p.1 * v.pw.rowBytes + 64 * p.2)) (coreRef v.win.core) 4 n s
    else
      match translateOnce ctx (rowVa v.pw arg v.axes idx p.1 + 64 * p.2) .store s with
      | (.inl x, s) =>
        let g := xlatAddr x (rowVa v.pw arg v.axes idx p.1 + 64 * p.2)
        truncEvent cause 0x2407 1 g (homeSlice g x.near) 1 n s
      | (.inr _, s) => s

/-- The context's DMA engines stop (R160, R482). -/
def stopDma (cause ctx : Nat) (s : State) : State :=
  match (ctxGet s ctx).launch with
  | none => s
  | some l =>
    (List.range l.dma.length).foldl (fun s i =>
      if ((l.dma[i]?.map (·.active)).getD false) then truncWindow cause ctx i s else s) s

/-- The context's Lath tables and words leave the routers (R479). -/
def stopLath (ctx : Nat) (s : State) : State :=
  let mine := fun (c : Nat) => ((sfind s.lath.routers c).map (·.ctx)) == some ctx
  { s with lath := { s.lath with
    flight := s.lath.flight.filter fun f => !mine f.core
    routers := s.lath.routers.filter fun e => e.2.ctx != ctx
    scheds := sdel s.lath.scheds ctx
    savedFlight := sdel s.lath.savedFlight ctx } }

/-- The urgent stop has run its course: nothing acts for the context, its sections are zeroed, it is FAULTED (R482). -/
def urgentDone (ctx : Nat) (s : State) : State :=
  let p := ctxPart ctx
  let holds := ctxHolds s ctx
  let s := stopLath ctx (plbTearDown ctx (cancelCtx ctx (stopDma 3 ctx s)))
  let s := if holds then zeroPart p s else s
  let s := ucFlush ctx 1 s
  let x := ctxGet s ctx
  let s := setNum 0x2C04 7 (max (num s 0x2C04 7 0) (time s - x.fault.timeNs)) s
  let s := setCtx ctx { x with st := .faulted, stop := none, launch := none, image := .none, saved := [], savedInj := [],
                               restoring := false, kS := 0 } s
  let s := if holds then modPart p (fun y => { y with running := none }) s else s
  let s := if x.destroying then eraseCtx ctx s else s
  schedule p (destroyStep p s)

/-- URGENT_STOP_COMPLETE (R482). -/
def execUrgentStopComplete (ctx : Nat) (s : State) : Host.Outcome State Fault Refusal :=
  .next (if (ctxGet s ctx).stop = some .urgent then urgentDone ctx s else s)

end Sys2Proof.Machine
end

