-- ==== Sys2Proof/Machine/Partitions.lean ====
section
/-! DEFINITION. The commands of partitions and contexts, and their timers (R458 to R468, R485, R487). -/
namespace Sys2Proof.Machine

/-! ### PART_CMD (R459 to R461) -/

/-- Sections of a mask, each once, in order. -/
def maskSections (mask : List Nat) : List Nat := (List.range Config.nSections).filter fun x => mask.contains x

/-- A section of the mask belongs to another partition. -/
def sectionsTaken (s : State) (p : Nat) (l : List Nat) : Bool :=
  l.any fun x => match sectionPart s x with
    | some q => q != p
    | none => false

/-- A section of the mask lies on a C-die that is out of service. -/
def sectionsOut (s : State) (l : List Nat) : Bool := l.any fun x => isOut s (x / 36)

/-- SAVE_BYTES that a partition of n sections needs (R465). -/
def saveNeeds (n : Nat) : Nat := 65536 + 23756800 * n

def partCreate (p : Nat) (mask : List Nat) (s : State) : State :=
  let l := maskSections mask
  if (partGet s p).st != .none then failed 1 s
  else if sectionsTaken s p l then failed 3 s
  else if l.isEmpty then failed 4 s
  else if sectionsOut s l then failed 7 s
  else
    let s := setPart p { st := .changing, sections := l } s
    ok (partsReady (wakePart p s))

/-- PART_CMD create (R459, R460). -/
def execPartCreate (p : Nat) (mask : List Nat) (s : State) : Host.Outcome State Fault Refusal :=
  if 64 ≤ p then .refused .illFormed else .next (partCreate p mask s)

/-- The reason for which a resize is refused. -/
def resizeReason (s : State) (p : Nat) (l : List Nat) : Option Nat :=
  let x := partGet s p
  let gone := x.sections.filter fun y => !l.contains y
  let new_ := l.filter fun y => !x.sections.contains y
  let cs := (partCtxs s p).map fun c => ctxGet s c
  if x.st = .none then some 2
  else if sectionsTaken s p l then some 3
  else if l.isEmpty then some 4
  else if !gone.isEmpty && cs.any (fun c => c.launch.isSome || c.image != .none) then some 5
  else if !new_.isEmpty && cs.any (fun c => decide (c.desc.saveBytes < saveNeeds l.length)) then some 6
  else if sectionsOut s l then some 7
  else none

def partResize (p : Nat) (mask : List Nat) (s : State) : State :=
  let l := maskSections mask
  match resizeReason s p l with
  | some r => failed r s
  | none =>
    let old := (partGet s p).sections
    let gone := old.filter fun y => !l.contains y
    let new_ := l.filter fun y => !old.contains y
    let s := modPart p (fun x => { x with sections := l, st := .changing }) s
    let s := (partCtxs s p).foldl (fun s c => unloadPlans c (fun pl => pl.sections.any fun y => !l.contains y) s) s
    let s := freeSections gone (dropRouters gone s)
    let s := new_.foldl (fun s y => wakeSection y (zeroSection y s)) s
    scheduleAll (ok (partsReady s))

/-- PART_CMD resize (R459, R460, R422). -/
def execPartResize (p : Nat) (mask : List Nat) (s : State) : Host.Outcome State Fault Refusal :=
  if 64 ≤ p then .refused .illFormed else .next (partResize p mask s)

def partDestroy (p : Nat) (s : State) : State :=
  if (partGet s p).st = .none then failed 2 s else ok (beginDestroy p s)

/-- PART_CMD destroy (R459, R461). -/
def execPartDestroy (p : Nat) (s : State) : Host.Outcome State Fault Refusal :=
  if 64 ≤ p then .refused .illFormed else .next (partDestroy p s)

/-! ### CTX_CMD (R462 to R465) -/

/-- The context descriptor of 64 bytes (R463). -/
def ctxDesc (b : List Byte) : CtxDesc :=
  { rootBase := field b 0 8, rootSpan := field b 8 4, winCount := field b 12 1, winBase := field b 16 8,
    saveBase := field b 24 8, saveBytes := field b 32 8 }

/-- BAD_DESCRIPTOR. -/
def descBad (b : List Byte) : Bool :=
  let d := ctxDesc b
  b.length != 64 || field b 14 2 != 0 || (slice b 40 24).any (· != 0) || d.rootBase % 4096 != 0 || d.rootSpan == 0 ||
    decide (262144 < d.rootSpan) || decide (64 < d.winCount) || decide (7 < field b 13 1) || d.winBase % 2048 != 0 ||
    d.saveBase % 65536 != 0 || decide (backedBytes < d.rootBase + 8 * d.rootSpan) ||
    decide (backedBytes < d.winBase + 2048) || decide (backedBytes < d.saveBase + d.saveBytes)

/-- Two VALID windows of equal PRIORITY meet (R185). -/
def winsOverlap : List WinEntry → Bool
  | [] => false
  | w :: t => (bit w.flags 0 && t.any fun v => bit v.flags 0 && v.prio == w.prio &&
      decide (w.base < v.base + 65536 * v.granules) && decide (v.base < w.base + 65536 * w.granules)) || winsOverlap t

/-- The window table of a descriptor. -/
def descWins (s : State) (d : CtxDesc) : List WinEntry :=
  (List.range d.winCount).map fun i => parseWin (localBytes s (d.winBase + 32 * i) 32)

/-- The reason for which CREATE is refused. -/
def createReason (s : State) (ctx : Nat) (b : List Byte) : Option Nat :=
  let p := ctxPart ctx
  let d := ctxDesc b
  if (partGet s p).st = .none then some 1
  else if (ctxGet s ctx).st != .none then some 3
  else if descBad b then some 5
  else if d.saveBytes < saveNeeds (partGet s p).sections.length then some 6
  else if winsOverlap (descWins s d) then some 0x1D
  else if (descWins s d).any fun w => !w.ok then some 0x1E
  else none

def ctxCreate (ctx : Nat) (b : List Byte) (s : State) : State :=
  match createReason s ctx b with
  | some r => failed r (if 0x1D ≤ r then writeReject ctx 0xFF 2 { reason := r } s else s)
  | none => ok (setCtx ctx { st := .idle, desc := ctxDesc b, prio := field b 13 1 } s)

/-- CTX_CMD CREATE (R463, R464). -/
def execCtxCreate (ctx : Nat) (desc : List Byte) (s : State) : Host.Outcome State Fault Refusal :=
  if 1024 ≤ ctx then .refused .illFormed else .next (ctxCreate ctx desc s)

/-- The reasons of every other action of CTX_CMD: NO_PARTITION, NO_CONTEXT. -/
def ctxReason (s : State) (ctx : Nat) : Option Nat :=
  if (partGet s (ctxPart ctx)).st = .none then some 1 else if (ctxGet s ctx).st = .none then some 4 else none

/-- An action of CTX_CMD on a context that exists. -/
def onCtx (ctx : Nat) (f : State → State) (s : State) : State :=
  match ctxReason s ctx with
  | some r => failed r s
  | none => ok (f s)

/-- DESTROY: a running context is stopped urgently first; one that is not is gone at once (R464). -/
def ctxDestroy (ctx : Nat) (s : State) : State :=
  onCtx ctx (fun s =>
    if ctxHolds s ctx then
      ctxFault ctx { cause := 0xA, source := 6 } (modCtx ctx (fun x => { x with destroying := true }) s)
    else eraseCtx ctx (stopLath ctx (plbTearDown ctx (cancelCtx ctx s)))) s

/-- CTX_CMD DESTROY. -/
def execCtxDestroy (ctx : Nat) (s : State) : Host.Outcome State Fault Refusal :=
  if 1024 ≤ ctx then .refused .illFormed else .next (ctxDestroy ctx s)

def ctxUrgent (ctx : Nat) (s : State) : State := onCtx ctx (fun s => ctxFault ctx { cause := 0xA, source := 6 } s) s

/-- CTX_CMD URGENT_STOP (R481). -/
def execUrgentStop (ctx : Nat) (s : State) : Host.Outcome State Fault Refusal :=
  if 1024 ≤ ctx then .refused .illFormed else .next (ctxUrgent ctx s)

def ctxPreempt (ctx : Nat) (s : State) : State := onCtx ctx (fun s => preempt ctx s) s

/-- CTX_CMD PREEMPT (R464, R469). -/
def execCtxPreempt (ctx : Nat) (s : State) : Host.Outcome State Fault Refusal :=
  if 1024 ≤ ctx then .refused .illFormed else .next (ctxPreempt ctx s)

def ctxPriority (ctx prio : Nat) (s : State) : State := onCtx ctx (fun s => modCtx ctx (fun x => { x with prio := prio }) s) s

/-- CTX_CMD SET_PRIORITY: effective at the next scheduling decision. -/
def execSetPriority (ctx prio : Nat) (s : State) : Host.Outcome State Fault Refusal :=
  if 1024 ≤ ctx || 8 ≤ prio then .refused .illFormed else .next (ctxPriority ctx prio s)

/-! ### Policy and timers (R468, R470, R485, R487) -/

def partPolicy (p policy sliceUs preempt graceUs retainUs : Nat) (s : State) : State :=
  if (partGet s p).st = .none then failed 2 s
  else ok (modPart p (fun x => { x with policy := policy, sliceUs := sliceUs, preempt := preempt, tbGraceUs := graceUs,
                                        retainIdleUs := retainUs }) s)

/-- PP_*: applied whole (R487). -/
def execPartitionPolicy (p policy sliceUs preempt graceUs retainUs : Nat) (s : State) :
    Host.Outcome State Fault Refusal :=
  if 64 ≤ p || 3 ≤ policy || 2 ≤ preempt then .refused .illFormed
  else .next (partPolicy p policy sliceUs preempt graceUs retainUs s)

/-- SLICE_EXPIRY (R468): SLICE_US have passed since the running context started. -/
def execSliceExpiry (p : Nat) (s : State) : Host.Outcome State Fault Refusal :=
  let x := partGet s p
  match x.running with
  | none => .next s
  | some c =>
    let l := readySlots s p
    if x.policy = 0 && !l.isEmpty then .next (preempt c s)
    else if x.policy = 1 && l.any (fun d => decide ((ctxGet s c).prio ≤ (ctxGet s d).prio)) then .next (preempt c s)
    else .next s

/-- TB_GRACE_EXPIRY (R470): the preemption becomes an instruction-level one. -/
def execTbGraceExpiry (ctx : Nat) (s : State) : Host.Outcome State Fault Refusal := .next (escalate ctx s)

/-- CONTEXT_FAULT (R478): one of the causes of R478 is detected at the unit concerned. -/
def execContextFault (ctx cause code core slot source address pc : Nat) (s : State) : Host.Outcome State Fault Refusal :=
  if cause = 0 || 0xB < cause || 7 < source then .refused .illFormed
  else .next (ctxFault ctx { cause := cause, code := code % 256, core := core % 65536, slot := slot % 256, source := source,
                             address := address, pc := pc } s)

/-- RETAIN_IDLE_EXPIRY (R485): no context of the partition has been READY or RUNNING for RETAIN_IDLE_US. -/
def execRetainIdleExpiry (p : Nat) (s : State) : Host.Outcome State Fault Refusal :=
  let x := partGet s p
  let busy := (partCtxs s p).any fun c =>
    (ctxGet s c).st == .ready || (ctxGet s c).st == .running || (ctxGet s c).st == .stopping
  if x.st = .active && x.retainIdleUs != 0 && !busy && x.sections.all (fun y => s.ret.get y == .active && sectionIdle s y) then
    .next (x.sections.foldl (fun s y => retainSection y s) (bump64 0x2C04 8 s))
  else .next s

end Sys2Proof.Machine
end

