-- ==== Sys2Proof/Machine/HostRows.lean ====
section
/-! DEFINITION. The host link: configuration, BAR2, function-level resets, power states, VF mapping, completions, the loss
of the link, interrupts (R377 to R388, R397 to R399). -/
namespace Sys2Proof.Machine

/-! ### Pending interrupts (R381, R397, R399) -/

/-- Send the pending message of one vector, if it can leave now. -/
def sendPending (fn : Fn) (v : Nat) (s : State) : State :=
  let e := msixGet s fn v
  if e.pending && canInterrupt s fn v then hostSend (.msix fn v) (setMsix fn v { e with pending := false } s) else s

/-- The function of a table key (`fnKey`). -/
def fnOfKey (k : Nat) : Fn := if k = 0 then .pf else .vf (k - 1)

/-- Send every pending message of the functions that a test picks. -/
def sendAllPending (p : Nat → Bool) (s : State) : State :=
  (s.host.msix.filter fun e => e.2.pending && p (e.1 / 2048)).foldl (fun s e =>
    sendPending (fnOfKey (e.1 / 2048)) (e.1 % 2048) s) s

/-- A function and a vector exist (R397). -/
def vectorExists : Fn → Nat → Bool
  | .pf, v => decide (v < 1024)
  | .vf n, v => decide (n < 64) && decide (v < 16)

def fnExists : Fn → Bool
  | .pf => true
  | .vf n => decide (n < 64)

/-- MSIX_UNMASK (R397). -/
def execMsixUnmask (fn : Fn) (vector : Nat) (s : State) : Host.Outcome State Fault Refusal :=
  if vectorExists fn vector then
    .next (sendPending fn vector (setMsix fn vector { msixGet s fn vector with masked := false } s))
  else .refused .illFormed

/-- POWER_STATE_CHANGE (R381): interrupts held in D3hot are sent in D0. -/
def execPowerStateChange (fn : Fn) (d3 : Bool) (s : State) : Host.Outcome State Fault Refusal :=
  if !fnExists fn then .refused .illFormed
  else if d3 then .next { s with host := { s.host with d3hot := ladd s.host.d3hot (fnKey fn) } }
  else .next (sendAllPending (· == fnKey fn)
    { s with host := { s.host with d3hot := s.host.d3hot.filter (· != fnKey fn) } })

/-! ### Function-level resets (R380) -/

/-- The rings, interrupts, mailbox and sessions of a function are reset; the contexts that a test picks are torn down. -/
def resetFn (fn : Fn) (ctxs : Nat → Bool) (s : State) : State :=
  let l := (s.work.ctxs.filter fun e => e.2.st != .none && ctxs e.1).map (·.1)
  let s := l.foldl (fun s c => ctxFault c { cause := 0xB, source := 7 } s) s
  let mine := fun (ep : Endpoint) => match fn with
    | .pf => epGroup ep == epGroup (.pf 0)
    | .vf n => isVf ep == some n
  let boxes := fun (k : Nat) => match fn with
    | .pf => decide (k < 8)
    | .vf n => k == 8 + n
  let s := endSessions (fun x => mine x.ep) s
  { s with
    host := { s.host with
      rings := s.host.rings.filter fun e => !ctxs e.1
      msix := s.host.msix.map fun e => (e.1, if e.1 / 2048 = fnKey fn then { e.2 with pending := false } else e.2) }
    dict := { s.dict with
      mailboxes := s.dict.mailboxes.filter fun e => !boxes e.1
      waiting := s.dict.waiting.filter fun a => !mine a.ep } }

/-- The reset of a VF: the contexts of the partition that it drives. -/
def flrVf (n : Nat) (s : State) : State :=
  resetFn (.vf n) (fun c => ((sfind s.host.vfMap n).map (·.part)) == some (ctxPart c)) s

/-- FLR_VF. -/
def execFlrVf (n : Nat) (s : State) : Host.Outcome State Fault Refusal :=
  if 64 ≤ n then .refused .illFormed else .next (flrVf n s)

/-- VF Enable is cleared: every VF is reset (R380). -/
def vfsOff (s : State) : State :=
  let s := (List.range 64).foldl (fun s n => flrVf n s) s
  { s with host := { s.host with vfEnable := false } }

/-- FLR_PF: every context is torn down. -/
def execFlrPf (s : State) : Host.Outcome State Fault Refusal := .next (resetFn .pf (fun _ => true) (vfsOff s))

/-! ### Configuration (R379, R380, R382, R383) -/

/-- A size of the form that a resizable BAR takes, within bounds. -/
def barSize (lo hi v : Nat) : Bool := decide (2 ^ lo ≤ v) && decide (v ≤ 2 ^ hi) && (List.range 64).any fun i => 2 ^ i == v

/-- What a configuration write does to the registers that rules of this specification act on: 1 VF Enable, 2 the size of VF
BAR2, 3 that of the PF's BAR2; others hold nothing of the device's (DESIGN CHOICE, notes/assumptions/11.md). -/
def configWrite (reg value : Nat) (s : State) : State :=
  match reg with
  | 1 => if value % 2 = 1 then { s with host := { s.host with vfEnable := true } } else if s.host.vfEnable then vfsOff s else s
  | 2 => if barSize 30 36 value then { s with host := { s.host with vfBar2Bytes := value } } else s
  | 3 => if barSize 30 39 value then { s with host := { s.host with pfBar2Bytes := value } } else s
  | _ => s

/-- CONFIG_REQUEST (R379): Request Retry Status (2) until HOST_UP, successful from then on. -/
def execConfigRequest (fn : Fn) (write : Bool) (reg value : Nat) (s : State) : Host.Outcome State Fault Refusal :=
  if !fnExists fn then .refused .illFormed
  else if !s.host.linkUp then .next s
  else if readyCode s.power.ready < 6 then .next (hostSend (.completion fn 0 2 []) s)
  else .next (hostSend (.completion fn 0 0 []) (if write && fn == .pf then configWrite reg value s else s))

/-! ### BAR2 (R382, R383, R386, R388) -/

/-- The local address of a BAR2 offset, and whether a range from it lies in what the function reaches. -/
def bar2Addr (s : State) (fn : Fn) (off len : Nat) : Nat × Bool :=
  match fn with
  | .pf => (off, decide (off + len ≤ backedBytes) && decide (off + len ≤ s.host.pfBar2Bytes))
  | .vf n =>
    let m := sget {} s.host.vfMap n
    (m.apBase + off, decide (m.part < 64) && decide (off + len ≤ m.apBytes) && decide (m.apBase + off + len ≤ backedBytes))

/-- BAR2 is served (R379, R381). -/
def bar2Up (s : State) (fn : Fn) : Bool := decodes s fn && decide (6 ≤ readyCode s.power.ready)

/-- An address error of a host access: its record, and Unsupported Request (R386, R556). -/
def hostUr (g : Nat) (s : State) : State := errReport { cls := 2, source := 8, cause := 5, addr := g } s

/-- The placement under which a line of this device is found: near, unless its spread home holds it (notes/assumptions/24.md). -/
def nearOf (s : State) (g : Nat) : Bool := (homeWay s (homeSlice g false) (lineOf g)).isNone

/-- A host read of one sector: READ_ONCE at the line's home. -/
def hostLoad (g tag : Nat) (s : State) : State :=
  let near := nearOf s g
  runLine 64 (lineOf g) (serveReq (homeSlice g near)
    { src := .host, txn := tag, addr := g, near := near, hint := 0, scratch := false, bwClass := 0, ctx := 0xFFFF,
      part := 0xFF, write := none, poison := false } .clean s)

/-- BAR2_READ: one READ_ONCE for each sector of the range; each answer is a part of the read's completion. -/
def execBar2Read (fn : Fn) (off len tag : Nat) (s : State) : Host.Outcome State Fault Refusal :=
  if !fnExists fn || len = 0 || 4096 < len then .refused .illFormed
  else if !bar2Up s fn then .next s
  else
    let a := bar2Addr s fn off len
    let g := globalOf s a.1
    if !a.2 then .next (hostSend (.completion fn tag 1 []) (hostUr g s))
    else .next ((List.range ((g % 64 + len + 63) / 64)).foldl (fun s i => hostLoad (g / 64 * 64 + 64 * i) tag s) s)

/-- The record of host data that carries poison (R556, R562). -/
def hostPoison (g : Nat) (s : State) : State := errReport { cls := 1, source := 8, cause := 3, addr := g } s

/-- BAR2_WRITE. -/
def execBar2Write (fn : Fn) (off : Nat) (data : List Byte) (poison : Bool) (s : State) : Host.Outcome State Fault Refusal :=
  if !fnExists fn || data.isEmpty || 512 < data.length then .refused .illFormed
  else if !bar2Up s fn then .next s
  else
    let a := bar2Addr s fn off data.length
    let g := globalOf s a.1
    if !a.2 then .next (hostSend (.aer fn .unsupportedRequest) (hostUr g s))
    else
      let s := if poison then hostSend (.aer fn .poisonedTlp) (hostPoison g s) else s
      .next (writeBytes { who := .host, near := nearOf s g } g data poison s)

/-- The atomic operation of an AtomicOp: FetchAdd, Swap, CAS (R119, R377). -/
def atomicCode : Nat → Nat
  | 0 => 0
  | 1 => 5
  | _ => 6

/-- BAR2_ATOMIC (R377, R386): an ATOM at the line's home. -/
def execBar2Atomic (fn : Fn) (off op size operand compare tag : Nat) (s : State) : Host.Outcome State Fault Refusal :=
  if !fnExists fn || 2 < op || (size != 4 && size != 8) then .refused .illFormed
  else if !bar2Up s fn then .next s
  else
    let a := bar2Addr s fn off size
    let g := globalOf s a.1
    if !a.2 then .next (hostSend (.completion fn tag 1 []) (hostUr g s))
    else if g % size != 0 then .next (hostSend (.completion fn tag 1 []) s)
    else
      let near := nearOf s g
      .next (runLine 64 (lineOf g) (sendOnce .atom (.slice (homeSlice g near)) .host tag (g / 64 * 64) near 0xFFFF 0 false
        (atomFlit (atomicCode op) size (g % 1024) operand compare) s))

/-! ### VF_MAP (R387, R388) -/

/-- The reason with which VF_MAP fails, in the order of its table. -/
def vfMapReason (s : State) (n part apBase apBytes : Nat) : Option Nat :=
  let now := sget {} s.host.vfMap n
  if part < 64 && (partGet s part).st == .none then some 1
  else if part < 64 && s.host.vfMap.any (fun e => e.1 != n && e.2.part == part) then some 2
  else if now.part < 64 && s.host.rings.any (fun e => ctxPart e.1 == now.part && e.2.st != .disabled) then some 3
  else if backedBytes < apBase + apBytes || s.host.vfBar2Bytes < apBytes then some 4
  else none

/-- VF_MAP; a change of the VF's partition ends its sessions (R51). -/
def vfMapOp (n part apBase apBytes : Nat) (s : State) : State :=
  match vfMapReason s n part apBase apBytes with
  | some r => failed r s
  | none =>
    let was := (sget {} s.host.vfMap n).part
    let s := { s with host := { s.host with
      vfMap := if part < 64 then sput s.host.vfMap n ⟨part, apBase, apBytes⟩ else sdel s.host.vfMap n } }
    ok (if was = part then s else endVfSessions n s)

def execVfMap (n part apBase apBytes : Nat) (s : State) : Host.Outcome State Fault Refusal :=
  if 64 ≤ n || 64 < part then .refused .illFormed else .next (vfMapOp n part apBase apBytes s)

/-! ### The device as requester (R398, R399) -/

/-- Answer the requester of a host read, which leaves the list. -/
def answerHostReq (r : HostReq) (data : List Byte) (poison : Bool) (status : Nat) (s : State) : State :=
  let s := { s with host := { s.host with reqs := s.host.reqs.erase r } }
  match r.forWhom with
  | some (a, txn, g) => reply a txn g data poison status s
  | none => s

def hostReq (s : State) (tag : Nat) : Option HostReq := s.host.reqs.find? fun r => r.tag == tag

/-- HOST_COMPLETION: success 0, UR 1, CA 4 (R398); the kind of a failure goes with its cause (R556). -/
def execHostCompletion (tag status : Nat) (data : List Byte) (poison : Bool) (s : State) : Host.Outcome State Fault Refusal :=
  match hostReq s tag with
  | none => .next s
  | some r =>
    if status = 0 then
      .next (answerHostReq r data poison 0 (if poison then hostPoison (2 ^ 56 * devId s + 2 ^ 52 + r.addr) s else s))
    else .next (answerHostReq r [] false (7 + 65536 * (if status = 1 then 1 else 2)) (bump 0x2906 4 s))

/-- HOST_CPL_TIMEOUT. -/
def execHostCplTimeout (tag : Nat) (s : State) : Host.Outcome State Fault Refusal :=
  match hostReq s tag with
  | none => .next s
  | some r => .next (answerHostReq r [] false (7 + 65536 * 3) (hostSend (.aer r.fn .completionTimeout) (bump 0x2906 3 s)))

/-- Host-window lines in a cache: misses complete with HOST_LINK_DOWN, evictions end. -/
def dropHostLines (k : Nat) (s : State) : State :=
  let a := Agent.slice k
  let s := ((cacheGet s a).mshrs.filter fun x => isHostAddr (lineAddr x.line)).foldl (fun s x => failMshr a x.line 8 s) s
  let s := ((cacheGet s a).held.filter fun h => isHostAddr h.req.addr).foldl (fun s h => replyReq h.req [] false 8 s) s
  modCache a (fun c => { c with
    evicts := c.evicts.filter fun e => !isHostAddr (lineAddr e.line)
    held := c.held.filter fun h => !isHostAddr h.req.addr }) s

/-- The host link is down (R399). -/
def hostLinkDown (s : State) : State :=
  let reqs := s.host.reqs
  let s := { s with host := { s.host with
    linkUp := false
    gen := 0
    width := 0
    flit := false
    cxlActive := false
    cxlWait := [] } }
  let s := reqs.foldl (fun s r => answerHostReq r [] false 8 s) s
  homesGoOn (s.uc.slices.foldl (fun s e => dropHostLines e.1 s) s)

/-- HOST_LINK_DOWN. -/
def execHostLinkDown (s : State) : Host.Outcome State Fault Refusal :=
  if s.host.linkUp then .next (hostLinkDown (bump 0x2906 2 s)) else .next s

/-- HOST_LINK_UP (R377, R399, R400): CXL where it is enabled and the host accepts it; waiting interrupts are sent. -/
def execHostLinkUp (gen width : Nat) (flit cxl : Bool) (s : State) : Host.Outcome State Fault Refusal :=
  if gen = 0 || 6 < gen || width = 0 || 16 < width || (gen = 6 && !flit) then .refused .illFormed
  else if s.host.linkUp || !s.host.perstHigh || railGet s 15 != .inRange || latched s 174 then .next s
  else .next (sendAllPending (fun _ => true) { s with host := { s.host with
    linkUp := true
    gen := gen
    width := width
    flit := flit
    cxlActive := cxl && s.host.cxlLatched } })

end Sys2Proof.Machine
end

