-- ==== Sys2Proof/Machine/CxlRows.lean ====
section
/-! DEFINITION. The CXL personality: host snoops and answers at proxy slices, and the host as caching agent 20 (R272, R400
to R403). -/
namespace Sys2Proof.Machine

/-! ### CXL.cache (R272, R402) -/

/-- The slice of a host-window line, where CXL is active and its home slice serves. -/
def cxlSlice (s : State) (g : Nat) : Option Nat :=
  if s.host.cxlActive && isHostAddr g && devOf g == devId s && homeServes s (proxySlice g / 64) then some (proxySlice g) else none

/-- A host snoop at a proxy slice: `op` is the recall it is treated as, `txn` 0 for SnpInv and 1 for SnpData. A line without
a copy, with one that is being evicted, or with one in S that stays, has nothing to recall. -/
def hostSnoop (op : BOp) (txn : Nat) (k g : Nat) (s : State) : State :=
  let a := Agent.slice k
  let line := lineOf g
  let m : BMsg := { dst := a, src := .host, txn := txn, addr := g / 64 * 64, near := false, ctx := 0, epoch := 0, sectors := 0,
                    spoison := 0, data := [] }
  match copyState (cacheGet s a) line with
  | .i | .siA | .miA | .eiA => hostSend (.cxl cxlSnoopRsp (g / 64 * 64) [] false) s
  | .s =>
    if op = .recallI then snoopAnswer m (dropCopy a line s)
    else hostSend (.cxl cxlSnoopRsp (g / 64 * 64) [] false) s
  | _ =>
    match snoop op a m s with
    | some t => homesGoOn t
    | none => protoError a m.addr s

/-- SNP_INV. -/
def execSnpInv (addr : Nat) (s : State) : Host.Outcome State Fault Refusal :=
  match cxlSlice s addr with
  | some k => .next (hostSnoop .recallI 0 k addr s)
  | none => .next s

/-- SNP_DATA. -/
def execSnpData (addr : Nat) (s : State) : Host.Outcome State Fault Refusal :=
  match cxlSlice s addr with
  | some k => .next (hostSnoop .recallS 1 k addr s)
  | none => .next s

/-- SNP_CUR: the current data, the state unchanged. -/
def execSnpCur (addr : Nat) (s : State) : Host.Outcome State Fault Refusal :=
  match cxlSlice s addr with
  | none => .next s
  | some k =>
    let c := cacheGet s (.slice k)
    let i := addr % 1024 / 64
    let g := addr / 64 * 64
    match copyState c (lineOf addr) with
    | .s | .e | .o | .m | .eH | .mH | .smAD | .omA | .miA | .eiA =>
      let d := copyData c (lineOf addr)
      .next (hostSend (.cxl cxlSnoopRsp g (sectorBytes d.1 i) (d.2.2.getLsbD i)) s)
    | _ => .next (hostSend (.cxl cxlSnoopRsp g [] false) s)

/-- One answer of the host less is awaited for a line: how many are left. -/
def cxlAnswered (line : Nat) (s : State) : Nat × State :=
  let n := sget 0 s.host.cxlWait line - 1
  (n, { s with host := { s.host with cxlWait := if n = 0 then sdel s.host.cxlWait line else sput s.host.cxlWait line n } })

/-- The state that a line enters when the host has answered for all of its 16 lines (R402). -/
def cxlEnd (x : Mshr) : LineState :=
  match x.bz with
  | .isD => if x.fetch = 0xFFFF then .eH else .s
  | .isDI => .i
  | _ => .mH

/-- The last answer for a line's miss: the line enters its state, and a snoop that waited is acted on where no hold runs. -/
def cxlFinish (k line : Nat) (s : State) : State :=
  let a := Agent.slice k
  match findMshr (cacheGet s a) line with
  | none => s
  | some x =>
    let st := cxlEnd x
    let m : BMsg := { dst := a, src := .host, txn := x.txn, addr := lineAddr line, near := x.near, ctx := 0, epoch := 0,
                      sectors := 0, spoison := 0, data := [] }
    let s := finishMiss a st m (modMshr a line (fun y => { y with deferred := if st = .s then none else y.deferred }) s)
    homesGoOn (match x.deferred, st with
      | some p, .s => hostSnoop p.op p.m.txn k p.m.addr s
      | _, _ => s)

/-- An answer for one of the 16 host lines of a miss. -/
def cxlGrant (k g : Nat) (rsp : CxlRsp) (data : Option (List Byte)) (poison : Bool) (x : Mshr) (s : State) : State :=
  let a := Agent.slice k
  let i := g % 1024 / 64
  let excl := rsp == .goE || rsp == .goM
  let owns := x.bz != .isD && x.bz != .isDI
  if rsp = .goI && owns then
    failMshr a x.line 7 { s with host := { s.host with cxlWait := sdel s.host.cxlWait x.line } }
  else
    let n := cxlAnswered x.line s
    let s := modMshr a x.line (fun y => { y with
      bz := if rsp = .goI then .isDI else y.bz
      fetch := if excl then y.fetch ||| bit16 i else y.fetch
      data := match data with
        | some b => memWriteN y.data (64 * i) (slice b 0 64)
        | none => y.data
      got := if data.isSome then y.got ||| bit16 i else y.got
      gotPoison := if poison then y.gotPoison ||| bit16 i else y.gotPoison }) n.2
    if n.1 = 0 then cxlFinish k x.line s else s

/-- The answer to an RdCurr, matched by its address. -/
def cxlCurr (g : Nat) (data : List Byte) (poison : Bool) (s : State) : State :=
  match s.host.reqs.find? fun r => r.addr / 64 == g % 2 ^ 52 / 64 && r.fn == .pf with
  | some r => answerHostReq r data poison 0 s
  | none => s

/-- CXL_CACHE_RESPONSE (R402). -/
def execCxlCacheResponse (addr : Nat) (rsp : CxlRsp) (data : Option (List Byte)) (poison : Bool) (s : State) :
    Host.Outcome State Fault Refusal :=
  match cxlSlice s addr with
  | none => .next s
  | some k =>
    let line := lineOf addr
    let c := cacheGet s (.slice k)
    let s := if poison && data.isSome then hostPoison addr s else s
    if rsp = .evicted then
      match findEvict c line with
      | none => .next s
      | some _ =>
        let n := cxlAnswered line s
        .next (if n.1 = 0 then homesGoOn (modCache (.slice k) (fun c => { c with
          evicts := c.evicts.filter fun e => e.line != line }) n.2) else n.2)
    else
      match findMshr c line with
      | some x => if (sfind s.host.cxlWait line).isSome then .next (cxlGrant k addr rsp data poison x s) else .next s
      | none =>
        match data with
        | some b => .next (cxlCurr addr b poison s)
        | none => .next s

/-! ### CXL.mem: the host as agent 20 (R403) -/

/-- A sector of the home copy of a line, or of HBM where the home holds none. -/
def homeData (s : State) (g : Nat) : List Byte × Bool :=
  match holdingHome s g with
  | some (_, w) => homeSector s g w
  | none => memSector s (localOf g)

/-- A device address of CXL.mem is covered by the HDM decoder (R401). -/
def hdmCovers (s : State) (addr : Nat) : Bool := s.host.cxlActive && decide (addr < backedBytes)

/-- The Bezel request of a host read, by MetaValue: 0 I or none, 2 A, 3 S (R403). -/
def memRdOp (metaValue : Nat) : BOp := if metaValue = 3 then .getS else if metaValue = 2 then .getM else .readOnce

/-- MEM_RD: served from the home copy where agent 20 holds the line already; otherwise a request to the home. A line has one
request outstanding (R251). -/
def execMemRd (addr metaValue tag : Nat) (s : State) : Host.Outcome State Fault Refusal :=
  let g := globalOf s addr
  let l := lineOf g
  let x := agent20 s l
  let op := memRdOp metaValue
  if !hdmCovers s addr then .next s
  else if 1 ≤ x.st && (op != .getM || x.st == 2) then
    let d := homeData s g
    .next (hostSend (.cxl cxlMemData (g / 64 * 64) d.1 d.2) s)
  else if x.read.isSome then .next s
  else
    let near := nearOf s g
    let n := newTxn s
    .next (sendB op { dst := .slice (homeSlice g near), src := .host, txn := n.1, addr := lineAddr l, near := near, ctx := 0,
                      epoch := (homeGet s (homeBdie g near)).epoch, sectors := 0, spoison := 0, data := [] }
      (setAgent20 l { x with read := some (g % 1024 / 64 * 64, tag) } n.2))

/-- The bytes of a CXL.mem write with their enables. -/
def memWrBytes (data : List Byte) (enables : List Bool) : List (Bool × Byte) := (enables.zip data).take 64

/-- A write to a line that is being back-invalidated: dirty data of the host (R403). -/
def biTake (l i : Nat) (bs : List (Bool × Byte)) (base : List Byte) (poison : Bool) (s : State) : State :=
  { s with host := { s.host with bi := s.host.bi.map fun b =>
    if b.line = l then { b with
      dirty := b.dirty ||| bit16 i
      spoison := if poison then b.spoison ||| bit16 i else b.spoison
      data := memWriteN b.data (64 * i) (mergeBytes base bs) } else b } }

/-- MEM_WR: merged into the home copy, agent 20's state unchanged. -/
def execMemWr (addr : Nat) (data : List Byte) (enables : List Bool) (poison : Bool) (tag : Nat) (s : State) :
    Host.Outcome State Fault Refusal :=
  let g := globalOf s addr
  let l := lineOf g
  let i := g % 1024 / 64
  let bs := memWrBytes data enables
  let _ := tag
  if data.length != 64 || enables.length != 64 then .refused .illFormed
  else if !hdmCovers s addr then .next s
  else
    let s := if poison then hostPoison g s else s
    let s := hostSend (.cxl cxlCmp (g / 64 * 64) [] false) s
    if s.host.bi.any fun b => b.line == l then .next (biTake l i bs (homeData s g).1 poison s)
    else if 1 ≤ (agent20 s l).st then
      match holdingHome s g with
      | some (k, w) =>
        let d := homeSector s g w
        let b := if w.svalid.getLsbD i then (bs, poison) else ((mergeBytes d.1 bs).map fun x => (true, x), poison || d.2)
        .next (modWay (.slice k) l (fun w => writeWay w i b.1 b.2) s)
      | none => .next (writeSector { who := .host, near := nearOf s g } g bs poison s)
    else .next (writeSector { who := .host, near := nearOf s g } g bs poison s)

/-- BI_RSP: the answer for one of 16 lines, with the dirty data it may bring; the last one answers the home (R403). -/
def execBiRsp (addr : Nat) (data : Option (List Byte)) (s : State) : Host.Outcome State Fault Refusal :=
  let g := globalOf s addr
  let l := lineOf g
  match s.host.bi.find? fun b => b.line == l with
  | none => .next s
  | some _ =>
    let s := match data with
      | some d => biTake l (g % 1024 / 64) [] (slice d 0 64) false s
      | none => s
    let s := { s with host := { s.host with bi := s.host.bi.map fun (b : BiSnoop) => if b.line = l then { b with left := b.left - 1 } else b } }
    match s.host.bi.find? fun b => b.line == l with
    | none => .next s
    | some b =>
      if b.left != 0 then .next s
      else
        let x := agent20 s l
        let s := setAgent20 l { x with st := if b.op = .recallS then 1 else 0, hold := false }
          { s with host := { s.host with bi := s.host.bi.erase b } }
        .next (sendB (if b.dirty = 0 then .invAck else .rspData)
          { dst := .slice (homeSlice g b.near), src := .host, txn := 0, addr := lineAddr l, near := b.near, ctx := 0,
            epoch := (homeGet s (homeBdie g b.near)).epoch, sectors := b.dirty, spoison := b.spoison,
            data := if b.dirty = 0 then [] else lineBytes b.data } s)

end Sys2Proof.Machine
end

