-- ==== Sys2Proof/Machine/Hbm.lean ====
section
/-! DEFINITION. HBM4: temperatures and throttling, channel accesses, scrub, redirection and reservations (R287 to R305). -/
namespace Sys2Proof.Machine

/-! ### Temperature and throttling (R290, R291) -/

/-- Threshold of a step, in 0.1 °C (R306). -/
def thrOf (s : State) (n : Nat) : Int :=
  (num s 0x2602 n ([850, 880, 910, 940, 970].getD (n - 1) 970) : Nat)

/-- The highest step whose threshold a temperature has reached. -/
def stepAt (s : State) (t : Int) : Nat := ([5, 4, 3, 2, 1].find? fun n => decide (thrOf s n ≤ t)).getD 0

/-- The step after a valid reading: raised at a threshold, left only below the threshold less THR_HYST. -/
def nextStep (s : State) (t : Int) : Nat → Nat
  | 0 => stepAt s t
  | n + 1 =>
    if n + 1 ≤ stepAt s t then stepAt s t
    else if t < thrOf s (n + 1) - num s 0x2602 6 30 then nextStep s t n
    else n + 1

/-- A stack enters a step: STOP is counted, F_b and the shortfall follow, and held requests proceed (R291, R305). -/
def setStep (k n : Nat) (s : State) : State :=
  let x := stackGet s k
  let s := if n = 5 && x.step != 5 then bump 0x2601 (0x11 + k) s else s
  let s := shortEval (setStack k { x with step := n } s)
  if n = 5 then s else (List.range 32).foldl (fun s c => refillChan (32 * k + c) s) s

/-- A valid reading of a stack. -/
def stackValid (k : Nat) (t : Int) (s : State) : State :=
  let s := setStack k { stackGet s k with temp := some t, invalid := 0, holdStep := false } s
  setStep k (nextStep s t (stackGet s k).step) s

/-- A reading that the stack does not give: the step is held, and at the fourth is at least step 4. -/
def stackInvalid (k : Nat) (s : State) : State :=
  let x := stackGet s k
  let n := x.invalid + 1
  let s := bump 0x2D08 4 (setStack k { x with temp := none, invalid := n } s)
  if 4 ≤ n && !x.holdStep then
    let s := setStack k { stackGet s k with holdStep := true } s
    logRec { index := 0x2601, sub := k + 9, sev := 2, die := 4 + k / 2, payload := leBytes 1 (max x.step 4) }
      (setStep k (max x.step 4) s)
  else s

/-- STACK_TEMP_READ (R290). -/
def execStackTempRead (stack : Nat) (temp : Option Int) (s : State) : Host.Outcome State Fault Refusal :=
  if 8 ≤ stack then .refused .illFormed
  else
    match temp with
    | some t => .next (stackValid stack t s)
    | none => .next (stackInvalid stack s)

/-! ### Reads and writes of a channel (R287, R291, R298, R304) -/

/-- Charge reserved traffic (R302). -/
def chargeIf (reserved : Bool) (part b : Nat) (s : State) : State :=
  if reserved && resOf s part b != 0 then charge part b s else s

/-- A sector arrives at the MSHR that asked for it; a newer write-back of the sector is not overwritten. -/
def deliverSector (sl l : Nat) (d : List Byte) (p : Bool) (s : State) : State :=
  let i := l % 1024 / 64
  modMshr (.slice sl) (lineOf (globalOf s l)) (fun m =>
    if m.got.getLsbD i || m.bz != .home then m
    else { m with
      got := m.got ||| bit16 i
      gotPoison := if p then m.gotPoison ||| bit16 i else m.gotPoison
      data := memWriteN m.data (64 * i) (slice d 0 64) }) s

/-- The channel named exists and its stack is in service. -/
def chanOk (stack ch : Nat) : Bool := decide (stack < 8) && decide (ch < 32)

/-- HBM_READ: the next read of a channel (R287, R291, R298). -/
def execHbmRead (stack ch : Nat) (ecc : Ecc) (s : State) : Host.Outcome State Fault Refusal :=
  if !chanOk stack ch then .refused .illFormed
  else if stopped s stack then .next s
  else
    let k := 32 * stack + ch
    match nextRead s k with
    | none => .next s
    | some r =>
      let s := setChan k { chanGet s k with rq := (chanGet s k).rq.erase r } s
      let q := sectorRead r.addr ecc (chargeIf r.reserved r.part (stack / 2) s)
      let s := bumpBy 0x260B (stack / 2 + 1) 64 64 q.2
      .next (refillChan k (deliverSector r.slice r.addr q.1.1 q.1.2 s))

/-- A sector of an evicted home copy has been written: its write-back buffer line empties (R236). -/
def evictWritten (sl l : Nat) (s : State) : State :=
  modCache (.slice sl) (fun c => { c with
    evicts := (c.evicts.map fun e =>
      if e.st == .home && e.line == lineOf (globalOf s l) then { e with sdirty := e.sdirty &&& ~~~(bit16 (l % 1024 / 64)) }
      else e).filter fun e => e.st != .home || e.sdirty != 0 }) s

/-- HBM_WRITE: the next write of a channel (R287); in STOP those already queued go on (R291). -/
def execHbmWrite (stack ch : Nat) (s : State) : Host.Outcome State Fault Refusal :=
  if !chanOk stack ch then .refused .illFormed
  else
    let k := 32 * stack + ch
    match nextWrite s k with
    | none => .next s
    | some w =>
      let s := setChan k { chanGet s k with wq := (chanGet s k).wq.erase w } s
      let s := sectorWrite w.addr w.data w.poison (chargeIf w.reserved w.part (stack / 2) s)
      let s := bumpBy 0x260B (stack / 2 + 5) 64 64 s
      .next (homesGoOn (wakeFill w.slice (evictWritten w.slice w.addr (refillChan k s))))

/-- HBM_REFRESH: cells keep their contents (R288); no state of the model changes. -/
def execHbmRefresh (stack ch : Nat) (bank : Option Nat) (s : State) : Host.Outcome State Fault Refusal :=
  if chanOk stack ch && decide (bank.getD 0 < 16) then .next s else .refused .illFormed

/-! ### Patrol scrub (R299) -/

/-- Rows of a channel, spare ones included. -/
def rowsPerChannel : Nat := 2 * 16 * 34208

/-- An injected error waits in a sector of a physical row. -/
def plantedRow (s : State) (key sec : Nat) : Option (Nat × Nat × Nat) :=
  s.errs.planted.find? fun e => e.1 == 4 && e.2.1 % 16 == sec &&
    rowKey (finalLoc s (hbmPlace (64 * e.2.1))) == key

/-- A scrub read of one sector of a physical row. -/
def scrubSector (p : HbmLoc) (sec : Nat) (e : Ecc) (s : State) : State :=
  let key := rowKey p
  let x := plantedRow s key sec
  let s := match x with
    | some y => { s with errs := { s.errs with planted := s.errs.planted.erase y } }
    | none => s
  let e : Ecc := match x with
    | some y => if y.2.2 = 0 then (if e = .double then .double else .single) else .double
    | none => e
  let d := cellRead s key (64 * sec)
  if d.2 then s
  else
    match e with
    | .clean => s
    | .single => correctedRead p
        (errReport { cls := 0, source := 4, cause := 1, place := chanOf p, injected := x.isSome } (bump64 0x2607 1 s))
    | .double =>
      let s := errReport { cls := 1, source := 4, cause := 2, place := chanOf p, injected := x.isSome }
        (bump64 0x2607 2 (cellWrite key (64 * sec) d.1 true s))
      if num s 0x6603 1 1 = 1 then autoRedirect p s else s

/-- A device-wide pass ends when every channel in service has read all its rows. -/
def scrubPass (s : State) : State :=
  let done := (List.range 256).all fun k => isOut s (8 + k / 32) || decide (rowsPerChannel ≤ (chanGet s k).scrubbed)
  if done then
    countLog 0x2607 4 32 0 0xFFFF 0xFF 0xFF
      { s with hbm := { s.hbm with chans := s.hbm.chans.map fun e => (e.1, { e.2 with scrubbed := 0 }) } }
  else s

/-- HBM_SCRUB: a scrub read of row number `row` of a channel, 65,536 × (16 × pseudo-channel + bank) + row; `ecc` is what it
finds in sector `sec`. It takes only cycles with no request waiting (R299). -/
def execHbmScrub (stack ch row sec : Nat) (ecc : Ecc) (s : State) : Host.Outcome State Fault Refusal :=
  if !chanOk stack ch || 32 ≤ row / 65536 || 34208 ≤ row % 65536 || 16 ≤ sec then .refused .illFormed
  else
    let k := 32 * stack + ch
    let c := chanGet s k
    if num s 0x6607 1 1 = 0 || !c.rq.isEmpty || !c.wq.isEmpty || isOut s (8 + stack) then .next s
    else
      let p : HbmLoc := { stack := stack, ch := ch, pc := row / 65536 / 16, bank := row / 65536 % 16, row := row % 65536 }
      let s := scrubSector p sec ecc s
      .next (scrubPass (setChan k { chanGet s k with scrubbed := (chanGet s k).scrubbed + 1 } s))

/-! ### REDIRECT_ADD (R296) -/

/-- REDIRECT_ADD: TABLE_FULL, STACK_OUT_OF_SERVICE, or the entry installed with its rows copied. -/
def execRedirectAdd (stack ch pc span bank row prio : Nat) (s : State) : Host.Outcome State Fault Refusal :=
  if !chanOk stack ch || 2 ≤ pc || 5 ≤ span || 16 ≤ bank || 34208 ≤ row || 4 ≤ prio || row % 2 ^ span != 0 then
    .refused .illFormed
  else if isOut s (8 + stack) then .next (failed 2 s)
  else
    let p : HbmLoc := { stack := stack, ch := ch, pc := pc, bank := bank, row := row }
    match freeEntry s p with
    | none => .next (failed 1 s)
    | some i =>
      .next (ok (installEntry p i { firmware := true, prio := prio, span := span, pending := false, bank := bank,
                                    row := row } s))

/-! ### RESERVE (R302, R303) -/

/-- The highest reservation a partition may have on a B-die, in steps of 10⁹. -/
def resMax (s : State) (part b : Nat) : Nat :=
  max (resOf s part b) (capacity s b - (resTotal s b - resOf s part b)) / 1000000000 * 1000000000

/-- Apply the four fields of RESERVE in order, clamped and recorded. -/
def reserveAll (part : Nat) : Nat → List Nat → State → State
  | _, [], s => s
  | b, r :: t, s =>
    let a := min r (resMax s part b) / 1000000000 * 1000000000
    let s := if a = r then s else clampRecord 0x2608 (b + 2) 4 0 .cc r a s
    reserveAll part (b + 1) t { s with hbm := { s.hbm with
      res := if a = 0 then sdel s.hbm.res (4 * part + b) else sput s.hbm.res (4 * part + b) a
      buckets := sput s.hbm.buckets (4 * part + b) { tokens := tokensNow s part b, at_ := time s } } }

/-- RESERVE: NO_PARTITION, or all four rates applied (R303, R305). -/
def execReserve (part : Nat) (rates : List Nat) (s : State) : Host.Outcome State Fault Refusal :=
  if 64 ≤ part || rates.length != 4 then .refused .illFormed
  else if (partGet s part).st = .none then .next (failed 1 s)
  else .next (ok (shortEval (reserveAll part 0 rates s)))

end Sys2Proof.Machine
end

