-- ==== Sys2Proof/Machine/Helda.lean ====
section
/-! DEFINITION. The Helda rows: link-up and negotiation, flits, retraining and failure, recovery, power messages, LINK_CTL
and SITEP_ENABLE (R308 to R341). -/
namespace Sys2Proof.Machine

/-- A row that concerns a link end. -/
def atEnd (e : Nat) (f : State → State) (s : State) : Host.Outcome State Fault Refusal :=
  if endOk s e then .next (f s) else .refused .illFormed

/-! ### Training and negotiation (R320, R332) -/

/-- Send CAP (R320): before negotiation the peer is taken to hold 3 management credits (R314). -/
def sendCap (e : Nat) (s : State) : State :=
  let s := modEnd e (fun x => { x with capSent := true, capRecv := none, commit := none, credits := [(7, 3)] }) s
  let c := ownCap s (endAgent e)
  mgmtBy e (endAgent (farEnd e)) 1 3 (capBytes c) { s with freeCtr := s.freeCtr + 1 }

/-- HELDA_ADAPTER_UP: from TRAINING negotiation begins; from RETRAIN the end is ACTIVE again (R320, R333). With fewer
than four modules the attempt has failed. -/
def adapterUp (e modules : Nat) (s : State) : State :=
  let x := endGet s e
  match x.st with
  | .training =>
    if x.recovering then s
    else if modules < 4 then
      if 3 ≤ x.attempts + 1 then
        (if e = 16 then sitePLost 0xD else id) (endDown e 0xD s)
      else setEnd e { x with attempts := x.attempts + 1, reason := 0xD } s
    else sendCap e (setEnd e { x with st := .negotiating, modules := if modules < 8 then 4 else 8 } s)
  | .retrain => heldaFlush e (setEnd e { x with st := .active, modules := if modules < 8 then 4 else 8 } s)
  | _ => s

def execHeldaAdapterUp (e modules : Nat) (s : State) : Host.Outcome State Fault Refusal :=
  atEnd e (adapterUp e modules) s

/-- Negotiation has failed at this end (R332, R338). -/
def negotiateFail (e reason : Nat) (s : State) : State :=
  let s := linkDisable (e / 2) reason s
  if e = 16 then setSiteP 4 reason s else s

/-- CAP: kept; the initiator answers with CAP_COMMIT or CAP_REJECT (R320, R321). -/
def capIn (e : Nat) (c : Cap) (s : State) : State :=
  let x := endGet s e
  if x.st != .negotiating then s
  else
    let s := setEnd e { x with capRecv := some c } s
    if e % 2 = 1 then s
    else
      match negotiate s e (ownCap s (endAgent e)) c with
      | .inl r => negotiateFail e r (mgmtBy e (endAgent (farEnd e)) 4 1 (leBytes 2 r) s)
      | .inr k =>
        mgmtBy e (endAgent (farEnd e)) 2 1
          (leBytes 1 k.verMinor ++ leBytes 1 k.classes ++ leBytes 1 k.coherence ++ leBytes 1 k.power)
          (modEnd e (fun x => { x with commit := some k }) s)

def execCap (e : Nat) (c : Cap) (s : State) : Host.Outcome State Fault Refusal := atEnd e (capIn e c) s

/-- CAP_COMMIT at the responder: accepted where its own result is the same (R320). -/
def commitIn (e : Nat) (c : CapCommit) (s : State) : State :=
  let x := endGet s e
  match x.st, x.capRecv with
  | .negotiating, some peer =>
    if e % 2 = 0 then s
    else
      let same := match negotiate s e (ownCap s (endAgent e)) peer with
        | .inl _ => false
        | .inr k => k == c
      if same then
        enterActive e (mgmtBy e (endAgent (farEnd e)) 3 1 [] (modEnd e (fun x => { x with commit := some c }) s))
      else negotiateFail e 0xE (mgmtBy e (endAgent (farEnd e)) 4 1 (leBytes 2 0xE) s)
  | _, _ => s

def execCapCommit (e : Nat) (c : CapCommit) (s : State) : Host.Outcome State Fault Refusal := atEnd e (commitIn e c) s

/-- CAP_ACCEPT at the initiator: ACTIVE (R320). -/
def execCapAccept (e : Nat) (s : State) : Host.Outcome State Fault Refusal :=
  atEnd e (fun s =>
    let x := endGet s e
    if x.st = .negotiating && x.commit.isSome && e % 2 = 0 then enterActive e s else s) s

/-- CAP_REJECT: DISABLED with its reason (R320, R332). -/
def execCapReject (e reason : Nat) (s : State) : Host.Outcome State Fault Refusal :=
  atEnd e (fun s => if (endGet s e).st = .negotiating then negotiateFail e reason s else s) s

/-- NEGOTIATION_TIMEOUT: a step unanswered for 1 ms; the third ends negotiation with TIMEOUT (R320). -/
def execNegotiationTimeout (e : Nat) (s : State) : Host.Outcome State Fault Refusal :=
  atEnd e (fun s =>
    let x := endGet s e
    if x.st != .negotiating then s
    else if 3 ≤ x.expiries + 1 then
      let s := endDown e 9 s
      if e = 16 then setSiteP 4 9 s else s
    else sendCap e (setEnd e { x with expiries := x.expiries + 1 } s)) s

/-- HELDA_TRAIN_FAIL: a training attempt of 5 ms has failed (R332, R338). Whether a partner is detected at site P is not
in the row's words: a free value (assumption 26). -/
def execHeldaTrainFail (e : Nat) (s : State) : Host.Outcome State Fault Refusal :=
  atEnd e (fun s =>
    let x := endGet s e
    if x.st != .training then s
    else
      let f := draw s
      if e = 16 && f.1 % 2 = 1 then
        setSiteP 0 1 (setEnd e { x with st := .off, reason := 1 } f.2)
      else if 3 ≤ x.attempts + 1 then
        let s := endDown e (if x.reason = 0xD then 0xD else 2) f.2
        if e = 16 then setSiteP 4 2 s else s
      else setEnd e { x with attempts := x.attempts + 1, reason := 2 } f.2) s

/-! ### Flits (R309 to R315, R337) -/

/-- Length in units of a message, from its first unit (R311). -/
def msgUnits (cls : Nat) (u : List Byte) : Nat :=
  if cls = 7 then field u 1 1 else 1 + field u 16 1 + field u 17 1

/-- A management type of R318. -/
def mgmtTypeOk (t : Nat) : Bool := [1, 2, 3, 4, 0x10, 0x11, 0x20].contains t

/-- Credits return (R314, R315): they are held again, and the oldest messages of the class leave the resend store. -/
def retire : Nat → List HeldaMsg → List HeldaMsg
  | _, [] => []
  | n, m :: t =>
    if n = 0 then m :: t
    else
      let left := m.units.length - m.returned
      if left ≤ n then retire (n - left) t else { m with returned := m.returned + n } :: t

def creditReturn (e cls count : Nat) (s : State) : State :=
  modEnd e (fun x =>
    let mine := retire count (x.resend.filter fun m => m.cls == cls)
    { x with
      credits := sput x.credits cls (sget 0 x.credits cls + count)
      resend := x.resend.filterMap fun m => if m.cls = cls then mine.find? (fun k => k.num == m.num) else some m }) s

/-- A whole message has arrived: it is counted, and goes on to its layer; a management message for another die is
relayed (R313). A management type not listed is a protocol error. -/
def msgIn (e cls : Nat) (units : List (List Byte)) (s : State) : State :=
  let u := units.getD 0 []
  if cls = 7 && !(mgmtTypeOk (field u 0 1) && decide (1 ≤ field u 1 1) && decide (field u 1 1 ≤ 3) && field u 2 2 == 0) then
    heldaProto e s
  else
    let s := modEnd e (fun x => { x with
      received := (x.received + 1) % 2 ^ 32
      granted := sput x.granted cls (sget 0 x.granted cls + units.length) }) s
    if cls = 7 && field u 5 1 != endAgent e then
      match mgmtEnd s (endAgent e) (field u 5 1) with
      | some o => heldaSend o 7 units s
      | none => s
    else { s with helda := { s.helda with delivered := s.helda.delivered ++ [(e, cls, units)] } }

/-- One unit of a flit; `holes` are the classes whose message was in progress at a unit with VALID 0. -/
def unitIn (e : Nat) (u : HeldaUnit) (holes : List Nat) (s : State) : List Nat × State :=
  let x := endGet s e
  if x.st != .active && x.st != .negotiating then (holes, s)
  else if !u.valid then ((x.partialMsg.filter fun p => !p.2.isEmpty).map (·.1), s)
  else
    let cur := sget [] x.partialMsg u.cls
    let g := sget (if x.st = .negotiating && u.cls = 7 then 3 else 0) x.granted u.cls
    if u.start != cur.isEmpty || holes.contains u.cls || g = 0 || 8 ≤ u.cls then (holes, heldaProto e s)
    else
      let all := cur ++ [u.bytes]
      let n := msgUnits u.cls (all.getD 0 [])
      let s := setEnd e { x with
        granted := sput x.granted u.cls (g - 1)
        partialMsg := sput x.partialMsg u.cls (if n ≤ all.length then [] else all) } s
      (holes, if n ≤ all.length then msgIn e u.cls all s else s)

/-- HELDA_FLIT: credits return, and units are taken into messages. A link that is DOWN or DISABLED carries nothing. -/
def flitIn (e : Nat) (f : HeldaFlitData) (s : State) : State :=
  let x := endGet s e
  if x.st != .active && x.st != .negotiating then s
  else if !f.reservedZero then heldaProto e s
  else
    let s := creditReturn e f.cr1Class f.cr1Count (creditReturn e f.cr0Class f.cr0Count s)
    let s := heldaFlush e s
    ((f.units.take 7).foldl (fun h u => unitIn e u h.1 h.2) ([], s)).2

def execHeldaFlit (e : Nat) (f : HeldaFlitData) (s : State) : Host.Outcome State Fault Refusal := atEnd e (flitIn e f) s

/-! ### Retraining, failure and recovery (R308, R333, R335) -/

/-- HELDA_RETRAIN: the adapter leaves its active state. -/
def retrainEnd (e : Nat) (s : State) : State :=
  if (endGet s e).st = .active then
    countLog 0x2703 (e / 2 + 1) 32 2 0xFFFF 0xFF 0xFF
      (modEnd e (fun x => { x with st := .retrain, retrainAt := time s }) s)
  else s

def execHeldaRetrain (e : Nat) (s : State) : Host.Outcome State Fault Refusal := atEnd e (retrainEnd e) s

/-- HELDA_RETRAIN_LIMIT: the link goes DOWN. -/
def execHeldaRetrainLimit (e : Nat) (s : State) : Host.Outcome State Fault Refusal :=
  atEnd e (fun s => if (endGet s e).st = .retrain then endDown e 0xA s else s) s

/-- HELDA_ADAPTER_FAIL: DOWN; R332 gives no reason code for it: a free value (assumption 23). -/
def execHeldaAdapterFail (e : Nat) (s : State) : Host.Outcome State Fault Refusal :=
  atEnd e (fun s =>
    if (endGet s e).st = .active || (endGet s e).st = .retrain then
      let f := draw s
      endDown e (f.1 % 65536) f.2
    else s) s

/-- HELDA_DOWN_RETRY: links 0 to 7 attempt training every 10 ms (R332). -/
def execHeldaDownRetry (e : Nat) (s : State) : Host.Outcome State Fault Refusal :=
  atEnd e (fun s => if e < 16 && (endGet s e).st = .down then startTrain e s else s) s

/-- The end at the same die by which messages of a failed link go on (R334). -/
def otherEnd (s : State) (e : Nat) : Option Nat :=
  match mgmtEnd s (endAgent e) (endAgent (farEnd e)) with
  | some o => if o = e then none else some o
  | none => none

/-- HELDA_LINK_RECOVER: discard what the peer received, resend the rest over another path; the exchange of the link is
complete when both its ends have done so (R335). -/
def recoverIn (e received : Nat) (s : State) : State :=
  let x := endGet s e
  if !x.recovering then s
  else
    let l := x.resend.filter fun m => !(decide ((received + 2 ^ 32 - m.num) % 2 ^ 32 < 2 ^ 31))
    let s := setEnd e { x with resend := [], recovering := false } s
    let s := match otherEnd s e with
      | some o => (l ++ x.held).foldl (fun s m => heldaSend o m.cls m.units s) (modEnd e (fun x => { x with held := [] }) s)
      | none => modEnd e (fun x => { x with held := l ++ x.held }) s
    if (linkEnds (e / 2)).any fun k => (endGet s k).recovering then s
    else countLog 0x2704 (e / 2 + 1) 32 2 0xFFFF 0xFF 0xFF s

def execHeldaLinkRecover (e received : Nat) (s : State) : Host.Outcome State Fault Refusal :=
  atEnd e (recoverIn e received) s

/-! ### Power messages (R328 to R331) -/

def agentGet (s : State) (a : Nat) : PowerAgent := sget {} s.helda.agents a
def modAgent (a : Nat) (f : PowerAgent → PowerAgent) (s : State) : State :=
  { s with helda := { s.helda with agents := smod {} s.helda.agents a f } }

def powerAgent (s : State) (a : Nat) : Bool :=
  (decide (4 ≤ a) && decide (a ≤ 8)) || (a == 9 && s.part.variant == .qx4p)

/-- DEMAND at the IOD: kept, its temperature stored, and answered with the grant in force (R329, R331). -/
def execDemand (agent : Nat) (d : DemandBody) (s : State) : Host.Outcome State Fault Refusal :=
  if !powerAgent s agent then .refused .illFormed
  else
    let th := decide (agent < 9) || (agentGet s agent).thermal
    let s := modAgent agent (fun p => { p with lastDemand := d, temp := if th && d.tempValid then some d.temp else none }) s
    let g := sget (if agent < 9 then Config.safeMw agent else (agentGet s agent).safePowerMw) s.power.grants agent
    .next (if agent = 8 then s else mgmtSend 8 agent 0x11 1 (leBytes 4 g ++ leBytes 2 d.seq) s)

/-- GRANT at an agent: in force from now on (R329, R330). -/
def execGrant (agent seq mw flags : Nat) (s : State) : Host.Outcome State Fault Refusal :=
  if powerAgent s agent && decide (seq < 65536) && decide (flags < 2 ^ 144) then
    .next (modAgent agent (fun p => { p with grantMw := mw, missed := 0, safeOnly := false }) s)
  else .refused .illFormed

/-- TEMP of an agent as two's complement. -/
def tempCode (t : Option Int) : Nat := match t with
  | some v => (v % 65536).toNat
  | none => 0

/-- The hottest valid sensor of a stack pair or of the IOD (R328, R490). -/
def agentHot (s : State) (a : Nat) : Option Int :=
  ((s.askar.temps.filter fun e =>
    if a = 8 then decide (192 ≤ e.1) && decide (e.1 < 216)
    else e.1 / 32 == a - 4 && decide (e.1 < 128) || decide (128 ≤ e.1) && (e.1 - 128) / 16 == a - 4 ||
      decide (216 ≤ e.1) && (e.1 - 216) / 2 == a - 4).map (·.2)).max?

/-- DEMAND_PERIOD: an agent sends DEMAND to the IOD, never above its MAX_POWER_MW (R328, R329). -/
def execDemandPeriod (agent demandMw avgMw : Nat) (s : State) : Host.Outcome State Fault Refusal :=
  if !(decide (4 ≤ agent) && decide (agent ≤ 8)) then .refused .illFormed
  else
    let p := agentGet s agent
    let d : DemandBody :=
      { seq := (p.demandSeq + 1) % 65536, demandMw := min demandMw (Config.maxMw agent), avgMw := avgMw,
        temp := (agentHot s agent).getD 0, tempValid := (agentHot s agent).isSome }
    let s := modAgent agent (fun p => { p with demandSeq := d.seq }) s
    .next (if agent = 8 then modAgent 8 (fun p => { p with lastDemand := d, temp := agentHot s agent }) s
      else mgmtSend agent 8 0x10 1
        (leBytes 4 d.demandMw ++ leBytes 4 avgMw ++ leBytes 2 (tempCode (agentHot s agent)) ++ leBytes 1 (b2n d.tempValid)) s)

/-- GRANT_MISS: a period without GRANT; at the fifth the agent keeps within SAFE_POWER_MW (R330). -/
def execGrantMiss (agent : Nat) (s : State) : Host.Outcome State Fault Refusal :=
  if powerAgent s agent then
    .next (modAgent agent (fun p => { p with missed := p.missed + 1, safeOnly := decide (5 ≤ p.missed + 1) })
      (bump 0x2709 (agent + 9) s))
  else .refused .illFormed

/-! ### LINK_CTL and SITEP_ENABLE (R326, R332, R341) -/

/-- LINK_CTL enable. -/
def heldaEnable (j : Nat) (s : State) : State :=
  if (linkEnds j).any fun e => (endGet s e).st == .down || (endGet s e).st == .disabled then
    (linkEnds j).foldl (fun s e => startTrain e s) s
  else s

def execHeldaLinkEnable (link : Nat) (s : State) : Host.Outcome State Fault Refusal :=
  if linkOk s link then .next (ok (heldaEnable link s)) else .refused .illFormed

/-- A disable of the link would lose a B-die (R341). -/
def lastPath (j : Nat) (s : State) : Bool :=
  let t := (linkEnds j).foldl (fun s e => modEnd e (fun x => { x with st := .disabled }) s) s
  (lostDies t).any fun n => !(lostDies s).contains n

/-- LINK_CTL disable. -/
def execHeldaLinkDisable (link : Nat) (s : State) : Host.Outcome State Fault Refusal :=
  if !linkOk s link then .refused .illFormed
  else if lastPath link s then .next (failed 1 s)
  else .next (ok (linkDisable link 0xC s))

/-- LINK_CTL retrain. -/
def execHeldaLinkRetrain (link : Nat) (s : State) : Host.Outcome State Fault Refusal :=
  if linkOk s link then .next (ok ((linkEnds link).foldl (fun s e => retrainEnd e s) s)) else .refused .illFormed

/-- SITEP_ENABLE: 0 loses site P and takes link 8 OFF; 1 trains link 8 from OFF or DOWN (R326, R332). -/
def sitePEnable (value : Nat) (s : State) : State :=
  let s := setNum 0x2707 1 (min value 1) s
  let x := endGet s 16
  if value = 0 then
    sitePLost 0xC (rerouteScrim 8 (setEnd 16 { x with st := if x.st = .disabled then .disabled else .off, reason := 0xC,
                                                      resend := [], held := [], partialMsg := [] } s))
  else if x.st = .off || x.st = .down then startTrain 16 s
  else s

def execSitepEnable (value : Nat) (s : State) : Host.Outcome State Fault Refusal :=
  if s.part.variant = .qx4p then .next (ok (sitePEnable value s)) else .refused .illFormed

end Sys2Proof.Machine
end

