-- ==== Sys2Proof/Machine/Power.lean ====
section
/-! DEFINITION. Rails, gated domains, the power arbiter, thermal clamps, clock islands (R527 to R547, R577). -/
namespace Sys2Proof.Machine

/-! ### Domains (R529) -/

/-- Class of a domain. -/
def domClass (d : Nat) : Nat :=
  if d < 144 then 0
  else if d < 172 then [1, 1, 2, 3, 3, 4, 5].getD ((d - 144) % 7) 5
  else if d < 174 then 6 else if d = 174 then 7 else 8

/-- Stack pair of a domain of classes 0 to 5. -/
def domPair (d : Nat) : Nat := if d < 144 then d / 36 else (d - 144) / 7

/-- Ramp rail of a domain. -/
def rampRail (d : Nat) : Nat :=
  match domClass d with
  | 0 => domPair d
  | 4 => 15
  | 6 => 12
  | 7 => 15
  | 8 => 12
  | _ => 8 + domPair d

/-- A domain exists: 175 on the QX4-P alone (R553). -/
def domExists (s : State) (d : Nat) : Bool := decide (d < 175) || (d == 175 && s.part.variant == .qx4p)

def allDomains (s : State) : List Nat := (List.range 176).filter (domExists s)

def setDom (d : Nat) (x : Domain) (s : State) : State :=
  { s with power := { s.power with domains := sput s.power.domains d x } }

def modDom (d : Nat) (f : Domain → Domain) (s : State) : State := setDom d (f (domGet s d)) s

/-- Domains on a ramp rail. -/
def railDomains (s : State) (r : Nat) : List Nat := (allDomains s).filter fun d => rampRail d == r

/-- A ramp is in progress, paused or not. -/
def inRamp (x : Domain) : Bool := x.st == .ramping || x.st == .paused

/-- Short detection runs on a rail. -/
def railDetects (s : State) (r : Nat) : Bool := (railDomains s r).any fun d => (domGet s d).detecting

/-- Gate off the domains of a C-die, those latched off apart. -/
def gateCdie (n : Nat) (s : State) : State :=
  (List.range 36).foldl (fun s i => if latched s (36 * n + i) then s else setDom (36 * n + i) {} s) s

/-- A C-die goes out of service by a latch: those waiting are not ramped; a ramp in progress completes, and then every
domain is gated off (R533). -/
def dropCdie (n : Nat) (s : State) : State :=
  let ds := (List.range 36).map (36 * n + ·)
  if ds.any fun d => inRamp (domGet s d) then
    ds.foldl (fun s d =>
      if (domGet s d).st = .queued then setDom d {} s
      else if inRamp (domGet s d) then modDom d (fun x => { x with gateAfter := true }) s else s) s
  else gateCdie n s

/-! ### Units that go out of service (R277, R286, R527, R533, R547) -/

/-- A FATAL record of a power or clock cause. -/
def powerError (cause place : Nat) (s : State) : State := errReport { cls := 3, source := 11, cause := cause, place := place } s

/-- The reads that wait for a stack complete with STACK_OUT_OF_SERVICE, its waiting writes are not performed (R286). -/
def dropStack (k : Nat) (s : State) : State :=
  (List.range 32).foldl (fun s i =>
    let c := chanGet s (32 * k + i)
    let s := setChan (32 * k + i) {} s
    let s := (c.rq ++ c.rHeld).foldl (fun s r => failMshr (.slice r.slice) (lineOf (globalOf s r.addr)) 6 s) s
    (c.wq ++ c.wHeld).foldl (fun s w => evictWritten w.slice w.addr s) s) s

/-- A stack is out of service (R286). -/
def stackOut (k reason : Nat) (s : State) : State :=
  if isOut s (8 + k) then s else homesGoOn (dropStack k (takeOut (2 ^ (8 + k)) reason s))

/-- Every port that is up or coming up goes DOWN with reason NO_SIGNAL. -/
def portsDark (l : List Nat) (s : State) : State :=
  l.foldl (fun s p =>
    match (portGet s p).st with
    | .training | .hello | .active | .retrain => portStop p .down 1 s
    | _ => s) s

/-- Deassert PWR_GOOD (R550). -/
def pwrBad (s : State) : State := { s with power := { s.power with pins := { s.power.pins with pwrGood := false } } }

/-- The host link goes down by itself (R399, R527, R533). -/
def hostDrops (s : State) : State := if s.host.linkUp then hostLinkDown (bump 0x2906 2 s) else s

/-- What a latched domain takes out of service (R533). -/
def latchEffect (d : Nat) (s : State) : State :=
  let n := domPair d
  let s := powerError 0x16 d (countLog 0x2F09 1 32 2 0xFFFF 0xFF 0xFF s)
  match domClass d with
  | 0 => dropCdie n (cdieOut n 0x201 0x16 s)
  | 2 => s.work.parts.foldl (fun s e => applyShare n e.1 0 s) s
  | 3 => stackOut (2 * n + ((d - 144) % 7 - 3)) 0x201 s
  | 4 => portsDark ((List.range 6).map (6 * n + ·)) s
  | 6 => { s with power := { s.power with
      ccOut := ((List.range 8).map (8 * (d - 172) + ·)).foldl (fun l c => ladd l c) s.power.ccOut } }
  | 7 => hostDrops s
  | 8 => sitePLost 2 s
  | _ => bDieLost n 0x201 0x16 s

/-! ### Rails (R527, R528) -/

def setRail (r : Nat) (x : RailState) (s : State) : State :=
  { s with power := { s.power with rails := sput s.power.rails r x } }

/-- What a rail's fault does. -/
def railFault (r : Nat) (s : State) : State :=
  let s := powerError 0x17 r s
  if r < 4 then cdieOut r 0x202 0x17 s
  else if r < 8 then cdieOut (r - 4) 0x202 0x17 s
  else if r < 12 then bDieLost (r - 8) 0x202 0x17 s
  else if r < 14 then setReady .failed 4 (pwrBad s)
  else if r = 14 then setReady .failed 4 s
  else portsDark (List.range 24) (hostDrops s)

/-- RAIL_OUT_OF_RANGE: a rail that had come into range has been out of it for 1 ms. -/
def execRailOutOfRange (r : Nat) (s : State) : Host.Outcome State Fault Refusal :=
  if 16 ≤ r then .refused .illFormed
  else if railGet s r = .inRange then .next (railFault r (setRail r .fault s))
  else .next s

/-- RAIL_IN_RANGE: what a fault did stands. -/
def execRailInRange (r : Nat) (s : State) : Host.Outcome State Fault Refusal :=
  if 16 ≤ r then .refused .illFormed else .next (setRail r .inRange s)

/-! ### Ramps and short detection (R530 to R534) -/

/-- RAMP_START: the lowest waiting domain of a ramp rail starts, one at a time and not during short detection. -/
def execRampStart (r : Nat) (s : State) : Host.Outcome State Fault Refusal :=
  if 16 ≤ r then .refused .illFormed
  else
    let l := railDomains s r
    if l.any (fun d => inRamp (domGet s d)) || railDetects s r || railGet s r != .inRange then .next s
    else
      match l.find? fun d => (domGet s d).st == .queued with
      | some d => .next (setDom d { st := .ramping } s)
      | none => .next s

/-- RAMP_DONE: the domain is ON; a C-die that is out of service is then gated off. -/
def execRampDone (d : Nat) (s : State) : Host.Outcome State Fault Refusal :=
  if !domExists s d then .refused .illFormed
  else
    let x := domGet s d
    if x.st = .ramping then
      let s := setDom d { x with st := .on, gateAfter := false } s
      .next (if x.gateAfter then gateCdie (d / 36) s else s)
    else .next s

/-- Detection ends on a domain: where no other runs on the rail, its paused ramps go on. -/
def endDetect (d : Nat) (s : State) : State :=
  let s := modDom d (fun x => { x with detecting := false }) s
  let r := rampRail d
  if railDetects s r then s
  else (railDomains s r).foldl (fun s d =>
    if (domGet s d).st = .paused then modDom d (fun x => { x with st := .ramping }) s else s) s

/-- A domain is latched off. -/
def latchOff (d : Nat) (st : DomainState) (s : State) : State :=
  latchEffect d (endDetect d (setDom d { st := st } s))

/-- LATCHED_SLOW: not past 50 % within 100 µs of ramp time. -/
def execLatchedSlow (d : Nat) (s : State) : Host.Outcome State Fault Refusal :=
  if !domExists s d then .refused .illFormed
  else if (domGet s d).st = .ramping then .next (latchOff d .latchedSlow s)
  else .next s

/-- SHORT_DETECT: detection starts, and every ramp on the rail pauses. -/
def execShortDetect (d : Nat) (s : State) : Host.Outcome State Fault Refusal :=
  if !domExists s d then .refused .illFormed
  else if (domGet s d).st = .on || inRamp (domGet s d) then
    let s := modDom d (fun x => { x with detecting := true }) s
    .next ((railDomains s (rampRail d)).foldl (fun s d =>
      if (domGet s d).st = .ramping then modDom d (fun x => { x with st := .paused }) s else s) s)
  else .next s

/-- SHORT_CONFIRM. -/
def execShortConfirm (d : Nat) (s : State) : Host.Outcome State Fault Refusal :=
  if !domExists s d then .refused .illFormed
  else if (domGet s d).detecting then .next (latchOff d .latchedShort s)
  else .next s

/-- SHORT_CLEAR. -/
def execShortClear (d : Nat) (s : State) : Host.Outcome State Fault Refusal :=
  if !domExists s d then .refused .illFormed
  else if (domGet s d).detecting then .next (endDetect d s)
  else .next s

/-- DOMAIN_CLEAR (R534, R553): NO_DOMAIN, NOT_LATCHED. -/
def domainClear (d : Nat) (s : State) : State :=
  if d = 175 && s.part.variant = .qx4 then failed 2 s
  else if latched s d then ok (setDom d { st := .queued } s)
  else failed 1 s

def execDomainClear (d : Nat) (s : State) : Host.Outcome State Fault Refusal :=
  if 176 ≤ d then .refused .illFormed else .next (domainClear d s)

/-! ### The arbiter (R535 to R539) -/

def pBudget (s : State) : Nat := num s 0x2F01 1 1600000
def pPeak (s : State) : Nat := num s 0x2F01 2 2100000

/-- Capacity of the burst store, in nanojoules. -/
def storeCap (s : State) : Nat := (pPeak s - pBudget s) * 10000

/-- The burst store at the end of a period of 100 µs with average power `p`. -/
def nextStore (s : State) (p : Nat) : Nat :=
  let v : Int := s.power.store + ((pBudget s : Int) - p) * 100
  min v.toNat (storeCap s)

/-- Agents of the computation: stack pairs in service, the IOD, site P where it takes part. -/
def powerAgents (s : State) : List Nat :=
  ((List.range 4).filter fun n => !s.helda.lost.contains n && !isOut s (4 + n)).map (4 + ·) ++ [8] ++
    (if sitePServes s then [9] else [])

def agentSafe (s : State) (a : Nat) : Nat := if a < 9 then Config.safeMw a else (agentGet s a).safePowerMw
def agentMax (s : State) (a : Nat) : Nat := if a < 9 then Config.maxMw a else (agentGet s a).maxPowerMw

/-- The demand that enters the computation: SAFE_POWER_MW for a site P without BUDGET (R538). -/
def agentDemand (s : State) (a : Nat) : Nat :=
  if a = 9 && !(agentGet s 9).budget then agentSafe s 9 else (agentGet s a).lastDemand.demandMw

/-- The excess of an agent's demand. -/
def excess (s : State) (a : Nat) : Nat := min (agentDemand s a) (agentMax s a) - agentSafe s a

/-- Twice its weight: the weight is half the excess where the agent is hot. -/
def weight (s : State) (a : Nat) : Nat :=
  match (agentGet s a).temp with
  | some t => if (num s 0x2F01 4 950 : Int) ≤ t then excess s a else 2 * excess s a
  | none => 2 * excess s a

/-- One grant per agent (R538). -/
def arbitrate (s : State) : List (Nat × Nat) :=
  let l := powerAgents s
  let avail := if (pPeak s - pBudget s) * 100 ≤ s.power.store then pPeak s else pBudget s
  let r := avail - (l.map (agentSafe s)).sum
  let w := (l.map (weight s)).sum
  if (l.map (excess s)).sum ≤ r then l.map fun a => (a, agentSafe s a + excess s a)
  else l.map fun a => (a, agentSafe s a + min (excess s a) (weight s a * r / w))

/-- ARBITER_PERIOD: the burst store gains what was left of the period's budget, then grants are computed. -/
def execArbiterPeriod (avgMw : Nat) (s : State) : Host.Outcome State Fault Refusal :=
  let s := { s with power := { s.power with store := nextStore s avgMw } }
  .next { s with power := { s.power with grants := arbitrate s } }

/-! ### Clocks of C-dies (R98, R99, R539 to R543, R577) -/

def cdieGet (s : State) (n : Nat) : CdieClock := sget {} s.power.cdie n

/-- What the ceiling, the clamp and the vertical throttle leave of a C-die's clock. -/
def cdieLimit (s : State) (n : Nat) : Nat :=
  let x := cdieGet s n
  min x.ceilingMhz (min (if x.clamp then 600 else 1600) (match x.vtLevel with
    | 0 => 1600
    | 1 => 1200
    | _ => 600))

/-- FREQ_ACT_SEC: the lower of the request and the limits (R99, R539); 0 where the section has no clock. -/
def secClock (s : State) (sec : Nat) : Nat :=
  if s.ret.get sec = .active then min (num s 0x2001 (sec + 1) 1450) (cdieLimit s (sec / 36)) else 0

/-- Count the clock changes between two states: one for each core, a clock island of its own (R98, R112, assumption 28). -/
def countSwitch (before s : State) : State :=
  let n := ((List.range 144).filter fun x => secClock before x != secClock s x).length
  if n = 0 then s else bumpBy 0x2003 2 32 (32 * n) s

/-- Change the clock limits of a C-die; its setpoint follows the level that its highest section clock needs: a free duty
(R527, R577, notes/assumptions/2.md). -/
def modCdie (n : Nat) (f : CdieClock → CdieClock) (s : State) : State :=
  let v := draw s
  let x := f (cdieGet s n)
  countSwitch s { v.2 with power := { v.2.power with
    cdie := sput s.power.cdie n { x with vset := if s.power.tripped then x.vset else v.1 % 1025 } } }

/-- CLOCK_CEILING_STEP: the ceiling moves by 25 MHz (R539). -/
def execClockCeilingStep (n : Nat) (up : Bool) (s : State) : Host.Outcome State Fault Refusal :=
  if 4 ≤ n then .refused .illFormed
  else .next (modCdie n (fun x => { x with
    ceilingMhz := if up then min 1600 (x.ceilingMhz + 25) else max 600 (x.ceilingMhz - 25) }) s)

/-- CLAMP_SET: C-die 0 to 3, or 4 for the control cores (R540, R543). -/
def execClampSet (which : Nat) (s : State) : Host.Outcome State Fault Refusal :=
  if 5 ≤ which then .refused .illFormed
  else if which = 4 then
    if s.power.ccClamp then .next s
    else .next (driveThrottle (bump 0x2F04 9 { s with power := { s.power with ccClamp := true } }))
  else if (cdieGet s which).clamp then .next s
  else .next (driveThrottle (bump 0x2F04 9 (modCdie which (fun x => { x with clamp := true }) s)))

/-- CLAMP_RELEASE: every sensor has been below CLAMP_T less CLAMP_HYST for 1 ms. -/
def execClampRelease (which : Nat) (s : State) : Host.Outcome State Fault Refusal :=
  if 5 ≤ which then .refused .illFormed
  else if which = 4 then .next (driveThrottle { s with power := { s.power with ccClamp := false } })
  else .next (driveThrottle (modCdie which (fun x => { x with clamp := false }) s))

/-- The level that the hottest sensor of a B-die asks for (R542). -/
def vtLevel (s : State) (now : Nat) (t : Int) : Nat :=
  let s1 : Int := num s 0x2F03 3 950
  let s2 : Int := num s 0x2F03 4 1000
  let h : Int := num s 0x2F03 5 30
  if s2 ≤ t || (now == 2 && decide (s2 - h ≤ t)) then 2
  else if s1 ≤ t || (decide (1 ≤ now) && decide (s1 - h ≤ t)) then 1
  else 0

/-- VT_LEVEL_CHANGE: the level follows the sensors of B-die n; it is held while none reads. -/
def execVtLevelChange (n : Nat) (s : State) : Host.Outcome State Fault Refusal :=
  if 4 ≤ n then .refused .illFormed
  else
    match ((s.askar.temps.filter fun e => decide (128 ≤ e.1) && (e.1 - 128) / 16 == n).map (·.2)).max? with
    | some t => .next (modCdie n (fun x => { x with vtLevel := vtLevel s x.vtLevel t }) s)
    | none => .next s

/-- FREQ_FINE_STEP (R98, R113): a change from 1 to 0 rounds every request down to the 25 MHz grid. -/
def freqFineStep (value : Nat) (s : State) : State :=
  let was := num s 0x6001 1 0
  let s := setNum 0x6001 1 (min value 1) s
  if was = 1 && value = 0 then
    countSwitch s <| (List.range 144).foldl (fun s i =>
      let v := num s 0x2001 (i + 1) 1450
      setNum 0x2001 (i + 1) (v - (v - 600) % 25) s) s
  else s

def execFreqFineStep (value : Nat) (s : State) : Host.Outcome State Fault Refusal := .next (ok (freqFineStep value s))

/-! ### The thermal trip (R544) -/

/-- THERMAL_TRIP. -/
def execThermalTrip (sensor : Nat) (s : State) : Host.Outcome State Fault Refusal :=
  if 224 ≤ sensor then .refused .illFormed
  else if s.power.tripped then .next s
  else
    let s := { s with
      power := { s.power with
        tripped := true
        tripCount := min (s.power.tripCount + 1) (2 ^ 32 - 1)
        domains := s.power.domains.map fun e => (e.1, if latched s e.1 then e.2 else {}) }
      hbm := { s.hbm with cells := [], poison := [] } }
    let s := driveThrottle (latchAlert 2 (pwrBad s))
    .next (setReady .failed 7 (logEvent 0x2F04 0xA 4 (leBytes 4 s.power.tripCount) s))

/-! ### PLLs and the reference (R547) -/

/-- PLL_UNLOCK. -/
def pllUnlock (i : Island) (s : State) : State :=
  let s := bump 0x2F0C 1 s
  match i with
  | .core c => { s with power := { s.power with coreStopped := ladd s.power.coreStopped c } }
  | .lath n => gateCdie n (cdieOut n 0x207 0x15 (powerError 0x15 n s))
  | .scrim n => bDieLost n 0x207 0x15 (powerError 0x15 (4 + n) s)
  | .uc n => bDieLost n 0x207 0x15 (powerError 0x15 (4 + n) s)
  | .hbm k => stackOut k 0x207 (powerError 0x15 k s)
  | .cc c => let s := powerError 0x15 c s; { s with power := { s.power with ccOut := ladd s.power.ccOut c } }
  | .iod => setReady .failed 6 (powerError 0x15 8 s)
  | .pcie => s
  | .carrak p => portRetrain p 0 s
  | .helda j => (linkEnds j).foldl (fun s e => retrainEnd e s) s

/-- The island exists. -/
def islandExists (s : State) : Island → Bool
  | .core c => decide (c < 4608)
  | .lath n => decide (n < 4)
  | .scrim n => decide (n < 4)
  | .uc n => decide (n < 4)
  | .hbm k => decide (k < 8)
  | .cc c => decide (c < 16)
  | .carrak p => decide (p < 24)
  | .helda j => linkOk s j
  | _ => true

def execPllUnlock (island : Island) (s : State) : Host.Outcome State Fault Refusal :=
  if islandExists s island then .next (pllUnlock island s) else .refused .illFormed

/-- PLL_RELOCK: the core's clock runs again, its instructions continue. -/
def execPllRelock (core : Nat) (s : State) : Host.Outcome State Fault Refusal :=
  if 4608 ≤ core then .refused .illFormed
  else .next { s with power := { s.power with coreStopped := s.power.coreStopped.filter (· != core) } }

/-- REFCLK_LOSS: the always-on island runs from its oscillator. -/
def execRefclkLoss (s : State) : Host.Outcome State Fault Refusal :=
  .next { s with power := { s.power with refclk := false, refclkOnOsc := true } }

/-- REFCLK_LOST: the reference has been absent for 1 ms. -/
def execRefclkLost (s : State) : Host.Outcome State Fault Refusal :=
  if s.power.refclk then .next s else .next (setReady .failed 5 (pwrBad s))

/-- REFCLK_RETURN. -/
def execRefclkReturn (s : State) : Host.Outcome State Fault Refusal :=
  .next { s with power := { s.power with refclk := true, refclkOnOsc := false } }

end Sys2Proof.Machine
end

