-- ==== Sys2Proof/Machine/StartUp.lean ====
section
/-! DEFINITION. Resets, start-up and the injection of errors (R507, R528, R548 to R552, R567, R568). -/
namespace Sys2Proof.Machine

/-! ### Reset scopes (R548) -/

/-- Start-up begins: straps are sampled, every rail is judged afresh, the output pins are released (R528, R551, R582,
R583). -/
def beginStart (cause node pid : Nat) (testEn : Bool) (s : State) : State :=
  setReady .askarBoot 0 { s with power := { s.power with
    startAt := time s
    perstAt := time s
    resetCause := cause
    testEn := testEn
    nodeId := node
    strapI3c := pid } }

/-- What flash keeps of the firmware slots: an update in progress is forgotten (R505, R507). -/
def keptFw (f : Firmware) : Firmware :=
  { active := f.active, running := f.active, slotA := f.slotA, slotB := f.slotB, rollback := f.rollback, flashOk := f.flashOk }

/-- Askar after power-on: fuses and flash are kept (R514, R519, R521, R548). -/
def askarCold (a : Askar) : Askar :=
  { flash := a.flash, fw := keptFw a.fw, bootCount := min (a.bootCount + 1) 65535
    sec := { lc := a.sec.lc, entriesLeft := a.sec.entriesLeft, owner := a.sec.owner, expert := a.sec.expert,
             tamperCount := a.sec.tamperCount } }

/-- Askar after a package reset: time base, log, sensors' readings, alerts and tamper latches, and the sealed region are kept
too (R489, R496, R503, R518, R548). -/
def askarWarm (a : Askar) : Askar :=
  let c := askarCold a
  { c with
    timeNs := a.timeNs
    nextSeq := a.nextSeq
    log := a.log
    hwQueue := a.hwQueue
    toFlash := a.toFlash
    alerts := a.alerts
    alertPin := a.alertPin
    temps := a.temps
    volts := a.volts
    currs := a.currs
    pwr := a.pwr
    pwrRail := a.pwrRail
    pwrPart := a.pwrPart
    lastRestart := 6
    sec := { c.sec with sealed := a.sec.sealed, tamperLatch := a.sec.tamperLatch } }

/-- Everything but fuses and flash at its reset value, and VDD_AON in range. -/
def coldState (s : State) : State :=
  { pending := s.pending
    freeCtr := s.freeCtr
    part := s.part
    askar := askarCold s.askar
    hbm := { ppr := s.hbm.ppr }
    power := { rails := [(13, .inRange)], tripCount := s.power.tripCount } }

/-- POWER_ON: VDD_AON comes into range (R551). -/
def powerOn (node pid : Nat) (testEn : Bool) (s : State) : State := beginStart 0 node pid testEn (coldState s)

/-- The straps' values (R583). -/
def strapsOk (node pid : Nat) : Bool := decide (node < 8) && decide (pid < 16)

def execPowerOn (node pid : Nat) (testEn : Bool) (s : State) : Host.Outcome State Fault Refusal :=
  if strapsOk node pid then .next (powerOn node pid testEn s) else .refused .illFormed

/-- The bursts of every DMA engine are cut (R160): cause 5. -/
def cutBursts (s : State) : State := s.work.ctxs.foldl (fun s e => stopDma 5 e.1 s) s

/-- Every die, the links, the host port and Askar are reset; what went out on a link stays sent. -/
def warmState (s : State) : State :=
  let t := coldState s
  { t with
    askar := askarWarm s.askar
    host := { out := s.host.out, nextTag := s.host.nextTag, cxlLatched := num s 0x2901 1 0 == 1 }
    carrak := { out := s.carrak.out, crazeGrant := s.carrak.crazeGrant }
    dict := { out := s.dict.out }
    power := { rails := s.power.rails.filter fun e => e.2 == .inRange, tripCount := s.power.tripCount
               refclk := s.power.refclk, refclkOnOsc := s.power.refclkOnOsc } }

/-- PACKAGE_RESET: PERST_N has been low for 1 µs. -/
def packageReset (node pid : Nat) (testEn : Bool) (s : State) : State :=
  beginStart 1 node pid testEn (driveAlert (warmState (cutBursts s)))

def execPackageReset (node pid : Nat) (testEn : Bool) (s : State) : Host.Outcome State Fault Refusal :=
  if strapsOk node pid then .next (packageReset node pid testEn s) else .refused .illFormed

/-- PERST_N_DEASSERT (R379): READY_TIME_NS counts from here. -/
def execPerstNDeassert (s : State) : Host.Outcome State Fault Refusal :=
  if s.host.perstHigh then .next s
  else .next { s with host := { s.host with perstHigh := true }, power := { s.power with perstAt := time s } }

/-! ### DIE_RESET (R549) -/

/-- A section of a C-die belongs to a partition. -/
def sectionsUsed (s : State) (n : Nat) : Bool := s.work.parts.any fun e => e.2.st != .none && e.2.sections.any fun x => x / 36 == n

/-- A C-die's cores, Lath and sections after a reset: the crossings are calibrated again to a free latency (R198). -/
def resetCdie (n : Nat) (s : State) : State :=
  let f := draw s
  let s := f.2
  { s with
    cores := s.cores.filter fun e => coreDie e.1 != n
    lath := { s.lath with
      routers := s.lath.routers.filter fun e => coreDie e.1 != n
      flight := s.lath.flight.filter fun w => coreDie w.core != n
      p := sput s.lath.p n (4 + f.1 % 5) }
    ret := { s.ret with
      st := s.ret.st.filter fun e => e.1 / 36 != n
      wakeQueue := s.ret.wakeQueue.filter fun x => x / 36 != n
      held := s.ret.held.filter fun h => h.addr % 2 ^ 40 / 2 ^ 20 / 1152 != n }
    power := { s.power with coreStopped := s.power.coreStopped.filter fun c => coreDie c != n } }

/-- A B-die's slices, its array and its channels after a reset; memory and redirect entries are kept (R289, R297). -/
def resetBdie (n : Nat) (s : State) : State :=
  let s := (List.range 64).foldl (fun s i => setChan (64 * n + i) {} s) s
  modArray n (fun x => { x with queue := [], problems := [] })
    { s with uc := { s.uc with slices := s.uc.slices.filter fun e => e.1 / 64 != n } }

/-- The ends of the Helda links of a B-die. -/
def bdieEnds (n : Nat) : List Nat := (List.range 16).filter fun e => endAgent e == 4 + n || endAgent (farEnd e) == 4 + n

/-- A B-die's links and ports train again (R332, R354). -/
def retrainBdie (n : Nat) (s : State) : State :=
  let s := (bdieEnds n).foldl (fun s e => startTrain e s) s
  (List.range 6).foldl (fun s q => portTrain (6 * n + q) s) s

/-- The B-die offers every bit of FEATURE_SET (R323). -/
def featuresOk (s : State) (n : Nat) : Bool := sget 0 s.part.features (4 + n) &&& s.helda.featureSet == s.helda.featureSet

/-- OUT_OF_SERVICE bits of a target (R549). -/
def targetBits (t : Nat) : Nat := if t < 4 then 2 ^ t + 2 ^ (4 + t) + 2 ^ (8 + 2 * t) + 2 ^ (9 + 2 * t) else 2 ^ (t - 4)

/-- The end of a die reset: the target returns to service, or NOT_RECOVERED. -/
def dieResetEnd (t : Nat) (recovered : Bool) (s : State) : State :=
  if t < 4 then
    if !recovered then failed 3 (takeOut (2 ^ t + 2 ^ (4 + t)) 0x204 s)
    else if !featuresOk s t then
      failed 3 (takeOut (2 ^ t + 2 ^ (4 + t)) 0x204
        ((bdieEnds t).foldl (fun s e => modEnd e (fun x => { x with st := .disabled, reason := 8 }) s) s))
    else
      inProgress (retrainBdie t (putBack (targetBits t)
        { s with helda := { s.helda with lost := s.helda.lost.filter (· != t) } }))
  else if !recovered then failed 3 (takeOut (targetBits t) 0x205 s)
  else inProgress (putBack (targetBits t) s)

/-- DIE_RESET: `recovered` says whether training and calibration succeed. -/
def dieReset (t : Nat) (recovered : Bool) (s : State) : State :=
  let n := t % 4
  if sectionsUsed s n then failed 1 s
  else if t < 4 && (homeGet s n).st != .offline && (homeGet s n).st != .lost then failed 2 s
  else dieResetEnd t recovered (resetCdie n (if t < 4 then resetBdie n s else s))

def execDieReset (target : Nat) (recovered : Bool) (s : State) : Host.Outcome State Fault Refusal :=
  if 8 ≤ target then .refused .illFormed else .next (dieReset target recovered s)

/-! ### The stages of start-up (R551, R552) -/

/-- A rail has not come into range in this start-up (R528). -/
def railMissing (s : State) : Bool := (List.range 16).any fun r => railGet s r == .off

/-- A sensor is not below TRIP_T less 10 °C (R544). -/
def tooHot (s : State) : Bool := s.askar.temps.any fun e => decide ((s.part.tripT : Int) - 100 ≤ e.2)

/-- POWER_UP: once rails and temperature allow, the domains queue for their ramps; once no ramp is left, HBM training
begins. -/
def powerUp (s : State) : State :=
  if s.power.ready != .powerUp || railMissing s || tooHot s then s
  else
    let l := allDomains s
    if l.all fun d => (domGet s d).st == .off then l.foldl (fun s d => setDom d { st := .queued } s) s
    else if l.any fun d => (domGet s d).st == .queued || inRamp (domGet s d) then s
    else setReady .hbmTrain 0 s

def execPowerUp (s : State) : Host.Outcome State Fault Refusal := .next (powerUp s)

/-- RAIL_WAIT_EXPIRY: a rail is still OFF 1 s after POWER_UP was entered. -/
def execRailWaitExpiry (s : State) : Host.Outcome State Fault Refusal :=
  .next (if s.power.ready = .powerUp && railMissing s then setReady .failed 4 s else s)

/-- HOT_AT_START: 60 s have passed. -/
def execHotAtStart (s : State) : Host.Outcome State Fault Refusal :=
  .next (if s.power.ready = .powerUp && tooHot s then setReady .failed 8 s else s)

/-- The rows of a list in increasing order of channel, pseudo-channel, bank and row. -/
def sortRows (l : List Nat) : List Nat := l.foldl (fun r k => insertSorted k r) []

/-- Pending rows are repaired where the stack has the resources: a free choice for each (R297, notes/assumptions/2.md). -/
def repairRows : List Nat → State → List Nat × State
  | [], s => ([], s)
  | k :: t, s =>
    let f := draw s
    let r := repairRows t f.2
    (if f.1 % 2 = 0 then r.1 else k :: r.1, r.2)

/-- The place that a row key names. -/
def locOfKey (k : Nat) : HbmLoc :=
  { stack := k / 67108864, ch := k / 2097152 % 32, pc := k / 1048576 % 2, bank := k / 65536 % 16, row := k % 65536 }

/-- Rebuild the redirect tables from the rows still pending (R297). -/
def rebuildRedirects (l : List Nat) (s : State) : State :=
  (sortRows l).foldl (fun s k =>
    let p := locOfKey k
    match freeEntry s p with
    | some i =>
      let e : Redirect := { firmware := false, prio := 0, span := 0, pending := true, bank := p.bank, row := p.row }
      { s with hbm := { s.hbm with redirect := sput s.hbm.redirect (64 * chanOf p + i) e } }
    | none => bump 0x2604 4 s) { s with hbm := { s.hbm with redirect := [] } }

/-- Link 8 exists on the QX4-P alone. -/
def allEnds (s : State) : List Nat := (List.range 17).filter (endOk s)

/-- HBM_TRAIN: repair, rebuild, train; stacks that fail are out of service (R286, R297). HELDA training begins. -/
def hbmTrain (badStacks : List Nat) (s : State) : State :=
  if s.power.ready != .hbmTrain then s
  else
    let r := repairRows s.hbm.ppr s
    let s := setNum 0x2604 6 (s.hbm.ppr.length - r.1.length) { r.2 with hbm := { r.2.hbm with ppr := r.1 } }
    let s := rebuildRedirects r.1 s
    let s := badStacks.foldl (fun s k => takeOut (2 ^ (8 + k)) 0x203 s) s
    (allEnds s).foldl (fun s e => startTrain e s) (setReady .heldaTrain 0 s)

def execHbmTrain (badStacks : List Nat) (s : State) : Host.Outcome State Fault Refusal :=
  if badStacks.any fun k => decide (8 ≤ k) then .refused .illFormed else .next (hbmTrain badStacks s)

/-- FEATURES common to the agents whose links are in service (R39, R323). -/
def commonFeatures (s : State) : Nat :=
  (((List.range 4).filter fun n => (bdieEnds n).any fun e => (endGet s e).st == .active).map (4 + ·)).foldl
    (fun f a => f &&& sget 0 s.part.features a) (sget 0 s.part.features 8)

/-- HELDA_TRAIN: the stage ends; FEATURE_SET is computed, and B-dies that no path reaches are lost (R336, R338). -/
def heldaTrain (s : State) : State :=
  if s.power.ready != .heldaTrain then s
  else checkLost (setReady .controlBoot 0 { s with helda := { s.helda with featureSet := commonFeatures s } })

def execHeldaTrain (s : State) : Host.Outcome State Fault Refusal := .next (heldaTrain s)

/-- CONTROL_BOOT: ports begin to train, and PWR_GOOD is asserted at its end (R354, R550, R551). -/
def controlBoot (s : State) : State :=
  if s.power.ready != .controlBoot then s
  else
    let s := (List.range 24).foldl (fun s p => portTrain p s) s
    { s with power := { s.power with
      pins := { s.power.pins with pwrGood := true }
      perstAt := if s.host.perstHigh then time s else s.power.perstAt } }

def execControlBoot (s : State) : Host.Outcome State Fault Refusal := .next (controlBoot s)

/-- HOST_UP: config space completes; UC, tile memory and registers are zeroed, the crossings of each die calibrated to a free
latency, and the self-test run (R198, R379, R551). -/
def hostUp (badDies : List Nat) (s : State) : State :=
  if s.power.ready != .controlBoot || !s.power.pins.pwrGood || !s.host.perstHigh then s
  else
    let s := (List.range 4).foldl (fun s n => resetCdie n s) (setReady .hostUp 0 s)
    let s := { s with uc := { s.uc with slices := [], cc := [] } }
    badDies.foldl (fun s n => cdieOut n 0x205 0 s) s

def execHostUp (badDies : List Nat) (s : State) : Host.Outcome State Fault Refusal :=
  if badDies.any fun n => decide (4 ≤ n) then .refused .illFormed else .next (hostUp badDies s)

/-- STARTUP_END (R552). -/
def startupEnd (s : State) : State :=
  if s.power.ready != .hostUp then s
  else if bits s.power.oos.toNat 0 4 = 15 || bits s.power.oos.toNat 4 4 = 15 then setReady .failed 9 s
  else if latched s 174 || (latched s 172 && latched s 173) then setReady .failed 0xA s
  else if s.power.oos != 0 then setReady .degraded s.power.startCause s
  else setReady .ready 0 s

def execStartupEnd (s : State) : Host.Outcome State Fault Refusal := .next (startupEnd s)

/-- STAGE_TIMEOUT: a stage exceeds twice its bound. -/
def execStageTimeout (s : State) : Host.Outcome State Fault Refusal :=
  .next (if inStartup s then setReady .failed (0x100 + readyCode s.power.ready) s else s)

/-! ### Injection of errors (R567, R568) -/

/-- A kind is listed for a unit. -/
def kindListed (u kind : Nat) : Bool :=
  match u with
  | 0 | 2 | 4 => decide (kind ≤ 2)
  | 3 => kind == 0 || kind == 1 || kind == 3
  | _ => decide (kind ≤ 1)

/-- Caches that hold a sector, by slice. -/
def sectorHolders (s : State) (g : Nat) : List Nat :=
  (s.uc.slices.filter fun e => e.2.c.ways.any fun w => w.2.tag == lineOf g && w.2.svalid.getLsbD (g % 1024 / 64)).map (·.1)

/-- The target exists and lies on a die in service. -/
def eiTarget (s : State) (u addr : Nat) : Bool :=
  match u with
  | 0 => isTileWin s (globalOf s addr) && addr / 2 ^ 56 == 0 && !isOut s (coreDie (addr % 2 ^ 40 / 2 ^ 20))
  | 1 => match ofCoreRef (addr % 65536) with
    | some c => !isOut s (coreDie c)
    | none => false
  | 2 => devOf addr == devId s && (sectorHolders s addr).any fun k => !isOut s (4 + k / 64)
  | 3 => s.uc.slices.any fun e => !isOut s (4 + e.1 / 64) && e.2.c.ways.any fun w => w.2.tag == lineOf addr
  | 4 => decide (addr < backedBytes) && !isOut s (8 + (hbmPlace addr).stack) && !isOut s (4 + homeDie addr)
  | _ => nodeOk addr && decide (addr / 4096 % 8 < 4) && !isOut s (addr / 4096 % 8 + (if addr / 32768 = 1 then 4 else 0))

/-- The key under which a stored error waits to be detected. -/
def plantKey (u addr : Nat) : Nat :=
  match u with
  | 0 => 8192 * (addr % 2 ^ 40 / 2 ^ 20) + addr % 2 ^ 20 / 64
  | 3 => lineOf addr
  | _ => addr / 64

/-- Mark one stored sector poisoned (kind 2). -/
def poisonStored (u addr : Nat) (s : State) : State :=
  match u with
  | 0 => modCore (addr % 2 ^ 40 / 2 ^ 20) (fun x => { x with poison := ladd x.poison (addr % 2 ^ 20 / 64) }) s
  | 2 => (sectorHolders s addr).foldl (fun s k => modWay (.slice k) (lineOf addr) (fun w => { w with
      spoison := w.spoison ||| bit16 (addr % 1024 / 64) }) s) s
  | _ => poisonSector (addr / 64 * 64) s

/-- Inject into one stored target. -/
def plantOne (u kind addr : Nat) (s : State) : State :=
  if kind = 2 then poisonStored u addr s
  else { s with errs := { s.errs with planted := s.errs.planted ++ [(u, plantKey u addr, kind)] } }

/-- Stored targets: consecutive sectors, or lines for a tag. -/
def eiTargets (u addr count : Nat) : List Nat :=
  if u = 1 || u = 5 then [addr] else (List.range count).map fun i => addr + i * (if u = 3 then 1024 else 64)

/-- Where transit errors wait: a core by its CORE_REF, a router by its node. -/
def transitTarget (u addr : Nat) : Nat := if u = 1 then addr % 65536 else addr

/-- EI_RUN: LOCKED, NO_TARGET, KIND_INVALID. -/
def eiRun (u kind addr count : Nat) (s : State) : State :=
  if crazeLocked s || (kind = 3 && s.askar.sec.lc != .blank && s.askar.sec.lc != .rma) then failed 1 s
  else if !(eiTargets u addr count).all (eiTarget s u) then failed 2 s
  else if !kindListed u kind then failed 3 s
  else if u = 1 || u = 5 then
    ok { s with errs := { s.errs with
      injects := s.errs.injects ++ [{ unit := u, target := transitTarget u addr, kind := kind, left := count }] } }
  else ok ((eiTargets u addr count).foldl (fun s a => plantOne u kind a s) s)

def execEiRun (unit kind addr count : Nat) (s : State) : Host.Outcome State Fault Refusal :=
  if 6 ≤ unit || 4 ≤ kind || count = 0 || 256 ≤ count then .refused .illFormed
  else .next (eiRun unit kind addr count s)

end Sys2Proof.Machine
end

