-- ==== Sys2Proof/Machine/DictValues.lean ====
section
/-! DEFINITION. The object dictionary: which objects there are, who reaches them, and what they read as (R40 to R56, R66,
R71, R80, R585). -/
namespace Sys2Proof.Machine

/-! ### Existence (R13, R40, R44) -/

/-- Index at which an object stands in the tables: 0x2C10 to 0x2C4F are one object per partition (R486). -/
def baseIdx (idx : Nat) : Nat := if 0x2C10 ≤ idx && idx ≤ 0x2C4F then 0x2C10 else idx

/-- Objects that concern only site P (R340, R80). -/
def sitePObj (idx : Nat) : Bool := idx == 0x1004 || idx == 0x2707 || idx == 0x2708

/-- Subindexes that concern only site P (R340, R525, R553). -/
def sitePSub (idx sub : Nat) : Bool :=
  if 0x2701 ≤ idx && idx ≤ 0x2705 then sub == 9
  else if idx = 0x2709 then sub == 6 || sub == 0xC || sub == 0x12
  else if idx = 0x2D10 then sub == 0x13
  else if idx = 0x2F06 then sub == 0xB0
  else if idx = 0x2F07 || idx = 0x2F08 || idx = 0x6F07 then sub == 9
  else if idx = 0x6F08 then sub == 9 || sub == 0x12
  else false

/-- The subindex is absent on the QX4. -/
def subAbsent (s : State) (idx sub : Nat) : Bool := s.part.variant == .qx4 && (sitePObj idx || sitePSub idx sub)

/-- An object exists at an index. -/
def objExists (s : State) (idx : Nat) : Bool :=
  !(s.part.variant == .qx4 && sitePObj idx) && objRows.any fun o => o.idx == baseIdx idx

/-- The row of a listed subindex. -/
def objOf (s : State) (idx sub : Nat) : Option Obj :=
  if subAbsent s idx sub then none
  else objRows.find? fun o => o.idx == baseIdx idx && decide (o.lo ≤ sub) && decide (sub ≤ o.hi)

/-- Subindex 0: the highest subindex the object defines (R40). -/
def highSub (s : State) (idx : Nat) : Nat :=
  ((objRows.filter fun o => o.idx == baseIdx idx).map fun o => if subAbsent s idx o.hi then o.hi - 1 else o.hi).max?.getD 0

/-- The indexes at which objects exist. -/
def allIdx (s : State) : List Nat :=
  ((objRows.map (·.idx)).dedup.filter (objExists s)) ++ (List.range 63).map fun p => 0x2C11 + p

/-! ### Reach (R48, R52, R54, R55, R585) -/

/-- Who asks: the endpoint, the session (0xFFFF for none), its level, and the partition of a VF. -/
structure Who where
  ep : Endpoint
  sid : Nat
  level : Nat
  part : Option Nat
  deriving DecidableEq, Repr

/-- A request's author. -/
def whoOf (s : State) (ep : Endpoint) (sid : Nat) : Who :=
  { ep := ep, sid := sid, level := ((findSession s sid).map (·.level)).getD 0
    part := match isVf ep with
      | some n => let p := (sget {} s.host.vfMap n).part; if p < 64 then some p else none
      | none => none }

/-- Objects that a chapter marks partition-visible. -/
def partVisible (idx : Nat) : Bool :=
  [0x2206, 0x2207, 0x2208, 0x2209, 0x2408, 0x2905, 0x2A01, 0x2A02, 0x2A04, 0x2C03, 0x2D12, 0x3002].contains idx ||
    baseIdx idx == 0x2C10

/-- The reach of a session of a VF (R54). -/
def vfReach (w : Who) (idx : Nat) : Bool :=
  decide (0x1000 ≤ idx ∧ idx ≤ 0x1013) || idx == 0x1020 || idx == 0x1030 || (w.part.isSome && partVisible idx)

/-- The factory range is open to this endpoint (R55). -/
def factoryOpen (s : State) (ep : Endpoint) : Bool :=
  (s.askar.sec.lc == .blank || s.askar.sec.lc == .rma) && match ep with
    | .pf _ => true
    | .i3c => true
    | .cc => true
    | _ => false

/-- LEVEL of an index (R41, R52, R71). -/
def idxLevel (idx : Nat) : Nat := if 0x8000 ≤ idx then 2 else if 0x5000 ≤ idx then 1 else 0

/-- In DECOMMISSIONED only these are served after a later start-up (R520). -/
def decomShut (s : State) (idx : Nat) : Bool :=
  s.askar.sec.lc == .decommissioned && s.power.ready == .failed && s.power.readyReason == 3 && idx != 0x2E00 && idx != 0x2E05

/-- Checks 2 to 4 of R585: the status of the first that fails. -/
def reachFails (s : State) (w : Who) (idx : Nat) : Option Nat :=
  if (isVf w.ep).isSome && !vfReach w idx then some 0x10
  else if 0x8000 ≤ idx && !factoryOpen s w.ep then some 0x14
  else if w.level < min 1 (idxLevel idx) then some 0x13
  else if w.sid ≠ 0xFFFF && decomShut s idx then some 0x10
  else none

/-- Checks 2 to 5 of R585 for an object. -/
def objFails (s : State) (w : Who) (idx : Nat) : Option Nat :=
  match reachFails s w idx with
  | some r => some r
  | none => if objExists s idx then none else some 0x10

/-- ENUMERATE: the first index above one that the session can reach (R71). -/
def nextIdx (s : State) (w : Who) (idx : Nat) : Option Nat :=
  ((allIdx s).filter fun i => decide (idx < i) && (reachFails s w i).isNone).min?

/-! ### Types (R45) -/

/-- Bytes of a numeric value. -/
def tySize : Nat → Nat
  | 1 => 1 | 2 => 2 | 3 => 4 | 4 => 8 | 5 => 4 | 6 => 4 | 7 => 1 | 8 => 1 | 9 => 4 | 12 => 8 | _ => 0

/-- STR and BLOB. -/
def isBlobTy (t : Nat) : Bool := t == 10 || t == 11

/-- A signed value in 32 bits. -/
def i32 (z : Int) : Nat := (BitVec.ofInt 32 z).toNat

/-! ### Numeric values -/

/-- The index under which the values of an object are kept for a session (R188). -/
def keepIdx (w : Who) (idx : Nat) : Nat :=
  match w.part with
  | some p => if idx = 0x2208 || idx = 0x2209 then partIdx p idx else idx
  | none => idx

/-- CROSSED and LIVE of the watermarks (R498). -/
def wmBits (s : State) (idx sub : Nat) : Option Nat :=
  (List.range 8).findSome? fun id =>
    match wmObj id with
    | (i, _, c, l, _, _) =>
      if i = idx && sub = c then some (b2n (wmGet s id).crossed)
      else if i = idx && sub = l then some (b2n (wmGet s id).live)
      else none

def heldaCode : HeldaState → Nat
  | .off => 0 | .training => 1 | .negotiating => 2 | .active => 3 | .retrain => 4 | .down => 5 | .disabled => 6

def portStCode : PortState → Nat
  | .off => 0 | .training => 1 | .hello => 2 | .active => 3 | .retrain => 4 | .down => 5 | .disabled => 6

/-- The end of a Helda link that its objects show. -/
def shownEnd (s : State) (j : Nat) : HeldaEnd := endGet s ((linkEnds j).headD 0)

/-- HELDA_VERSION: the lowest version negotiated on links 0 to 7 (R340). -/
def heldaVersion (s : State) : Nat :=
  0x100 + ((List.range 8).filterMap fun j => ((shownEnd s j).commit).map (·.verMinor)).min?.getD 0

def vIdentity (s : State) (w : Who) (idx sub : Nat) : Option Nat :=
  if idx = 0x1000 then match sub with
    | 1 => some (if s.part.variant = .qx4 then 0 else 1)
    | 3 => some s.part.serial
    | 4 => some s.helda.featureSet
    | 5 => some backedBytes
    | 6 => some (b2n (s.carrak.idState == .held))
    | 7 => some (devId s)
    | _ => none
  else if idx = 0x1001 then match sub with
    | 1 => some (readyCode s.power.ready)
    | 2 => some s.power.readyTimeNs
    | 3 => some s.power.readyReason
    | 4 => some s.power.oos.toNat
    | _ => none
  else if idx = 0x1003 then
    (if sub ≤ 4 then some (sget 0 s.part.stepCdie (sub - 1))
     else if sub ≤ 8 then some (sget 0 s.part.stepBdie (sub - 5)) else some s.part.stepIod)
  else if idx = 0x1004 then some (if sub = 1 then s.helda.siteP.st else s.helda.siteP.reason)
  else if idx = 0x1008 then (if sub = 2 then some (allIdx s).length else none)
  else if idx = 0x1010 then (findSession s w.sid).map fun x =>
    match sub with
    | 1 => x.id
    | 2 => x.level
    | 3 => x.idleS
    | _ => b2n x.rspNotify
  else if idx = 0x1020 then match sub with
    | 1 => some s.dict.clampSeq
    | 2 => some s.dict.clampRecs.length
    | 3 => some s.dict.clampTotal
    | _ => none
  else none

def retCode : RetState → Nat
  | .active => 0 | .entering => 1 | .retained => 2 | .waking => 3

def homeCode : HomeState → Nat
  | .online => 0 | .quiescing => 1 | .offline => 2 | .lost => 3

/-- Cores, tile memory, network, Bezel and HBM (R112, R166, R217, R281, R306). -/
def vMemory (s : State) (idx sub : Nat) : Option Nat :=
  if idx = 0x2002 then some (secClock s (sub - 1))
  else if idx = 0x2102 then some (retCode (s.ret.get (sub - 1)))
  else if idx = 0x2300 then (if 4 ≤ sub && sub ≤ 7 then some (lathP s (sub - 4)) else none)
  else if idx = 0x2502 then
    (if sub ≤ 4 then some (homeCode (homeGet s (sub - 1)).st) else some (homeGet s (sub - 5)).epoch)
  else if idx = 0x2601 then
    (if sub ≤ 8 then some (i32 ((stackGet s (sub - 1)).temp.getD (-32768)))
     else if sub ≤ 16 then some (stackGet s (sub - 9)).step else none)
  else if idx = 0x2604 then
    (if sub = 1 then some s.hbm.redirect.length else if sub = 5 then some s.hbm.ppr.length else none)
  else if idx = 0x260A then
    (if sub ≤ 4 then some (deratedPeak s (sub - 1)) else if sub ≤ 8 then some (resFraction s (sub - 5)) else none)
  else none

/-- PORT_PEER (R375). -/
def peerWord (s : State) (p : Nat) : Nat :=
  match (portGet s p).peer with
  | some q => q.id + 256 * q.port + 65536 * (if q.idState = 2 then 1 else 0) + 131072
  | none => 0

/-- Helda, Carrak Link and the host (R340, R375, R405). -/
def vLinks (s : State) (idx sub : Nat) : Option Nat :=
  if idx = 0x2700 then some (if sub = 1 then (if s.part.variant = .qx4 then 8 else 9) else heldaVersion s)
  else if idx = 0x2701 then some (heldaCode (shownEnd s (sub - 1)).st)
  else if idx = 0x2702 then some (shownEnd s (sub - 1)).reason
  else if idx = 0x2705 then some (shownEnd s (sub - 1)).modules
  else if idx = 0x2707 then match sub with
    | 3 => some s.helda.siteP.coherence
    | 4 => some s.helda.siteP.vendor
    | 5 => some s.helda.siteP.product
    | 6 => some s.helda.siteP.stepping
    | 7 => some s.helda.siteP.version
    | _ => none
  else if idx = 0x2709 then
    (if sub ≤ 6 then some (i32 ((agentGet s (sub + 3)).temp.getD (-2147483648)))
     else if sub ≤ 12 then some (agentGet s (sub - 3)).grantMw else none)
  else if idx = 0x2801 then (if sub = 3 then some (idCode s.carrak.idState) else none)
  else if idx = 0x2802 then some (portStCode (portGet s (sub - 1)).st)
  else if idx = 0x2803 then some (portGet s (sub - 1)).reason
  else if idx = 0x2804 then some (peerWord s (sub - 1))
  else if idx = 0x2805 then some (portGet s (sub - 1)).lanes
  else if idx = 0x2808 then some (b2n (portGet s (sub - 1)).steward)
  else if idx = 0x280B then
    (if sub = 2 then some (s.carrak.routes.filter fun e => e.2.primary.isSome).length else none)
  else if idx = 0x2820 then
    (if sub = 1 then some (if s.carrak.craze.isSome then 1 else if crazeLocked s then 2 else 0) else none)
  else if idx = 0x2821 then some (s.carrak.crazeGrant.getD 0)
  else if idx = 0x2900 then match sub with
    | 1 => some s.host.gen
    | 2 => some s.host.width
    | 3 => some (b2n s.host.flit)
    | _ => some (b2n s.host.cxlActive)
  else if idx = 0x2902 then some (sget {} s.host.vfMap (sub - 1)).part
  else if idx = 0x2906 then
    (if sub = 1 then some (s.host.rings.filter fun e => e.2.st == .enabled).length else none)
  else none

def ctxCode : CtxState → Nat
  | .none => 0 | .idle => 1 | .ready => 2 | .running => 3 | .stopping => 4 | .faulted => 5 | .waiting => 6

def imageCode : ImageKind → Nat
  | .none => 0 | .context => 1 | .tile => 2 | .instruction => 3

/-- CTX_REMOTE_PENDING: requests of a context in flight to other devices (R483). -/
def remotePending (s : State) (c : Nat) : Nat :=
  let away := fun (g : Nat) => devOf g != devId s
  ((s.uc.slices.map fun e => (e.2.c.mshrs.filter fun m => m.ctx == c && away (lineAddr m.line)).length).sum) +
    (s.uc.once.filter fun o => o.ctx == c && away o.addr).length

/-- The partition that an index of 0x2C10 to 0x2C4F names, for a VF its own (R486). -/
def partOf (w : Who) (idx : Nat) : Nat := w.part.getD (idx - 0x2C10)

/-- Plans, Plumb and partitions (R433, R457, R486). -/
def vWork (s : State) (w : Who) (idx sub : Nat) : Option Nat :=
  if idx = 0x2A00 then
    (if 4 ≤ sub then some (64 - (s.lath.groups.filter fun e => e.1 / 64 == sub - 4).length) else none)
  else if idx = 0x2B01 then some (64 - plbShared s (sub - 1))
  else if idx = 0x2B03 then some (((List.range 4).map fun a => plbShare s a (sub - 1) * 256 ^ a).sum)
  else if baseIdx idx = 0x2C10 then
    let p := partOf w idx
    (if sub = 1 then some (match (partGet s p).st with
      | .none => 0 | .active => 1 | .changing => 2)
     else if sub = 3 then some ((partGet s p).running.getD 0xFFFF)
     else if 0x10 ≤ sub && sub ≤ 0x1F then
       let x := ctxGet s (16 * p + (sub - 0x10))
       some (ctxCode x.st + 8 * imageCode x.image + 32 * x.prio)
     else if 0x30 ≤ sub then some (remotePending s (16 * p + (sub - 0x30)))
     else none)
  else none

/-- LC_TRANSITIONS_LEFT: the last fuse entry is kept (R519, R526). -/
def transitionsLeft (s : State) : Nat := s.askar.sec.entriesLeft - 1

/-- Askar and the life cycle (R525, R526). -/
def vAskar (s : State) (w : Who) (idx sub : Nat) : Option Nat :=
  let f := s.askar.fw
  if idx = 0x2D00 then match sub with
    | 1 => some (fwVersion s f.running)
    | 2 => some s.askar.timeNs
    | 4 => some s.askar.lastRestart
    | 5 => some s.askar.bootCount
    | _ => none
  else if idx = 0x2D20 then match sub with
    | 1 => some ((s.askar.log.getLast?.map (·.seq)).getD 0)
    | 2 => some ((s.askar.log.head?.map (·.seq)).getD 0)
    | 5 => some s.askar.flash.length
    | _ => none
  else if idx = 0x2D21 then (findSession s w.sid).map fun x => if sub = 1 then x.logFrom else x.logSource
  else if idx = 0x2D28 then (if sub = 1 then some s.askar.alerts else none)
  else if idx = 0x2D2C then (if sub = 1 then some s.askar.fanDuty else none)
  else if idx = 0x2D30 then match sub with
    | 1 => some f.active
    | 2 => some (match f.st with
      | .idle => 0 | .staged => 1 | .verified => 2 | .trial => 3)
    | 3 => some f.reason
    | 4 => some (fwVersion s 0)
    | 5 => some (fwVersion s 1)
    | 6 => some f.rollback
    | _ => none
  else if idx = 0x2E00 then match sub with
    | 1 => some (lcCode s.askar.sec.lc)
    | 2 => some (transitionsLeft s)
    | 3 => some s.askar.sec.tamperLatch
    | _ => some s.askar.sec.tamperCount
  else none

/-- BURST_LEVEL: what the burst store holds of its capacity, in 0.01 % (R537, R553); a free value where the capacity is 0
(assumption 2). -/
def burstLevel (s : State) : Nat :=
  if storeCap s = 0 then Config.freeNat s.freeCtr % 10001 else min 10000 (s.power.store * 10000 / storeCap s)

/-- DOMAIN_STATE: a section whose domain is on and that is retained reads RETAINED (R162, R529). -/
def domCode (s : State) (d : Nat) : Nat :=
  match (domGet s d).st with
  | .off => 0 | .queued => 1 | .ramping => 2 | .paused => 3
  | .on => if d < 144 && s.ret.get d == .retained then 5 else 4
  | .retained => 5 | .latchedShort => 6 | .latchedSlow => 7

/-- Default of RAMP_STAGE_US and short threshold by class (R529). -/
def stageUs (s : State) (c : Nat) : Nat := num s 0x6F08 (c + 10) (([3, 5, 3, 4, 4, 3, 5, 3, 3] : List Nat).getD c 0)
def shortMa (s : State) (c : Nat) : Nat :=
  num s 0x6F07 (c + 1) (([40000, 60000, 30000, 40000, 30000, 30000, 60000, 20000, 20000] : List Nat).getD c 0)

/-- ERR_SEQ: the newest error record in the retention buffer (R569). -/
def errSeq (s : State) : Nat := (((s.askar.log.filter fun r => r.body.index == 0x3000).getLast?).map (·.seq)).getD 0

/-- Power, clocks, reset and errors (R553, R569). -/
def vPower (s : State) (idx sub : Nat) : Option Nat :=
  if idx = 0x2F01 then (if sub = 3 then some (burstLevel s) else none)
  else if idx = 0x2F02 then some (if sub ≤ 6 then agentSafe s (sub + 3) else agentMax s (sub - 3))
  else if idx = 0x2F03 then (if sub = 6 then some s.part.tripT else none)
  else if idx = 0x2F04 then
    (if sub ≤ 4 then some (b2n (cdieGet s (sub - 1)).clamp)
     else if sub ≤ 8 then some (cdieGet s (sub - 5)).vtLevel
     else if sub = 10 then some s.power.tripCount else none)
  else if idx = 0x2F05 then some (match railGet s (sub - 1) with
    | .off => 0 | .inRange => 1 | .fault => 2)
  else if idx = 0x2F06 then some (domCode s (sub - 1))
  else if idx = 0x2F07 then some (if sub = 10 then num s 0x6F07 10 20 else shortMa s (sub - 1))
  else if idx = 0x2F08 then some (num s 0x6F08 sub 8 * stageUs s (sub - 1))
  else if idx = 0x2F0B then
    (if sub ≤ 7 then some (sget 0 s.power.stageEntry sub)
     else if sub = 8 then some (b2n s.power.pins.pwrGood)
     else if sub = 9 then some s.power.resetCause else some (b2n s.power.testEn))
  else if idx = 0x2F0C then (if sub = 2 then some (b2n s.power.refclk) else none)
  else if idx = 0x3001 then (if sub = 1 then some (errSeq s) else none)
  else none

/-- A numeric value as it is computed from the state, where it is not one that the dictionary keeps. -/
def computed (s : State) (w : Who) (idx sub : Nat) : Option Nat :=
  match wmBits s idx sub with
  | some v => some v
  | none =>
    if idx < 0x2000 then vIdentity s w idx sub
    else if idx < 0x2700 then vMemory s idx sub
    else if idx < 0x2A00 then vLinks s idx sub
    else if idx < 0x2D00 then vWork s w idx sub
    else if idx < 0x2F00 then vAskar s w idx sub
    else vPower s idx sub

/-- The value of a numeric subindex that is no command's argument. -/
def numVal (s : State) (w : Who) (idx sub dflt : Nat) : Nat :=
  (computed s w idx sub).getD (num s (keepIdx w idx) sub dflt)

/-! ### Byte strings -/

/-- A power report (R491). -/
def reportBytes (r : PwrReport) : List Byte :=
  leBytes 4 r.peak100us ++ leBytes 4 r.peak1ms ++ leBytes 4 r.peak10ms ++ leBytes 4 r.peak1s ++ leBytes 4 r.avg1ms ++
  leBytes 4 r.avg1s ++ leBytes 4 r.avg60s

/-- A redirect entry (R293). -/
def redirectWord (r : Redirect) : Nat :=
  1 + 2 * b2n r.firmware + 4 * r.prio + 16 * r.span + 128 * b2n r.pending + 256 * r.bank + 4096 * r.row

/-- REDIRECT_TABLE of a stack: channel-major, 64 entries each (R306). -/
def redirectTable (s : State) (stack : Nat) : List Byte :=
  ((List.range 2048).map fun i =>
    leBytes 4 (((sfind s.hbm.redirect (2048 * stack + i)).map redirectWord).getD 0)).flatten

/-- ROUTE_TABLE: per ID, DIST, PRIMARY and ALT lowest port, FLAGS (R375). -/
def routeRow (s : State) (d : Nat) : List Byte :=
  if s.carrak.idState = .held && s.carrak.deviceId = d then [0, 0xFF, 0xFF, 1]
  else
    match sfind s.carrak.routes d with
    | some r => leBytes 1 r.dist ++ leBytes 1 (r.primary.getD 0xFF) ++ leBytes 1 (r.alt.getD 0xFF) ++
        leBytes 1 (2 * b2n r.deflecting)
    | none => [0xFF, 0xFF, 0xFF, 0]

/-- A reject record (R430). -/
def rejectBytes (r : RejectRec) : List Byte :=
  if r.valid then
    leBytes 2 r.ctx ++ leBytes 1 r.slot ++ leBytes 1 r.source ++ leBytes 2 r.reason ++ leBytes 2 r.variant ++
    leBytes 4 r.detail ++ leBytes 2 r.place ++ leBytes 1 r.kernel ++ leBytes 1 0
  else List.replicate 16 0

/-- A context fault record (R478). -/
def faultBytes (f : FaultRec) : List Byte :=
  if f.valid then
    leBytes 1 f.cause ++ leBytes 1 f.code ++ leBytes 2 f.core ++ leBytes 1 f.slot ++ leBytes 1 f.source ++
    leBytes 2 f.suppressed ++ leBytes 8 f.address ++ leBytes 8 f.timeNs ++ leBytes 8 f.pc
  else List.replicate 32 0

/-- A mask of sections: bit s of 144. -/
def sectionMask (l : List Nat) : List Byte := leBytes 18 ((l.map fun x => 2 ^ x).sum)

/-- An error record as a session sees it (R569): one of another partition reads as zero to a VF. -/
def errRecFor (w : Who) (b : List Byte) : List Byte :=
  if (isVf w.ep).isSome && w.part != some (field b 28 1) then List.replicate 32 0 else b

/-- A clamp record as a session sees it (R60). -/
def clampFor (w : Who) (e : Nat × List Byte) : List Byte :=
  if (isVf w.ep).isSome && e.1 != w.sid then List.replicate 32 0 else e.2

/-- What a STR, BLOB or SEAL subindex reads as. -/
def blobVal (s : State) (w : Who) (idx sub : Nat) : List Byte :=
  if idx = 0x1000 then s.part.partNumber.take 32
  else if idx = 0x1002 then ((List.range 36).map fun r =>
    let d := sget (0, 2) s.part.skip (36 * (sub - 1) + r)
    leBytes 1 d.1 ++ leBytes 1 d.2).flatten
  else if idx = 0x1020 then ((s.dict.clampRecs[sub - 0x10]?).map (clampFor w)).getD (List.replicate 32 0)
  else if idx = 0x2606 then redirectTable s (sub - 1)
  else if idx = 0x2609 then ((List.range 4).map fun b => leBytes 8 (resOf s (sub - 1) b)).flatten
  else if idx = 0x2809 then ((List.range 8).map fun i => leBytes 8 (sget 0 (portGet s (sub - 1)).counters i)).flatten
  else if idx = 0x280B then ((List.range 256).map (routeRow s)).flatten
  else if idx = 0x2A04 then rejectBytes (sget {} s.work.rejects (w.part.getD (sub - 1)))
  else if baseIdx idx = 0x2C10 then
    (if sub = 2 then sectionMask (partGet s (partOf w idx)).sections
     else faultBytes (ctxGet s (16 * partOf w idx + (sub - 0x20))).fault)
  else if idx = 0x2D08 then match sub with
    | 1 => ((List.range 224).map fun i => leBytes 2 (i32 (sget (-32768) s.askar.temps i))).flatten
    | 2 => ((List.range 48).map fun i => leBytes 2 (sget 0xFFFF s.askar.volts i)).flatten
    | _ => ((List.range 176).map fun i => leBytes 4 (sget 0xFFFFFFFF s.askar.currs i)).flatten
  else if idx = 0x2D10 then reportBytes (sget {} s.askar.pwr (sub - 1)).report
  else if idx = 0x2D11 then reportBytes (sget {} s.askar.pwrRail (sub - 1)).report
  else if idx = 0x2D12 then reportBytes (sget {} s.askar.pwrPart (w.part.getD (sub - 1))).report
  else if idx = 0x2D21 then ((findSession s w.sid).map (logRecords s)).getD []
  else if idx = 0x2E03 then
    (((if sub = 1 then s.askar.sec.owner else s.askar.sec.expert).map recordKey).getD (List.replicate 96 0))
  else if idx = 0x2E04 then sealDigest s (sub - 1)
  else if idx = 0x2E05 then match sub with
    | 2 => slice s.askar.sec.report 0 928
    | 3 => s.part.deviceIdCert.take 2048
    | _ => s.askar.sec.aliasCert.take 2048
  else if idx = 0x3002 then ((s.errs.recs[sub - 1]?).map (errRecFor w)).getD (List.replicate 32 0)
  else if idx = 0x6821 then
    (if s.carrak.crazeGrant.isSome then digestBytes (Config.sha384 s.carrak.crazeBytes) else List.replicate 48 0)
  else []

/-- The default of a command's argument (R586). -/
def argDefault (o : Obj) : List Byte := if isBlobTy o.ty then List.replicate o.mn 0 else leBytes (tySize o.ty) o.dflt

/-- A command's argument as the session last applied it (R586). -/
def argOf (s : State) (sid idx : Nat) (o : Obj) (sub : Nat) : List Byte :=
  ((findSession s sid).bind fun x => sfind x.args (256 * idx + sub)).getD (argDefault o)

/-- Read one subindex (R46): reading a nonce makes a fresh one (R53, R516). -/
def readSub (w : Who) (idx sub : Nat) (o : Obj) (s : State) : List Byte × State :=
  if idx = 0x1011 then
    let t := expertNonce w.sid s
    (t.dict.result.2, t)
  else if idx = 0x2E01 then
    let t := provNonce s
    (t.dict.result.2, t)
  else if o.acc = 4 then (argOf s w.sid idx o sub, s)
  else if isBlobTy o.ty then (blobVal s w idx sub, s)
  else (leBytes (tySize o.ty) (numVal s w idx sub o.dflt), s)

/-- Every subindex from 1 upward that a whole-object read covers (R66). -/
def readAll (w : Who) (idx : Nat) : List Nat → State → List Byte × State
  | [], s => ([], s)
  | sub :: t, s =>
    match objOf s idx sub with
    | some o =>
      if o.acc = 2 || o.acc = 5 then readAll w idx t s
      else
        let a := readSub w idx sub o s
        let b := readAll w idx t a.2
        ((if isBlobTy o.ty then leBytes 2 a.1.length ++ a.1 else a.1) ++ b.1, b.2)
    | none => readAll w idx t s

/-- Subindexes 1 to the highest. -/
def subsOf (s : State) (idx : Nat) : List Nat := (List.range (highSub s idx)).map (· + 1)

/-! ### Ranges (R57, R71, and the rules of each area) -/

/-- The lowest enabled value of a range with 0 for never (R45); 0 for the others. -/
def neverLo (idx sub : Nat) : Nat :=
  if idx = 0x2C02 && sub = 6 then 10 else if idx = 0x3001 && sub = 2 then 10
  else if idx = 0x6805 && sub = 2 then 10 else 0

/-- Minimum, maximum and step of a field; `val` gives the values of the object's other fields (R57, R98, R292, R303, R389,
R436, R526, R536, R542, R553). -/
def rangeOf (s : State) (w : Who) (idx sub : Nat) (o : Obj) (val : Nat → Nat) : Nat × Nat × Nat :=
  if idx = 0x2001 then (600, 1600, if num s 0x6001 1 0 = 1 then 5 else 25)
  else if idx = 0x2602 && 2 ≤ sub && sub ≤ 5 then (val (sub - 1) + 10, o.mx, 1)
  else if idx = 0x2605 && sub = 6 then (0, o.mx, 2 ^ val 4)
  else if idx = 0x2608 && 2 ≤ sub then (0, resMax s (val 1) (sub - 2), 1000000000)
  else if idx = 0x2B02 && 2 ≤ sub then (0, shareMax s (sub - 2) (val 1), 1)
  else if idx = 0x2903 && sub = 4 then (0, s.host.vfBar2Bytes, 65536)
  else if idx = 0x2905 && sub = 1 && (isVf w.ep).isSome then (0, 15, 1)
  else if idx = 0x2905 && sub = 7 && (isVf w.ep).isSome then (2, 15, 1)
  else if idx = 0x2D2C && sub = 3 then (val 2 + 10, 1050, 1)
  else if idx = 0x2F01 && sub = 1 then ((powerAgents s).map (agentSafe s)).sum |> fun m => (m, 1600000, 1000)
  else if idx = 0x2F01 && sub = 2 then (val 1, 2100000, 1000)
  else if idx = 0x2F03 && sub = 4 then (val 3 + 10, 1100, 1)
  else if idx = 0x6701 && sub = 1 then (0, if s.part.variant = .qx4 then 7 else 8, 1)
  else if idx = 0x6F08 && 10 ≤ sub then (1, 100 / val (sub - 9), 1)
  else if idx = 0x6E00 && sub = 1 then
    (0, if s.askar.sec.lc = .blank || s.askar.sec.lc = .rma then 15 else 0, 1)
  else (o.mn, o.mx, o.step)

/-- The table's default of a subindex; 0 where it is not listed. -/
def dfltOf (s : State) (idx sub : Nat) : Nat := ((objOf s idx sub).map (·.dflt)).getD 0

/-- The current value of a field: a command's argument or a kept value (R57, R586). -/
def curVal (s : State) (w : Who) (idx sub : Nat) : Nat :=
  match objOf s idx sub with
  | some o => if o.acc = 4 then leNat (argOf s w.sid idx o sub) else numVal s w idx sub o.dflt
  | none => 0

/-- A description record (R71). -/
def descRec (s : State) (w : Who) (idx sub : Nat) : List Byte :=
  if sub = 0 then
    leBytes 1 1 ++ leBytes 1 0 ++ leBytes 1 (idxLevel idx) ++ leBytes 1 0 ++ leBytes 4 1 ++ leBytes 8 (highSub s idx) ++
      leBytes 8 0 ++ leBytes 8 255
  else
    match objOf s idx sub with
    | none => List.replicate 32 0
    | some o =>
      let r := rangeOf s w idx sub o (curVal s w idx)
      leBytes 1 o.ty ++ leBytes 1 o.acc ++ leBytes 1 (idxLevel idx) ++ leBytes 1 o.unit ++
        leBytes 4 (if isBlobTy o.ty then o.mx else r.2.2) ++ leBytes 8 (if isBlobTy o.ty then 0 else o.dflt) ++
        leBytes 8 r.1 ++ leBytes 8 r.2.1

end Sys2Proof.Machine
end

