-- ==== Sys2Proof/Machine/DictWrite.lean ====
section
/-! DEFINITION. The object dictionary: clamping, writes, and the commands that CMD objects run (R45, R46, R56 to R63, R66,
R67, R586). -/
namespace Sys2Proof.Machine

/-! ### Clamping (R45) -/

/-- Clamp of an unsigned value: range, step (counted from 600 for a clock request, R98), and the form "0 (never)". -/
def clampU (mn mx step base never v : Nat) : Nat :=
  if 0 < never && v = 0 then 0
  else
    let lo := if 0 < never then never else mn
    let c := if v < lo then lo else if mx < v then mx else v
    base + (c - base) / step * step

/-- Clamp of a signed value, its bounds sign-extended to 64 bits. -/
def clampI (mn mx step v : Nat) : Nat :=
  let z := (BitVec.ofNat 32 v).toInt
  let lo := (BitVec.ofNat 32 mn).toInt
  let hi := (BitVec.ofNat 32 mx).toInt
  let c := if z < lo then lo else if hi < z then hi else z
  i32 (c.fdiv (step : Int) * (step : Int))

/-- The order of binary32 values other than NaN: sign and magnitude. -/
def f32Key (v : Nat) : Int := if v / 2 ^ 31 % 2 = 1 then -((v % 2 ^ 31 : Nat) : Int) else ((v % 2 ^ 31 : Nat) : Int)

/-- Clamp of a binary32 value: a NaN gives the default. -/
def clampF (mn mx dflt v : Nat) : Nat :=
  if 0x7F800000 < v % 2 ^ 31 then dflt
  else if f32Key v < f32Key mn then mn else if f32Key mx < f32Key v then mx else v

/-- A UTF-8 string without its bytes beyond a length, back to a whole character. -/
def clampStr (n : Nat) (b : List Byte) : List Byte :=
  if b.length ≤ n then b
  else ((b.take (n + 1)).reverse.dropWhile fun c => decide (128 ≤ c.toNat ∧ c.toNat < 192)).drop 1 |>.reverse

/-- A written value as it is applied; none for TYPE_MISMATCH. -/
def clampVal (o : Obj) (r : Nat × Nat × Nat) (never base : Nat) (b : List Byte) : Option (List Byte) :=
  let z := tySize o.ty
  let v := leNat b
  if o.ty = 11 then (if b.length < o.mn || (o.acc != 5 && o.mx < b.length) then none else some b)
  else if o.ty = 10 then some (clampStr o.mx b)
  else if b.length ≠ z then none
  else some (leBytes z (match o.ty with
    | 5 => clampI r.1 r.2.1 r.2.2 v
    | 6 => clampF r.1 r.2.1 o.dflt v
    | 7 => if v = 0 then 0 else 1
    | 8 => if v ≤ r.2.1 then v else o.dflt
    | 9 => v &&& r.2.1
    | _ => clampU r.1 r.2.1 r.2.2 base never v))

/-- One field of a write: as written and as applied. `auto` marks a threshold that the write raises (R292, R542). -/
structure Fld where
  sub : Nat
  obj : Obj
  raw : List Byte
  val : List Byte
  auto : Bool
  deriving DecidableEq, Repr

/-- The value of another field: of this write where it is in it and clamped already, else the current one (R57). -/
def fldVal (s : State) (w : Who) (idx : Nat) (l : List Fld) (sub : Nat) : Nat :=
  match l.find? fun f => f.sub == sub with
  | some f => leNat f.val
  | none => curVal s w idx sub

/-- Clamp fields in increasing order (R57). -/
def clampAll (s : State) (w : Who) (idx : Nat) : List (Nat × List Byte × Bool) → List Fld → List Fld
  | [], l => l
  | (sub, b, auto) :: t, l =>
    match objOf s idx sub with
    | none => clampAll s w idx t l
    | some o =>
      let r := rangeOf s w idx sub o (fldVal s w idx l)
      let v := (clampVal o r (neverLo idx sub) (if idx = 0x2001 then 600 else 0) b).getD b
      clampAll s w idx t (if auto && v == b then l else l ++ [⟨sub, o, b, v, auto⟩])

/-- Thresholds that a write of an earlier one can raise: they follow in their order (R292, R542). -/
def chain (idx : Nat) : List Nat :=
  if idx = 0x2602 then [1, 2, 3, 4, 5] else if idx = 0x2F03 then [3, 4] else []

/-- The fields of a write with the thresholds it may raise. -/
def withRaises (s : State) (w : Who) (idx : Nat) (l : List (Nat × List Byte)) : List (Nat × List Byte × Bool) :=
  let own := l.map fun f => (f.1, f.2, false)
  let more := ((chain idx).filter fun sub => !l.any fun f => f.1 == sub).map fun sub =>
    (sub, leBytes 2 (curVal s w idx sub), true)
  if l.any fun f => (chain idx).contains f.1 then
    (List.range 256).filterMap fun sub => (own ++ more).find? fun f => f.1 == sub
  else own

/-- REQUESTED and APPLIED of a clamp record (R60). -/
def recVal (o : Obj) (b : List Byte) : Nat := if o.ty = 10 then b.length else leNat b

/-- The clamp records of a write (R59). -/
def clampRecords (w : Who) (idx : Nat) (l : List Fld) (s : State) : State :=
  (l.filter fun f => f.raw != f.val).foldl (fun s f =>
    clampRecord idx f.sub f.obj.ty w.sid w.ep (recVal f.obj f.raw) (recVal f.obj f.val) s) s

/-! ### What a write is refused for (R46, R56, R58, R526) -/

/-- The endpoint may write SEAL objects (R56). -/
def sealEp : Endpoint → Bool
  | .pf _ => true
  | .i3c => true
  | _ => false

/-- The status that refuses one field. -/
def fieldFails (s : State) (w : Who) (idx sub : Nat) (b : List Byte) : Option Nat :=
  match objOf s idx sub with
  | none => some (if sub = 0 then 0x12 else 0x11)
  | some o =>
    if o.acc = 0 then some 0x12
    else if o.acc = 5 && !sealEp w.ep then some 0x12
    else if idx = 0x2E00 && w.level = 0 then some 0x13
    else if idx = 0x2E05 && s.askar.sec.lc = .decommissioned then some 0x12
    else if (clampVal o (rangeOf s w idx sub o (curVal s w idx)) 0 0 b).isNone then some 0x15
    else none

/-- The fields of a whole-object write, in order (R66); none where the length does not fit. -/
def splitFields (s : State) (idx : Nat) : List Nat → List Byte → Option (List (Nat × List Byte))
  | [], b => if b.isEmpty then some [] else none
  | sub :: t, b =>
    match objOf s idx sub with
    | none => splitFields s idx t b
    | some o =>
      if o.acc = 0 then splitFields s idx t b
      else
        let z := if isBlobTy o.ty then field b 0 2 else tySize o.ty
        let h := if isBlobTy o.ty then 2 else 0
        if b.length < h + z then none
        else (splitFields s idx t (b.drop (h + z))).map fun l => (sub, (b.drop h).take z) :: l

/-! ### Values that are kept -/

/-- Measure of a watermark now (R502). -/
def wmMeasure (s : State) (id : Nat) : Int :=
  match id with
  | 0 => landingHigh s
  | 1 => edgeHigh s
  | 2 => mshrHigh s
  | 3 => trackerHigh s
  | 4 => if (shortDies s).isEmpty then 0 else 1
  | 5 => txnHigh s
  | 6 => mean ((sget {} s.askar.pwr 0).samples.take 10)
  | _ => (hottest s).getD (-32768)

/-- Evaluate the watermarks that a write of an object touches (R500). -/
def wmRefresh (idx : Nat) (s : State) : State :=
  (List.range 8).foldl (fun s id =>
    match wmObj id with
    | (i, _, _, _, _, _) => if i = idx || idx = 0x2D18 then wmEval id (wmMeasure s id) s else s) s

/-- Clear CROSSED of a watermark by writing 1 (R498). -/
def wmClear (idx sub v : Nat) (s : State) : State :=
  (List.range 8).foldl (fun s id =>
    match wmObj id with
    | (i, _, c, _, _, _) =>
      if i = idx && c = sub && v = 1 then setWm id { wmGet s id with crossed := false } s else s) s

/-- Clear causes of ALERT_SOURCES; one whose condition persists latches again at once (R503). -/
def alertClear (v : Nat) (s : State) : State :=
  let a := (List.range 32).foldl (fun n b => if bit s.askar.alerts b && !bit v b then n + 2 ^ b else n) 0
  let s := driveAlert { s with askar := { s.askar with alerts := a } }
  if s.power.tripped then latchAlert 2 s else s

/-- Write a RW1C subindex. -/
def writeRw1c (idx sub v : Nat) (s : State) : State :=
  if idx = 0x2D28 then alertClear v s
  else if idx = 0x2E00 then onSec (fun c => { c with
    tamperLatch := (List.range 4).foldl (fun n b => if bit c.tamperLatch b && !bit v b then n + 2 ^ b else n) 0 }) s
  else wmClear idx sub v s

/-- Write a RW subindex: what else the write does is in its area's chapter. -/
def writeRw (w : Who) (idx sub v : Nat) (s : State) : State :=
  if idx = 0x1010 then
    modSession w.sid (fun x => if sub = 3 then { x with idleS := v } else { x with rspNotify := v == 1 }) s
  else if idx = 0x2D21 then
    modSession w.sid (fun x => if sub = 1 then { x with logFrom := v } else { x with logSource := v }) s
  else if idx = 0x6001 then freqFineStep v s
  else if idx = 0x2707 && sub = 1 then sitePEnable v s
  else if idx = 0x2001 then countSwitch s (setNum idx sub v s)
  else if idx = 0x2D28 then driveAlert (setNum idx sub v s)
  else setNum (keepIdx w idx) sub v s

/-- Write a SEAL subindex with a record (R374, R517). -/
def writeSeal (idx sub : Nat) (b : List Byte) (s : State) : State :=
  if idx = 0x2E04 then sealWrite (sub - 1) b s else crazeUnlock b s

/-- Apply one field that is no command's argument. -/
def applyField (w : Who) (idx : Nat) (f : Fld) (s : State) : State :=
  match f.obj.acc with
  | 1 => writeRw w idx f.sub (leNat f.val) s
  | 2 => fwImage 0 f.val true s
  | 3 => writeRw1c idx f.sub (leNat f.val) s
  | 5 => writeSeal idx f.sub f.val s
  | _ => s

/-! ### Commands -/

/-- The state after a command's meaning. -/
def after (o : Host.Outcome State Fault Refusal) (s : State) : State :=
  match o with
  | .next t => t
  | _ => finish 0x15 [] s

/-- A context that a VF does not own (R188, R242, R433, R464). -/
def notOwnCtx (w : Who) (c : Nat) : Bool :=
  match w.part with
  | some p => ctxPart c != p
  | none => false

/-- The function whose ring a RING_SETUP names: a VF's own, else the PF's (assumption 28). -/
def ringFn (w : Who) : Fn :=
  match w.ep with
  | .vf n => .vf n
  | _ => .pf

/-- Bits of an 18-byte mask of sections. -/
def maskList (b : List Byte) : List Nat := (List.range 144).filter fun x => bit (leNat b) x

/-- RING_SETUP (R389). -/
def cmdRing (w : Who) (n : Nat → Nat) (s : State) : State :=
  let ctx := match w.part with
    | some p => 16 * p + n 1
    | none => n 1
  if n 2 = 0 then
    ringEnable { ctx := ctx, fn := ringFn w, cmdBase := n 3, cmdLog2 := n 4, cplBase := n 5, cplLog2 := n 6, vector := n 7,
                 coalesceNs := n 8 } s
  else if ctxFn s ctx ≠ ringFn w then failed 2 s
  else ringDisable ctx s

/-- CTX_CMD (R464). -/
def cmdCtx (w : Who) (n : Nat → Nat) (desc : List Byte) (s : State) : State :=
  if (partGet s (ctxPart (n 1))).st = .none then failed 1 s
  else if notOwnCtx w (n 1) then failed 2 s
  else match n 2 with
    | 0 => ctxCreate (n 1) desc s
    | 1 => ctxDestroy (n 1) s
    | 2 => ctxUrgent (n 1) s
    | 3 => ctxPreempt (n 1) s
    | _ => ctxPriority (n 1) (n 4) s

/-- DIE_RESET; whether what is trained again recovers is a free value here (assumption 2). -/
def cmdDieReset (t : Nat) (s : State) : State :=
  let v := draw s
  dieReset t (v.1 % 2 == 1) v.2

/-- PORT and link control (R341, R376). -/
def cmdPort (p action : Nat) (s : State) : State :=
  match action with
  | 0 => after (execPortEnable p s) s
  | 1 => after (execPortDisable p s) s
  | _ => after (execPortRetrain p s) s

def cmdHelda (j action : Nat) (s : State) : State :=
  match action with
  | 0 => after (execHeldaLinkEnable j s) s
  | 1 => after (execHeldaLinkDisable j s) s
  | _ => after (execHeldaLinkRetrain j s) s

/-- FW_CMD (R508). -/
def cmdFw (action : Nat) (s : State) : State :=
  match action with
  | 0 => fwVerify s
  | 1 => fwActivate s
  | 2 => fwCommit s
  | _ => fwAbort s

/-- Commands of the basic areas up to HBM. -/
def runCmd1 (w : Who) (idx : Nat) (arg : Nat → List Byte) (s : State) : State :=
  let n := fun i => leNat (arg i)
  if idx = 0x1012 then expertAuth w.sid (arg 1) s
  else if idx = 0x1013 then expertLock w.sid (n 1) s
  else if idx = 0x2103 then (if n 2 = 0 then after (execRetWake (n 1) s) s else after (execRetRetain (n 1) s) s)
  else if idx = 0x2206 then
    (if notOwnCtx w (n 1) then failed 2 s else after (execXlatInval (n 1) (n 2) (65536 * n 3) s) s)
  else if idx = 0x2207 then
    (if notOwnCtx w (n 1) then failed 2 s else after (execWinUpdate (n 1) (n 2) (arg 3) s) s)
  else if idx = 0x2304 then after (execClsLoad (arg 1) s) s
  else if idx = 0x2305 then after (execClsEntry (n 1) (arg 2) s) s
  else if idx = 0x2408 then
    (if notOwnCtx w (n 1) then failed 2 s else after (execUcFlush (n 1) (n 2) s) s)
  else if idx = 0x2503 then
    (if n 2 = 0 then after (execHomeQuiesce (n 1) s) s else after (execHomeReturn (n 1) s) s)
  else if idx = 0x2605 then
    after (execRedirectAdd (n 1) (n 2) (n 3) (n 4) (n 5) (n 6 / 2 ^ n 4 * 2 ^ n 4) (n 7) s) s
  else if idx = 0x2608 then after (execReserve (n 1) [n 2, n 3, n 4, n 5] s) s
  else s

/-- Commands of the links, the host, plans, Plumb and partitions. -/
def runCmd2 (w : Who) (idx : Nat) (arg : Nat → List Byte) (s : State) : State :=
  let n := fun i => leNat (arg i)
  if idx = 0x2801 then
    (if n 4 = 0 then after (execIdClaim (num s 0x2801 1 1) (num s 0x2801 2 0) s) s else after (execIdRelease s) s)
  else if idx = 0x280A then after (execPortCounterClear (n 1) s) s
  else if idx = 0x280C then stewardCmd (n 1) (n 2 == 1) s
  else if idx = 0x2903 then vfMapOp (n 1) (n 2) (n 3) (n 4) s
  else if idx = 0x2905 then cmdRing w n s
  else if idx = 0x2A01 then
    (if notOwnCtx w (n 1) then failed 2 s else after (execPlanLoad (n 1) (n 2) (n 3) (n 4) s) s)
  else if idx = 0x2A02 then
    (if notOwnCtx w (n 1) then failed 2 s else after (execPlanUnload (n 1) (n 2) s) s)
  else if idx = 0x2B02 then after (execPlbShare (n 1) [n 2, n 3, n 4, n 5] s) s
  else if idx = 0x2C01 then
    (match n 2 with
     | 0 => partCreate (n 1) (maskList (arg 3)) s
     | 1 => partResize (n 1) (maskList (arg 3)) s
     | _ => partDestroy (n 1) s)
  else if idx = 0x2C02 then partPolicy (n 1) (n 2) (n 3) (n 4) (n 5) (n 6) s
  else if idx = 0x2C03 then cmdCtx w n (arg 3) s
  else s

/-- Commands of Askar, the life cycle, power and expert level. -/
def runCmd3 (idx : Nat) (arg : Nat → List Byte) (s : State) : State :=
  let n := fun i => leNat (arg i)
  if idx = 0x2D32 then cmdFw (n 1) s
  else if idx = 0x2E02 then lcRequest (arg 1) s
  else if idx = 0x2E03 then keyUpdate (arg 3) s
  else if idx = 0x2E05 then attestNonce (arg 1) s
  else if idx = 0x2F0A then cmdDieReset (n 1) s
  else if idx = 0x6701 then cmdHelda (n 1) (n 2) s
  else if idx = 0x6802 then cmdPort (n 1) (n 2) s
  else if idx = 0x6820 then
    (if n 8 = 0 then ok (crazeEnd s)
     else crazeStart { helda := n 1 == 1, index := n 2, dir := n 3, kinds := n 4, rateLog2 := n 5, seed := n 6,
                       durationMs := n 7 } s)
  else if idx = 0x6D00 then (if n 1 = 1 then askarRestart s else ok s)
  else if idx = 0x6F09 then domainClear (n 1) s
  else if idx = 0x7000 then (if n 5 = 1 then eiRun (n 1) (n 2) (n 3) (n 4) s else ok s)
  else s

/-- Run the command of a CMD object; its result is the dictionary's. -/
def runObject (w : Who) (idx : Nat) (arg : Nat → List Byte) (s : State) : State :=
  if idx < 0x2700 then runCmd1 w idx arg s
  else if idx < 0x2D00 then runCmd2 w idx arg s
  else runCmd3 idx arg s

/-- Commands that answer IN_PROGRESS once they are accepted (R275, R369, R389, R421, R459, R520, R549). -/
def isSlow (s : State) (w : Who) (idx : Nat) (n : Nat → Nat) : Bool :=
  let ctx := match w.part with
    | some p => 16 * p + n 1
    | none => n 1
  idx == 0x2C01 || idx == 0x2E02 || idx == 0x2F0A || idx == 0x2A01 || idx == 0x280C || (idx == 0x2503 && n 2 == 0) ||
    (idx == 0x2905 && n 2 == 1 && (ringGet s ctx).st != .disabled)

/-! ### A write as a whole (R57 to R59, R63, R67) -/

/-- The clamp summary (R59). -/
def clampSummary (first count : Nat) : List Byte := leBytes 4 first ++ leBytes 1 count ++ leBytes 3 0

/-- Set the argument values a session last applied (R586). -/
def keepArgs (sid idx : Nat) (l : List (Nat × List Byte)) (s : State) : State :=
  modSession sid (fun x => { x with args := l.foldl (fun m a => sput m (256 * idx + a.1) a.2) x.args }) s

/-- A value for a running command's final response. -/
def setRunning (r : Running) (status : Nat) (payload : List Byte) (s : State) : State :=
  let f := fun (y : Running) => if y.session = r.session && y.tag = r.tag then { y with status := status, payload := payload } else y
  { s with dict := { s.dict with
    sessions := s.dict.sessions.map fun x => { x with running := x.running.map f }
    orphans := s.dict.orphans.map f } }

/-- The running command is over at once. -/
def dropRunning (r : Running) (s : State) : State :=
  { s with dict := { s.dict with
    sessions := s.dict.sessions.map fun x => if x.id = r.session then { x with running := none } else x
    orphans := s.dict.orphans.filter fun y => !(y.session == r.session && y.tag == r.tag) } }

/-- A command is accepted by the session that runs it: it is outstanding until it ends (R48, R63, R70). -/
def cmdBegin (r : Running) (s : State) : State := modSession r.session (fun x => { x with running := some r }) s

/-- Run a command that may answer IN_PROGRESS: 3 of DIE_RESET comes after it (R549). -/
def runSlow (w : Who) (r : Running) (idx : Nat) (arg : Nat → List Byte) (s : State) : State :=
  let t := runObject w idx arg (cmdBegin r s)
  let res := t.dict.result
  let held := fun (t : State) => inProgress { t with dict := { t.dict with busy := sput t.dict.busy idx w.sid } }
  if res.1 = 0 || res.1 = 2 then held t
  else if idx = 0x2F0A && res = (0x23, leBytes 2 3) then held (setRunning r 0x23 (leBytes 2 3) t)
  else dropRunning r t

/-- Apply the clamped fields of a write. `r` is how its command would be reported. -/
def applyFields (w : Who) (idx : Nat) (l : List Fld) (r : Running) (s : State) : State :=
  let cmds := l.filter fun f => f.obj.acc == 4
  let rest := l.filter fun f => f.obj.acc != 4
  let t := wmRefresh idx (rest.foldl (fun s f => applyField w idx f s) (ok s))
  if cmds.isEmpty then t
  else
    let args := ((subsOf s idx).filterMap fun sub => (objOf s idx sub).bind fun o =>
      if o.acc = 4 then
        some (sub, ((cmds.find? fun f => f.sub == sub).map (·.val)).getD (argOf s w.sid idx o sub))
      else none)
    let arg := fun i => ((args.find? fun a => a.1 == i).map (·.2)).getD []
    let u := keepArgs w.sid idx args
      (if isSlow t w idx (fun i => leNat (arg i)) then runSlow w r idx arg t else runObject w idx arg t)
    if u.dict.result.1 ≤ 2 then u
    else rest.foldl (fun v f => setNum (keepIdx w idx) f.sub (num s (keepIdx w idx) f.sub f.obj.dflt) v) u

/-- A write of some fields of one object: the status and payload of its response are the dictionary's result. -/
def writeFields (w : Who) (idx : Nat) (l : List (Nat × List Byte)) (r : Running) (s : State) : State :=
  match l.findSome? fun f => fieldFails s w idx f.1 f.2 with
  | some st => finish st [] s
  | none =>
    let isCmd := l.any fun f => ((objOf s idx f.1).map fun o => o.acc == 4).getD false
    if isCmd && (sfind s.dict.busy idx).isSome then finish 0x19 [] s
    else if idx = 0x2E04 && 1 < l.length then authFailed s
    else
      let fs := clampAll s w idx (withRaises s w idx l) []
      let n := (fs.filter fun f => f.raw != f.val).length
      let sum := clampSummary ((s.dict.clampSeq + 1) % 2 ^ 32) n
      let r := if n = 0 then r else { r with status := 1, payload := sum }
      let t := applyFields w idx fs r (clampRecords w idx fs s)
      if t.dict.result.1 = 0 && 0 < n then finish 1 sum t else t

/-- WRITE of one subindex or of the whole object, every check of R585 but the first done here. -/
def writeReq (w : Who) (idx sub : Nat) (whole : Bool) (b : List Byte) (r : Running) (s : State) : State :=
  match objFails s w idx with
  | some st => finish st [] s
  | none =>
    if whole then
      match splitFields s idx (subsOf s idx) b with
      | some l => writeFields w idx l r s
      | none => finish 0x15 [] s
    else writeFields w idx [(sub, b)] r s

/-! ### Segmented writes (R69) -/

/-- Drop what a session has staged. -/
def unstage (sid : Nat) (s : State) : State := modSession sid (fun x => { x with staging := none }) s

/-- The bytes staged so far for an object; the slot holds those of a firmware image (R508). -/
def stagedBytes (s : State) (x : Session) (idx sub : Nat) : List Byte :=
  match x.staging with
  | some g =>
    if g.index = idx && g.sub = sub then
      (if idx = 0x2D31 then fwSlot s.askar.fw (inactiveSlot s.askar.fw) else g.bytes) else []
  | none => []

/-- Stage a segment that fits. -/
def stage (sid idx sub : Nat) (b : List Byte) (s : State) : State :=
  ok (modSession sid (fun x => { x with staging := some { index := idx, sub := sub, bytes := b, at_ := time s } }) s)

/-- WRITE_SEG. -/
def writeSegReq (w : Who) (idx sub : Nat) (whole last : Bool) (off : Nat) (data : List Byte) (r : Running) (s : State) :
    State :=
  match objFails s w idx, findSession s w.sid with
  | some st, _ => finish st [] s
  | none, none => finish 0x17 [] s
  | none, some x =>
    if whole then finish 0x15 [] s
    else
      match objOf s idx sub with
      | none => finish (if sub = 0 then 0x15 else 0x11) [] s
      | some o =>
        if o.acc = 0 || (o.acc = 5 && !sealEp w.ep) then finish 0x12 [] s
        else if o.ty ≠ 11 then finish 0x15 [] s
        else
          let other := match x.staging with
            | some g => g.index != idx || g.sub != sub
            | none => false
          let cur := stagedBytes s x idx sub
          let mx := if o.acc = 5 then 16672 else o.mx
          if other || off ≠ cur.length then finish 0x1A [] (unstage w.sid s)
          else if mx < off + data.length then finish 0x15 [] (unstage w.sid s)
          else if idx = 0x2D31 then
            let t := fwImage off data last s
            if t.dict.result.1 = 0 && !last then stage w.sid idx sub [] t else unstage w.sid t
          else if last then writeFields w idx [(sub, cur ++ data)] r (unstage w.sid s)
          else stage w.sid idx sub (cur ++ data) s

end Sys2Proof.Machine
end

