-- ==== Sys2Proof/Machine/DictServe.lean ====
section
/-! DEFINITION. The object dictionary: how requests arrive, are checked and answered (R48, R49, R62 to R79, R585), and the
rows of its operations and transports. -/
namespace Sys2Proof.Machine

/-! ### Answers -/

/-- Send an answer; over Carrak Link it is a DICT message (R75). -/
def answer (ep : Endpoint) (mac : Nat) (notify : Bool) (b : List Byte) (s : State) : State :=
  match ep with
  | .carrak d => linkSend none (ctlPkt s d 1 false b) (deliver ep mac notify b s)
  | _ => deliver ep mac notify b s

/-- RSP_NOTIFY of the session that an answer names, if it is live at this endpoint (R72). -/
def notifyOf (s : State) (ep : Endpoint) (sid : Nat) : Bool :=
  match findSession s sid with
  | some x => if sameEp x.ep ep then x.rspNotify else true
  | none => true

/-- Answer a request. -/
def respond (a : Arrived) (h : Header) (sid flags status : Nat) (payload : List Byte) (s : State) : State :=
  answer a.ep a.mac (notifyOf s a.ep sid) (dictMsg h.opcode flags status sid h.tag h.index h.sub payload)
    (finish status payload s)

/-- A message-format fault (R65, R67). `got` is the number of payload bytes delivered. -/
def badMessage (h : Header) (got : Nat) : Bool :=
  decide (h.opcode = 0) || decide (8 < h.opcode) || decide (8 ≤ h.flags) || h.status != 0 ||
  (bit h.flags 0 && h.sub != 0) || h.res11 != 0 || h.res14 != 0 || decide (1024 < h.length) || h.length != got ||
  (([1, 2, 3, 7, 8] : List Nat).contains h.opcode && h.length != 0) || (h.opcode == 5 && h.length != 4) ||
  (h.opcode == 6 && decide (h.length < 4))

/-! ### Reads (R46, R65, R66, R69, R71) -/

/-- READ: status and payload in the result. -/
def readReq (w : Who) (h : Header) (s : State) : State :=
  let whole := bit h.flags 0
  let desc := bit h.flags 2
  match objFails s w h.index with
  | some st => finish st [] s
  | none =>
    if whole && desc then
      (if 32 < highSub s h.index then finish 0x15 [] s
       else finish 0 ((subsOf s h.index).map (descRec s w h.index)).flatten s)
    else if whole then
      let r := readAll w h.index (subsOf s h.index) s
      if 1024 < r.1.length then finish 0x15 [] s else finish 0 r.1 r.2
    else
      match objOf s h.index h.sub with
      | none =>
        if h.sub = 0 then finish 0 (if desc then descRec s w h.index 0 else leBytes 1 (highSub s h.index)) s
        else finish 0x11 [] s
      | some o =>
        if desc then finish 0 (descRec s w h.index h.sub) s
        else if o.acc = 2 then finish 0x12 [] s
        else
          let r := readSub w h.index h.sub o s
          if 1024 < r.1.length then finish 0x15 [] s else finish 0 r.1 r.2

/-- READ_SEG: the payload, and whether LAST is set. -/
def readSegReq (w : Who) (h : Header) (s : State) : Bool × State :=
  match objFails s w h.index with
  | some st => (false, finish st [] s)
  | none =>
    if bit h.flags 0 then (false, finish 0x15 [] s)
    else
      match objOf s h.index h.sub with
      | none => (false, finish (if h.sub = 0 then 0x15 else 0x11) [] s)
      | some o =>
        if o.acc = 2 then (false, finish 0x12 [] s)
        else if o.ty ≠ 11 then (false, finish 0x15 [] s)
        else
          let r := readSub w h.index h.sub o s
          let off := field h.payload 0 4
          if r.1.length < off then (false, finish 0x1A [] s)
          else (decide (r.1.length ≤ off + 1020), finish 0 (leBytes 4 off ++ (r.1.drop off).take 1020) r.2)

/-- ENUMERATE. -/
def enumReq (w : Who) (h : Header) (s : State) : State :=
  match nextIdx s w h.index with
  | some i => finish 0 (leBytes 2 i ++ leBytes 1 (highSub s i) ++ leBytes 1 0) s
  | none => finish 0x10 [] s

/-! ### Requests in a session (R48, R70) -/

/-- A write names a CMD object, so POLL can name it. -/
def isCmdIdx (s : State) (idx : Nat) : Bool := (subsOf s idx).any fun sub => ((objOf s idx sub).map fun o => o.acc == 4).getD false

/-- Execute a request of a session: what its response's FLAGS are, and the state with its result. -/
def execReq (w : Who) (h : Header) (s : State) : Nat × State :=
  let r : Running := { tag := h.tag, opcode := h.opcode, flags := h.flags, index := h.index, sub := h.sub, session := w.sid,
                       ep := w.ep, status := 0, payload := [] }
  let last := bit h.flags 1
  let bare := h.flags - (if last then 2 else 0)
  if h.opcode = 3 then (h.flags, readReq w h s)
  else if h.opcode = 4 then (h.flags, writeReq w h.index h.sub (bit h.flags 0) h.payload r s)
  else if h.opcode = 5 then
    let t := readSegReq w h s
    (bare + (if t.1 then 2 else 0), t.2)
  else if h.opcode = 6 then
    (h.flags, writeSegReq w h.index h.sub (bit h.flags 0) last (field h.payload 0 4) (h.payload.drop 4) r s)
  else (h.flags, enumReq w h s)

/-- Execute and answer; a final response is stored, IN_PROGRESS leaves the request outstanding (R70). -/
def runReq (a : Arrived) (w : Who) (h : Header) (s : State) : State :=
  let e := execReq w h s
  let res := e.2.dict.result
  let cmd := (h.opcode == 4 || h.opcode == 6) && isCmdIdx s h.index
  let l : Stored := ⟨h.tag, h.opcode, h.index, h.sub, cmd, res.1, e.1, res.2⟩
  let t := if res.1 = 2 then e.2 else modSession w.sid (fun x => { x with last := some l }) e.2
  respond a h w.sid e.1 res.1 res.2 t

/-- POLL (R70). -/
def pollReq (a : Arrived) (x : Session) (h : Header) (s : State) : State :=
  match x.running, x.last with
  | some r, _ => if r.tag = h.tag then respond a h x.id h.flags 2 [] s else respond a h x.id h.flags 0x16 [] s
  | none, some l =>
    if l.cmd && l.tag = h.tag then respond a h x.id l.flags l.status l.payload s
    else respond a h x.id h.flags 0x16 [] s
  | none, none => respond a h x.id h.flags 0x16 [] s

/-- A request that carries the ID of a live session of its endpoint. -/
def sessionReq (a : Arrived) (x : Session) (h : Header) (s : State) : State :=
  let s := modSession x.id (fun y => { y with lastAt := time s }) s
  if h.opcode = 7 then pollReq a x h s
  else if h.opcode = 2 then respond a h x.id h.flags 0 [] (closeSession x.id s)
  else
    match x.running with
    | some r =>
      respond a h x.id h.flags (if r.tag = h.tag && r.opcode = h.opcode then 2 else 0x19) [] s
    | none =>
      match x.last with
      | some l =>
        if l.tag = h.tag && l.opcode = h.opcode then
          answer a.ep a.mac x.rspNotify (dictMsg l.opcode l.flags l.status x.id l.tag l.index l.sub l.payload)
            (finish l.status l.payload s)
        else runReq a (whoOf s a.ep x.id) h s
      | none => runReq a (whoOf s a.ep x.id) h s

/-- OPEN (R48, R50). -/
def openReq (a : Arrived) (h : Header) (s : State) : State :=
  match openAt a.ep s with
  | some t => respond a h t.1 h.flags 0 [] t.2
  | none => respond a h h.session h.flags 0x18 [] s

/-- A sessionless READ (R49). -/
def bareReq (a : Arrived) (h : Header) (s : State) : State :=
  let t := readReq (whoOf s a.ep 0xFFFF) h s
  respond a h 0xFFFF h.flags t.dict.result.1 t.dict.result.2 t

/-- A request that Askar executes (R585): the session first. -/
def askarReq (a : Arrived) (h : Header) (s : State) : State :=
  if h.opcode = 1 then openReq a h s
  else if h.session = 0xFFFF then
    (if h.opcode = 3 && decide (0x1000 ≤ h.index ∧ h.index ≤ 0x100F) then bareReq a h s
     else respond a h 0xFFFF h.flags 0x17 [] s)
  else
    match findSession s h.session with
    | some x => if sameEp x.ep a.ep then sessionReq a x h s else respond a h h.session h.flags 0x17 [] s
    | none => respond a h h.session h.flags 0x17 [] s

/-- What the ROM serves in recovery beside the identity copy: the firmware objects on the PF window and I3C (R507). -/
def recoveryServes (a : Arrived) (h : Header) : Bool :=
  sealEp a.ep && (([1, 2, 7] : List Nat).contains h.opcode || decide (0x2D30 ≤ h.index ∧ h.index ≤ 0x2D32))

/-- The front end's answer while Askar does not serve (R76, R507). -/
def frontReq (a : Arrived) (h : Header) (s : State) : State :=
  if h.opcode = 3 && h.session = 0xFFFF && decide (0x1000 ≤ h.index ∧ h.index ≤ 0x1008) then bareReq a h s
  else if s.askar.run = .recovery && recoveryServes a h then askarReq a h s
  else respond a h h.session h.flags (busyStatus s) [] s

/-- An ignored message: counted, and its mailbox takes the next doorbell (R72, R78). -/
def ignoreReq (ep : Endpoint) (sub : Nat) (s : State) : State :=
  let s := ignored 0x1030 sub s
  match mailboxKey ep with
  | some k => setMailbox k { mailboxGet s k with reqPending := false } s
  | none => s

/-- Serve one request: ignored inputs and message-format faults come before every check (R585). -/
def serveOne (a : Arrived) (s : State) : State :=
  match ignoredMsg a.bytes with
  | some sub => ignoreReq a.ep sub s
  | none =>
    let h := header a.bytes
    if badMessage h h.payload.length then respond a h h.session h.flags 0x16 [] s
    else if s.askar.run = .serving then askarReq a h s
    else frontReq a h s

/-- Serve what waits, in order of arrival (R62). -/
def serveAll : Nat → State → State
  | 0, s => s
  | n + 1, s =>
    match s.dict.waiting with
    | [] => s
    | a :: t => serveAll n (serveOne a { s with dict := { s.dict with waiting := t } })

/-- A request arrives and is served after those that wait (R62). -/
def arrive (a : Arrived) (s : State) : State :=
  let s := { s with dict := { s.dict with waiting := s.dict.waiting ++ [a] } }
  serveAll (s.dict.waiting.length + 1) s

/-- A request whose header is well formed, as its message (R64). -/
def reqBytes (opcode : Nat) (r : Req) : List Byte :=
  leBytes 1 1 ++ leBytes 1 opcode ++ leBytes 1 (b2n r.whole + 2 * b2n r.last + 4 * b2n r.desc) ++ leBytes 1 0 ++
  leBytes 2 r.session ++ leBytes 2 r.tag ++ leBytes 2 r.index ++ leBytes 1 r.sub ++ leBytes 1 0 ++
  leBytes 2 r.payload.length ++ leBytes 2 0 ++ r.payload

/-- An endpoint that the device has. -/
def epExists : Endpoint → Bool
  | .pf m => decide (m < 8)
  | .vf n => decide (n < 64)
  | .carrak d => decide (d < 256)
  | _ => true

/-- A request with an opcode of R65. -/
def reqRow (opcode : Nat) (ep : Endpoint) (r : Req) (s : State) : Host.Outcome State Fault Refusal :=
  if epExists ep then .next (arrive ⟨ep, 0, false, reqBytes opcode r⟩ s) else .refused .illFormed

def execOpenSession (ep : Endpoint) (r : Req) (s : State) : Host.Outcome State Fault Refusal := reqRow 1 ep r s
def execClose (ep : Endpoint) (r : Req) (s : State) : Host.Outcome State Fault Refusal := reqRow 2 ep r s
def execRead (ep : Endpoint) (r : Req) (s : State) : Host.Outcome State Fault Refusal := reqRow 3 ep r s
def execWrite (ep : Endpoint) (r : Req) (s : State) : Host.Outcome State Fault Refusal := reqRow 4 ep r s
def execReadSeg (ep : Endpoint) (r : Req) (s : State) : Host.Outcome State Fault Refusal := reqRow 5 ep r s
def execWriteSeg (ep : Endpoint) (r : Req) (s : State) : Host.Outcome State Fault Refusal := reqRow 6 ep r s
def execPoll (ep : Endpoint) (r : Req) (s : State) : Host.Outcome State Fault Refusal := reqRow 7 ep r s
def execEnumerate (ep : Endpoint) (r : Req) (s : State) : Host.Outcome State Fault Refusal := reqRow 8 ep r s

/-! ### Transports (R72 to R75) -/

/-- The message in a mailbox's request buffer: LENGTH says how much of it is the request (R72). -/
def mailboxMsg (s : State) (k : Nat) : List Byte :=
  let b := memReadN (mailboxGet s k).req 0 1040
  b.take (16 + min 1024 (field b 12 2))

/-- MBX_DOORBELL (R72, R78): `answered` where Askar takes the request up at once; otherwise it waits. -/
def mbxDoorbell (ep : Endpoint) (k : Nat) (answered : Bool) (s : State) : State :=
  if (mailboxGet s k).reqPending then ignored 0x1030 5 s
  else
    let a : Arrived := ⟨ep, 0, false, mailboxMsg s k⟩
    let s := setMailbox k { mailboxGet s k with reqPending := true } s
    if answered || s.askar.run != .serving then arrive a s
    else { s with dict := { s.dict with waiting := s.dict.waiting ++ [a] } }

def execMbxDoorbell (ep : Endpoint) (answered : Bool) (s : State) : Host.Outcome State Fault Refusal :=
  match mailboxKey ep with
  | some k => if epExists ep then .next (mbxDoorbell ep k answered s) else .refused .illFormed
  | none => .refused .illFormed

/-- The internal mailbox of the control cores (R62). -/
def execCcMailboxDoorbell (bytes : List Byte) (s : State) : Host.Outcome State Fault Refusal :=
  .next (arrive ⟨.cc, 0, false, bytes⟩ s)

/-- The device's MAC address: 0x02 and the low 40 bits of SERIAL (R73). -/
def deviceMac (s : State) : Nat := 2 ^ 41 + s.part.serial % 2 ^ 40

/-- The message of a frame, without its padding (R65, R73). -/
def frameMsg (b : List Byte) : List Byte := if 16 ≤ b.length then b.take (16 + field b 12 2) else b

/-- A sessionless READ (R49). -/
def isBareRead (b : List Byte) : Bool :=
  decide (16 ≤ b.length) && field b 1 1 == 3 && field b 4 2 == 0xFFFF

/-- T1S_FRAME (R73, R78). -/
def t1sFrame (f : T1sFrame) (s : State) : State :=
  let all := f.dst == 2 ^ 48 - 1
  if f.etherType ≠ 0x88B5 || !(all || f.dst == deviceMac s) then s
  else if f.protoId ≠ 0xB1A5 then ignored 0x1030 4 s
  else if all && !isBareRead f.body then s
  else arrive ⟨.t1s, f.src, all, frameMsg f.body⟩ s

def execT1sFrame (f : T1sFrame) (s : State) : Host.Outcome State Fault Refusal := .next (t1sFrame f s)

/-- I3C_PRIVATE_WRITE: one request, while the target has its dynamic address (R74). -/
def execI3cPrivateWrite (bytes : List Byte) (s : State) : Host.Outcome State Fault Refusal :=
  .next (if s.dict.i3c.dynAddr.isSome then arrive ⟨.i3c, 0, false, bytes⟩ s else s)

/-- A dictionary request leaves for another device; where it cannot be reached the request is answered REMOTE_LOST (R75,
assumption 28). -/
def dictSend (device : Nat) (bytes : List Byte) (s : State) : State :=
  let r : RemoteReq := { device := device, head := bytes.take 16 }
  let s := { s with carrak := { s.carrak with remoteReqs := s.carrak.remoteReqs ++ [r] } }
  if canReach s device then linkSend none (ctlPkt s device 1 false bytes) s else dictPathLost device s

/-- A DICT message arrives: the response to a request of this device, or a request of another (R75, R78). -/
def dictArrive (device : Nat) (bytes : List Byte) (s : State) : State :=
  match s.carrak.remoteReqs.find? fun r =>
      r.device == device && field r.head 6 2 == field bytes 6 2 && decide (field bytes 1 1 = 128 + field r.head 1 1) with
  | some r =>
    if 16 ≤ bytes.length then
      deliver .cc 0 true bytes { s with carrak := { s.carrak with remoteReqs := s.carrak.remoteReqs.erase r } }
    else arrive ⟨.carrak device, 0, false, bytes⟩ s
  | none => arrive ⟨.carrak device, 0, false, bytes⟩ s

def execDict (outgoing : Bool) (device : Nat) (bytes : List Byte) (s : State) : Host.Outcome State Fault Refusal :=
  if 256 ≤ device then .refused .illFormed
  else .next (if outgoing then dictSend device bytes s else dictArrive device bytes s)

end Sys2Proof.Machine
end

