-- ==== Sys2Proof/Machine/Bar0.lean ====
section
/-! DEFINITION. BAR0: doorbell pages, mailboxes, the MSI-X table and the pending bits (R72, R382 to R384, R397, R404). -/
namespace Sys2Proof.Machine

/-- What a BAR0 offset names (R382, R383): a register of a context's doorbell page, of a mailbox, of a table entry, a
pending-bit word. -/
inductive Bar0Reg
  | page (ctx off : Nat)
  | box (ep : Endpoint) (off : Nat)
  | msix (vector off : Nat)
  | pba (word : Nat)
  | reserved
  deriving DecidableEq, Repr

/-- The size of BAR0 (R382, R383). -/
def bar0Bytes : Fn → Nat
  | .pf => 2 ^ 23
  | .vf _ => 2 ^ 17

/-- The map of BAR0. A VF's pages are those of the context slots of the partition that it drives; of one that drives none they
belong to no context (1,024 and above). -/
def bar0Reg (s : State) : Fn → Nat → Bar0Reg
  | .pf, o =>
    if o < 0x400000 then .page (o / 4096) (o % 4096)
    else if o < 0x408000 then .box (.pf ((o - 0x400000) / 4096)) (o % 4096)
    else if 0x410000 ≤ o && o < 0x414000 then .msix ((o - 0x410000) / 16) (o % 16)
    else if 0x418000 ≤ o && o < 0x418080 then .pba (o - 0x418000)
    else .reserved
  | .vf n, o =>
    if o < 0x10000 then .page (16 * (sget {} s.host.vfMap n).part + o / 4096) (o % 4096)
    else if o < 0x11000 then .box (.vf n) (o % 4096)
    else if o < 0x11100 then .msix ((o - 0x11000) / 16) (o % 16)
    else if 0x11800 ≤ o && o < 0x11808 then .pba (o - 0x11800)
    else .reserved

/-- Accepted accesses are aligned ones of 4 or 8 bytes (R384). -/
def bar0Aligned (off size : Nat) : Bool := (size == 4 || size == 8) && off % size == 0

/-- STATE, CPL_FULL and CMD_HEAD of a doorbell page (R384). -/
def pageStatus (r : Ring) : Nat :=
  (match r.st with
   | .disabled => 0
   | .enabled => 1
   | .halted => 2) + 4 * b2n (cplFull r) + 65536 * (r.cmdHead % 4096)

/-- MBX_STATUS (R72). -/
def mbxStatus (m : Mailbox) : Nat := b2n m.reqPending + 2 * b2n m.rspReady

/-- The 16 bytes of an MSI-X table entry: address, data, vector control. -/
def msixBytes (e : MsixEntry) : List Byte := leBytes 8 e.addr ++ leBytes 4 e.data ++ leBytes 4 (b2n e.masked)

/-- The bytes a read answers; none where the access is one that is ignored (R384). -/
def bar0Read (s : State) (fn : Fn) (off size : Nat) : Option (List Byte) :=
  match bar0Reg s fn off with
  | .page c o => if o = 16 then some (leBytes size (pageStatus (ringGet s c))) else none
  | .box ep o =>
    match mailboxKey ep with
    | none => none
    | some k =>
      let m := mailboxGet s k
      if o < 0x410 then some (memReadN m.req o size)
      else if 0x800 ≤ o && o < 0xC10 then some (slice m.rsp (o - 0x800) size)
      else if o = 0xF04 then some (leBytes size (mbxStatus m))
      else none
  | .msix v o => some (slice (msixBytes (msixGet s fn v)) o size)
  | .pba w =>
    let pend := (List.range (8 * size)).foldl (fun a i =>
      a + (if (msixGet s fn (8 * w + i)).pending then 2 ^ i else 0)) 0
    some (leBytes size pend)
  | .reserved => none

/-- A write of the 8 bytes of a table entry's half, or of 4 of them; unmasking sends what is pending (R397). -/
def msixWrite (fn : Fn) (v o : Nat) (d : List Byte) (s : State) : State :=
  let old := msixBytes (msixGet s fn v)
  let b := old.take o ++ d ++ old.drop (o + d.length)
  let pend := (msixGet s fn v).pending
  sendPending fn v (setMsix fn v ⟨field b 0 8, field b 8 4, bit (field b 12 4) 0, pend⟩ s)

/-- Write 1 to RSP_READY clears it (R72). -/
def rspReadyClear (k value : Nat) (s : State) : State :=
  if bit value 1 then setMailbox k { mailboxGet s k with rspReady := false } s else s

/-- A write; none where it is ignored (R384). A doorbell that takes 8 bytes reaches MBX_STATUS first. -/
def bar0Write (fn : Fn) (off size value : Nat) (s : State) : Option State :=
  match bar0Reg s fn off with
  | .page c o => if o = 0 then some (cmdTail fn c value s) else if o = 8 then some (cplHead fn c value s) else none
  | .box ep o =>
    match mailboxKey ep with
    | none => none
    | some k =>
      let m := mailboxGet s k
      if o < 0x410 then some (setMailbox k { m with req := memWriteN m.req o (leBytes size value) } s)
      else if o = 0xF00 then some (mbxDoorbell ep k true (rspReadyClear k (if size = 8 then value / 2 ^ 32 else 0) s))
      else if o = 0xF04 then some (rspReadyClear k value s)
      else none
  | .msix v o => some (msixWrite fn v o (leBytes size value) s)
  | _ => none

/-- An access that decodes: reads answer, ignored ones with 0; what is ignored is counted (R384, R404). -/
def bar0Access (fn : Fn) (off size : Nat) (data : Option Nat) (s : State) : State :=
  match data with
  | none =>
    match (if bar0Aligned off size then bar0Read s fn off size else none) with
    | some b => hostSend (.completion fn 0 0 b) s
    | none => hostSend (.completion fn 0 0 (leBytes size 0)) (ignored 0x2907 6 s)
  | some v => ((if bar0Aligned off size then bar0Write fn off size v s else none)).getD (ignored 0x2907 6 s)

/-- BAR0_ACCESS (R384): a write of `data` where it is given, otherwise a read. -/
def execBar0Access (fn : Fn) (off size : Nat) (data : Option Nat) (s : State) : Host.Outcome State Fault Refusal :=
  if !fnExists fn || size = 0 || decide (bar0Bytes fn < off + size) then .refused .illFormed
  else .next (if decodes s fn then bar0Access fn off size data s else s)

end Sys2Proof.Machine
end

