-- ==== Sys2Proof/Machine/Dispatch.lean ====
section
/-! DEFINITION. The dispatch of each command to its meaning. -/
namespace Sys2Proof.Machine

def exec (i : Instr) (s : State) : Host.Outcome State Fault Refusal :=
  match i with
  | .openSession ep r => Sys2Proof.Machine.execOpenSession ep r s
  | .close ep r => Sys2Proof.Machine.execClose ep r s
  | .read ep r => Sys2Proof.Machine.execRead ep r s
  | .write ep r => Sys2Proof.Machine.execWrite ep r s
  | .readSeg ep r => Sys2Proof.Machine.execReadSeg ep r s
  | .writeSeg ep r => Sys2Proof.Machine.execWriteSeg ep r s
  | .poll ep r => Sys2Proof.Machine.execPoll ep r s
  | .enumerate ep r => Sys2Proof.Machine.execEnumerate ep r s
  | .commandFinish sid => Sys2Proof.Machine.execCommandFinish sid s
  | .sessionIdleTimeout sid => Sys2Proof.Machine.execSessionIdleTimeout sid s
  | .segStageExpiry sid => Sys2Proof.Machine.execSegStageExpiry sid s
  | .nonceExpiry who => Sys2Proof.Machine.execNonceExpiry who s
  | .authLockoutEnd ep => Sys2Proof.Machine.execAuthLockoutEnd ep s
  | .mbxDoorbell ep answered => Sys2Proof.Machine.execMbxDoorbell ep answered s
  | .ccMailboxDoorbell bytes => Sys2Proof.Machine.execCcMailboxDoorbell bytes s
  | .t1sFrame f => Sys2Proof.Machine.execT1sFrame f s
  | .i3cPrivateWrite bytes => Sys2Proof.Machine.execI3cPrivateWrite bytes s
  | .i3cPrivateRead => Sys2Proof.Machine.execI3cPrivateRead s
  | .dict outgoing device bytes => Sys2Proof.Machine.execDict outgoing device bytes s
  | .expertNonce sid => Sys2Proof.Machine.execExpertNonce sid s
  | .expertAuth sid sig => Sys2Proof.Machine.execExpertAuth sid sig s
  | .expertLock sid value => Sys2Proof.Machine.execExpertLock sid value s
  | .freqFineStep value => Sys2Proof.Machine.execFreqFineStep value s
  | .addS core slot w => Sys2Proof.Machine.execAddS core slot w s
  | .subS core slot w => Sys2Proof.Machine.execSubS core slot w s
  | .andS core slot w => Sys2Proof.Machine.execAndS core slot w s
  | .orS core slot w => Sys2Proof.Machine.execOrS core slot w s
  | .xorS core slot w => Sys2Proof.Machine.execXorS core slot w s
  | .shlS core slot w => Sys2Proof.Machine.execShlS core slot w s
  | .shrS core slot w => Sys2Proof.Machine.execShrS core slot w s
  | .sraS core slot w => Sys2Proof.Machine.execSraS core slot w s
  | .mulS core slot w => Sys2Proof.Machine.execMulS core slot w s
  | .cmpS core slot w => Sys2Proof.Machine.execCmpS core slot w s
  | .addiS core slot w => Sys2Proof.Machine.execAddiS core slot w s
  | .liS core slot w => Sys2Proof.Machine.execLiS core slot w s
  | .fmaF32 core slot w => Sys2Proof.Machine.execFmaF32 core slot w s
  | .addF32 core slot w => Sys2Proof.Machine.execAddF32 core slot w s
  | .subF32 core slot w => Sys2Proof.Machine.execSubF32 core slot w s
  | .mulF32 core slot w => Sys2Proof.Machine.execMulF32 core slot w s
  | .minF32 core slot w => Sys2Proof.Machine.execMinF32 core slot w s
  | .maxF32 core slot w => Sys2Proof.Machine.execMaxF32 core slot w s
  | .exp2F32 core slot w => Sys2Proof.Machine.execExp2F32 core slot w s
  | .log2F32 core slot w => Sys2Proof.Machine.execLog2F32 core slot w s
  | .rcpF32 core slot w => Sys2Proof.Machine.execRcpF32 core slot w s
  | .rsqF32 core slot w => Sys2Proof.Machine.execRsqF32 core slot w s
  | .cmpF32 core slot w => Sys2Proof.Machine.execCmpF32 core slot w s
  | .cmpI32 core slot w => Sys2Proof.Machine.execCmpI32 core slot w s
  | .addI32 core slot w => Sys2Proof.Machine.execAddI32 core slot w s
  | .subI32 core slot w => Sys2Proof.Machine.execSubI32 core slot w s
  | .mulI32 core slot w => Sys2Proof.Machine.execMulI32 core slot w s
  | .logicI32 core slot w => Sys2Proof.Machine.execLogicI32 core slot w s
  | .selV core slot w => Sys2Proof.Machine.execSelV core slot w s
  | .shflV core slot w => Sys2Proof.Machine.execShflV core slot w s
  | .cvt core slot w => Sys2Proof.Machine.execCvt core slot w s
  | .addiI32 core slot w => Sys2Proof.Machine.execAddiI32 core slot w s
  | .mmaT core slot w => Sys2Proof.Machine.execMmaT core slot w s
  | .accLdT core slot w => Sys2Proof.Machine.execAccLdT core slot w s
  | .accStT core slot w => Sys2Proof.Machine.execAccStT core slot w s
  | .cvtMxT core slot w => Sys2Proof.Machine.execCvtMxT core slot w s
  | .tcopyT core slot w => Sys2Proof.Machine.execTcopyT core slot w s
  | .ld core slot w => Sys2Proof.Machine.execLd core slot w s
  | .st core slot w => Sys2Proof.Machine.execSt core slot w s
  | .atom core slot w => Sys2Proof.Machine.execAtom core slot w s
  | .loadComplete core id status poison data => Sys2Proof.Machine.execLoadComplete core id status poison data s
  | .xlatWalk who slot ctx va kind => Sys2Proof.Machine.execXlatWalk who slot ctx va kind s
  | .invL1 core slot w => Sys2Proof.Machine.execInvL1 core slot w s
  | .wbL1 core slot w => Sys2Proof.Machine.execWbL1 core slot w s
  | .barGb core slot w => Sys2Proof.Machine.execBarGb core slot w s
  | .fenceGb core slot w => Sys2Proof.Machine.execFenceGb core slot w s
  | .fenceDev core slot w => Sys2Proof.Machine.execFenceDev core slot w s
  | .fenceSys core slot w => Sys2Proof.Machine.execFenceSys core slot w s
  | .lathWait core slot w => Sys2Proof.Machine.execLathWait core slot w s
  | .posGen core slot w => Sys2Proof.Machine.execPosGen core slot w s
  | .maskT core slot w => Sys2Proof.Machine.execMaskT core slot w s
  | .ropeT core slot w => Sys2Proof.Machine.execRopeT core slot w s
  | .smaxRun core slot w => Sys2Proof.Machine.execSmaxRun core slot w s
  | .accScaleT core slot w => Sys2Proof.Machine.execAccScaleT core slot w s
  | .plbIssue core slot w => Sys2Proof.Machine.execPlbIssue core slot w s
  | .plbPoll core slot w => Sys2Proof.Machine.execPlbPoll core slot w s
  | .br core slot w => Sys2Proof.Machine.execBr core slot w s
  | .brU core slot w => Sys2Proof.Machine.execBrU core slot w s
  | .jmp core slot w => Sys2Proof.Machine.execJmp core slot w s
  | .call core slot w => Sys2Proof.Machine.execCall core slot w s
  | .ret core slot w => Sys2Proof.Machine.execRet core slot w s
  | .nop core slot w => Sys2Proof.Machine.execNop core slot w s
  | .exit core slot w => Sys2Proof.Machine.execExit core slot w s
  | .brk core slot w => Sys2Proof.Machine.execBrk core slot w s
  | .yield core slot w => Sys2Proof.Machine.execYield core slot w s
  | .csrR core slot w => Sys2Proof.Machine.execCsrR core slot w s
  | .csrW core slot w => Sys2Proof.Machine.execCsrW core slot w s
  | .yieldExpire core slot => Sys2Proof.Machine.execYieldExpire core slot s
  | .memEntryFree core id => Sys2Proof.Machine.execMemEntryFree core id s
  | .slotFree core slot => Sys2Proof.Machine.execSlotFree core slot s
  | .longStep core slot => Sys2Proof.Machine.execLongStep core slot s
  | .tileWindowAccess addr data => Sys2Proof.Machine.execTileWindowAccess addr data s
  | .starveEvent core bank m => Sys2Proof.Machine.execStarveEvent core bank m s
  | .lathWordLand core k ecc => Sys2Proof.Machine.execLathWordLand core k ecc s
  | .drain core => Sys2Proof.Machine.execDrain core s
  | .eccWriteback core sector => Sys2Proof.Machine.execEccWriteback core sector s
  | .retWake sec => Sys2Proof.Machine.execRetWake sec s
  | .retRetain sec => Sys2Proof.Machine.execRetRetain sec s
  | .retainDone sec => Sys2Proof.Machine.execRetainDone sec s
  | .wakeDone sec => Sys2Proof.Machine.execWakeDone sec s
  | .winUpdate ctx idx entry => Sys2Proof.Machine.execWinUpdate ctx idx entry s
  | .xlatInval ctx va len => Sys2Proof.Machine.execXlatInval ctx va len s
  | .lathScheduleStart ctx => Sys2Proof.Machine.execLathScheduleStart ctx s
  | .lathWord core port k parityOk => Sys2Proof.Machine.execLathWord core port k parityOk s
  | .injRefill core => Sys2Proof.Machine.execInjRefill core s
  | .lathStop ctx k => Sys2Proof.Machine.execLathStop ctx k s
  | .scrimPacket node pkt dmg => Sys2Proof.Machine.execScrimPacket node pkt dmg s
  | .agePromotion idx => Sys2Proof.Machine.execAgePromotion idx s
  | .clsLoad table => Sys2Proof.Machine.execClsLoad table s
  | .clsEntry idx entry => Sys2Proof.Machine.execClsEntry idx entry s
  | .ucRead k r ecc => Sys2Proof.Machine.execUcRead k r ecc s
  | .ucWrite k r ecc => Sys2Proof.Machine.execUcWrite k r ecc s
  | .ucFillComplete k line => Sys2Proof.Machine.execUcFillComplete k line s
  | .ucHeldRelease k idx => Sys2Proof.Machine.execUcHeldRelease k idx s
  | .ucFlush ctx mode => Sys2Proof.Machine.execUcFlush ctx mode s
  | .ucScrub k way sec tag data => Sys2Proof.Machine.execUcScrub k way sec tag data s
  | .getS m => Sys2Proof.Machine.execGetS m s
  | .getM m => Sys2Proof.Machine.execGetM m s
  | .putS m => Sys2Proof.Machine.execPutS m s
  | .putE m => Sys2Proof.Machine.execPutE m s
  | .bezelAtom m => Sys2Proof.Machine.execBezelAtom m s
  | .readOnce m => Sys2Proof.Machine.execReadOnce m s
  | .writeOnce m => Sys2Proof.Machine.execWriteOnce m s
  | .fwdGets m => Sys2Proof.Machine.execFwdGets m s
  | .fwdGetm m => Sys2Proof.Machine.execFwdGetm m s
  | .fwdGetmAp m => Sys2Proof.Machine.execFwdGetmAp m s
  | .inv m => Sys2Proof.Machine.execInv m s
  | .recallS m => Sys2Proof.Machine.execRecallS m s
  | .recallI m => Sys2Proof.Machine.execRecallI m s
  | .gntM m => Sys2Proof.Machine.execGntM m s
  | .gntAcks m => Sys2Proof.Machine.execGntAcks m s
  | .invAck m => Sys2Proof.Machine.execInvAck m s
  | .fwdDoneO m => Sys2Proof.Machine.execFwdDoneO m s
  | .fwdDoneS m => Sys2Proof.Machine.execFwdDoneS m s
  | .fwdDoneI m => Sys2Proof.Machine.execFwdDoneI m s
  | .fwdMiss m => Sys2Proof.Machine.execFwdMiss m s
  | .rspWbpend m => Sys2Proof.Machine.execRspWbpend m s
  | .wbAck m => Sys2Proof.Machine.execWbAck m s
  | .comp m => Sys2Proof.Machine.execComp m s
  | .homeLost m => Sys2Proof.Machine.execHomeLost m s
  | .remoteLost m => Sys2Proof.Machine.execRemoteLost m s
  | .compAck m => Sys2Proof.Machine.execCompAck m s
  | .dataS m => Sys2Proof.Machine.execDataS m s
  | .dataE m => Sys2Proof.Machine.execDataE m s
  | .dataM m => Sys2Proof.Machine.execDataM m s
  | .dataMAp m => Sys2Proof.Machine.execDataMAp m s
  | .rspData m => Sys2Proof.Machine.execRspData m s
  | .putM m => Sys2Proof.Machine.execPutM m s
  | .putO m => Sys2Proof.Machine.execPutO m s
  | .dataOnce m => Sys2Proof.Machine.execDataOnce m s
  | .atomData m => Sys2Proof.Machine.execAtomData m s
  | .holdEnd a line => Sys2Proof.Machine.execHoldEnd a line s
  | .homeQuiesce b => Sys2Proof.Machine.execHomeQuiesce b s
  | .homeReturn b => Sys2Proof.Machine.execHomeReturn b s
  | .bDieLoss b => Sys2Proof.Machine.execBDieLoss b s
  | .stackTempRead stack temp => Sys2Proof.Machine.execStackTempRead stack temp s
  | .hbmRead stack ch ecc => Sys2Proof.Machine.execHbmRead stack ch ecc s
  | .hbmWrite stack ch => Sys2Proof.Machine.execHbmWrite stack ch s
  | .hbmRefresh stack ch bank => Sys2Proof.Machine.execHbmRefresh stack ch bank s
  | .hbmScrub stack ch row sec ecc => Sys2Proof.Machine.execHbmScrub stack ch row sec ecc s
  | .redirectAdd stack ch pc span bank row prio => Sys2Proof.Machine.execRedirectAdd stack ch pc span bank row prio s
  | .reserve part rates => Sys2Proof.Machine.execReserve part rates s
  | .heldaAdapterUp e modules => Sys2Proof.Machine.execHeldaAdapterUp e modules s
  | .heldaFlit e f => Sys2Proof.Machine.execHeldaFlit e f s
  | .cap e c => Sys2Proof.Machine.execCap e c s
  | .capCommit e c => Sys2Proof.Machine.execCapCommit e c s
  | .capAccept e => Sys2Proof.Machine.execCapAccept e s
  | .capReject e reason => Sys2Proof.Machine.execCapReject e reason s
  | .negotiationTimeout e => Sys2Proof.Machine.execNegotiationTimeout e s
  | .heldaTrainFail e => Sys2Proof.Machine.execHeldaTrainFail e s
  | .heldaRetrain e => Sys2Proof.Machine.execHeldaRetrain e s
  | .heldaRetrainLimit e => Sys2Proof.Machine.execHeldaRetrainLimit e s
  | .heldaAdapterFail e => Sys2Proof.Machine.execHeldaAdapterFail e s
  | .heldaDownRetry e => Sys2Proof.Machine.execHeldaDownRetry e s
  | .heldaLinkRecover e received => Sys2Proof.Machine.execHeldaLinkRecover e received s
  | .demand agent d => Sys2Proof.Machine.execDemand agent d s
  | .grant agent seq mw flags => Sys2Proof.Machine.execGrant agent seq mw flags s
  | .demandPeriod agent demandMw avgMw => Sys2Proof.Machine.execDemandPeriod agent demandMw avgMw s
  | .grantMiss agent => Sys2Proof.Machine.execGrantMiss agent s
  | .heldaLinkEnable link => Sys2Proof.Machine.execHeldaLinkEnable link s
  | .heldaLinkDisable link => Sys2Proof.Machine.execHeldaLinkDisable link s
  | .heldaLinkRetrain link => Sys2Proof.Machine.execHeldaLinkRetrain link s
  | .sitepEnable value => Sys2Proof.Machine.execSitepEnable value s
  | .carrakFlit port f => Sys2Proof.Machine.execCarrakFlit port f s
  | .nak port seq => Sys2Proof.Machine.execNak port seq s
  | .nakRepeat port => Sys2Proof.Machine.execNakRepeat port s
  | .hello port f => Sys2Proof.Machine.execHello port f s
  | .helloSend port => Sys2Proof.Machine.execHelloSend port s
  | .helloTimeout port => Sys2Proof.Machine.execHelloTimeout port s
  | .portTrained port lanes => Sys2Proof.Machine.execPortTrained port lanes s
  | .portTrainFail port => Sys2Proof.Machine.execPortTrainFail port s
  | .portDownRetry port => Sys2Proof.Machine.execPortDownRetry port s
  | .fecLockLoss port => Sys2Proof.Machine.execFecLockLoss port s
  | .portRetrainLimit port => Sys2Proof.Machine.execPortRetrainLimit port s
  | .lsa port b => Sys2Proof.Machine.execLsa port b s
  | .lsaPeriodic => Sys2Proof.Machine.execLsaPeriodic s
  | .lsaAgeOut serial => Sys2Proof.Machine.execLsaAgeOut serial s
  | .routeRecompute => Sys2Proof.Machine.execRouteRecompute s
  | .lossNotice port serial b home => Sys2Proof.Machine.execLossNotice port serial b home s
  | .unreach device txn => Sys2Proof.Machine.execUnreach device txn s
  | .carrakLinkRecover port received => Sys2Proof.Machine.execCarrakLinkRecover port received s
  | .stewardReq port give nonce => Sys2Proof.Machine.execStewardReq port give nonce s
  | .stewardRsp port accepted nonce => Sys2Proof.Machine.execStewardRsp port accepted nonce s
  | .stewardTimeout port => Sys2Proof.Machine.execStewardTimeout port s
  | .stewardBackoffEnd port => Sys2Proof.Machine.execStewardBackoffEnd port s
  | .stewardTake port => Sys2Proof.Machine.execStewardTake port s
  | .stewardGive port => Sys2Proof.Machine.execStewardGive port s
  | .idClaim mode id => Sys2Proof.Machine.execIdClaim mode id s
  | .idRelease => Sys2Proof.Machine.execIdRelease s
  | .claimTimer => Sys2Proof.Machine.execClaimTimer s
  | .autoReclaim => Sys2Proof.Machine.execAutoReclaim s
  | .portIdleHalf port => Sys2Proof.Machine.execPortIdleHalf port s
  | .portWiden port => Sys2Proof.Machine.execPortWiden port s
  | .fecErrorRetrain port => Sys2Proof.Machine.execFecErrorRetrain port s
  | .portEnable port => Sys2Proof.Machine.execPortEnable port s
  | .portDisable port => Sys2Proof.Machine.execPortDisable port s
  | .portRetrain port => Sys2Proof.Machine.execPortRetrain port s
  | .portCounterClear port => Sys2Proof.Machine.execPortCounterClear port s
  | .crazeStart run => Sys2Proof.Machine.execCrazeStart run s
  | .crazeStop => Sys2Proof.Machine.execCrazeStop s
  | .crazeDurationEnd => Sys2Proof.Machine.execCrazeDurationEnd s
  | .crazeUnlock record => Sys2Proof.Machine.execCrazeUnlock record s
  | .crazeGrantExpiry => Sys2Proof.Machine.execCrazeGrantExpiry s
  | .configRequest fn write reg value => Sys2Proof.Machine.execConfigRequest fn write reg value s
  | .bar2Read fn off len tag => Sys2Proof.Machine.execBar2Read fn off len tag s
  | .bar2Write fn off data poison => Sys2Proof.Machine.execBar2Write fn off data poison s
  | .bar2Atomic fn off op size operand compare tag => Sys2Proof.Machine.execBar2Atomic fn off op size operand compare tag s
  | .cmdTail fn ctx value => Sys2Proof.Machine.execCmdTail fn ctx value s
  | .cplHead fn ctx value => Sys2Proof.Machine.execCplHead fn ctx value s
  | .cmdFetch ctx => Sys2Proof.Machine.execCmdFetch ctx s
  | .completionWrite ctx => Sys2Proof.Machine.execCompletionWrite ctx s
  | .coalesceTimer ctx => Sys2Proof.Machine.execCoalesceTimer ctx s
  | .flrVf n => Sys2Proof.Machine.execFlrVf n s
  | .flrPf => Sys2Proof.Machine.execFlrPf s
  | .powerStateChange fn d3 => Sys2Proof.Machine.execPowerStateChange fn d3 s
  | .vfMap n part apBase apBytes => Sys2Proof.Machine.execVfMap n part apBase apBytes s
  | .ringEnable args => Sys2Proof.Machine.execRingEnable args s
  | .ringDisable ctx => Sys2Proof.Machine.execRingDisable ctx s
  | .ringNop ctx => Sys2Proof.Machine.execRingNop ctx s
  | .launch ctx => Sys2Proof.Machine.execLaunch ctx s
  | .dmaCopy ctx idx n ext => Sys2Proof.Machine.execDmaCopy ctx idx n ext s
  | .signal ctx ext => Sys2Proof.Machine.execSignal ctx ext s
  | .wait ctx ext => Sys2Proof.Machine.execWait ctx ext s
  | .waitPoll ctx ext => Sys2Proof.Machine.execWaitPoll ctx ext s
  | .ringWinUpdate ctx => Sys2Proof.Machine.execRingWinUpdate ctx s
  | .ringXlatInval ctx => Sys2Proof.Machine.execRingXlatInval ctx s
  | .flushUc ctx => Sys2Proof.Machine.execFlushUc ctx s
  | .hostCompletion tag status data poison => Sys2Proof.Machine.execHostCompletion tag status data poison s
  | .hostCplTimeout tag => Sys2Proof.Machine.execHostCplTimeout tag s
  | .hostLinkDown => Sys2Proof.Machine.execHostLinkDown s
  | .hostLinkUp gen width flit cxl => Sys2Proof.Machine.execHostLinkUp gen width flit cxl s
  | .snpInv addr => Sys2Proof.Machine.execSnpInv addr s
  | .snpData addr => Sys2Proof.Machine.execSnpData addr s
  | .snpCur addr => Sys2Proof.Machine.execSnpCur addr s
  | .memRd addr metaValue tag => Sys2Proof.Machine.execMemRd addr metaValue tag s
  | .memWr addr data enables poison tag => Sys2Proof.Machine.execMemWr addr data enables poison tag s
  | .biRsp addr data => Sys2Proof.Machine.execBiRsp addr data s
  | .planLoad ctx slot addr origin => Sys2Proof.Machine.execPlanLoad ctx slot addr origin s
  | .planUnload ctx slot => Sys2Proof.Machine.execPlanUnload ctx slot s
  | .kernelStart ctx => Sys2Proof.Machine.execKernelStart ctx s
  | .dmaTransferStart ctx idx => Sys2Proof.Machine.execDmaTransferStart ctx idx s
  | .dmaTransferDone ctx idx ext => Sys2Proof.Machine.execDmaTransferDone ctx idx ext s
  | .tileOverrun ctx core => Sys2Proof.Machine.execTileOverrun ctx core s
  | .plbShare part lanes => Sys2Proof.Machine.execPlbShare part lanes s
  | .plbDescStart array idx ext => Sys2Proof.Machine.execPlbDescStart array idx ext s
  | .plbStep array lane ext => Sys2Proof.Machine.execPlbStep array lane ext s
  | .partCreate p mask => Sys2Proof.Machine.execPartCreate p mask s
  | .partResize p mask => Sys2Proof.Machine.execPartResize p mask s
  | .partDestroy p => Sys2Proof.Machine.execPartDestroy p s
  | .ctxCreate ctx desc => Sys2Proof.Machine.execCtxCreate ctx desc s
  | .ctxDestroy ctx => Sys2Proof.Machine.execCtxDestroy ctx s
  | .urgentStop ctx => Sys2Proof.Machine.execUrgentStop ctx s
  | .ctxPreempt ctx => Sys2Proof.Machine.execCtxPreempt ctx s
  | .setPriority ctx prio => Sys2Proof.Machine.execSetPriority ctx prio s
  | .partitionPolicy p policy sliceUs preempt graceUs retainUs => Sys2Proof.Machine.execPartitionPolicy p policy sliceUs preempt graceUs retainUs s
  | .sliceExpiry p => Sys2Proof.Machine.execSliceExpiry p s
  | .tbGraceExpiry ctx => Sys2Proof.Machine.execTbGraceExpiry ctx s
  | .saveComplete ctx => Sys2Proof.Machine.execSaveComplete ctx s
  | .restoreComplete ctx => Sys2Proof.Machine.execRestoreComplete ctx s
  | .contextFault ctx cause code core slot source address pc => Sys2Proof.Machine.execContextFault ctx cause code core slot source address pc s
  | .urgentStopComplete ctx => Sys2Proof.Machine.execUrgentStopComplete ctx s
  | .retainIdleExpiry p => Sys2Proof.Machine.execRetainIdleExpiry p s
  | .sensorSample kind first values => Sys2Proof.Machine.execSensorSample kind first values s
  | .powerSample entities rails sections => Sys2Proof.Machine.execPowerSample entities rails sections s
  | .logPersist => Sys2Proof.Machine.execLogPersist s
  | .logRecords sid => Sys2Proof.Machine.execLogRecords sid s
  | .wmNotice id => Sys2Proof.Machine.execWmNotice id s
  | .fanUpdate => Sys2Proof.Machine.execFanUpdate s
  | .fwImage off data last => Sys2Proof.Machine.execFwImage off data last s
  | .fwVerify => Sys2Proof.Machine.execFwVerify s
  | .fwActivate => Sys2Proof.Machine.execFwActivate s
  | .fwCommit => Sys2Proof.Machine.execFwCommit s
  | .fwAbort => Sys2Proof.Machine.execFwAbort s
  | .fwTrialTimeout => Sys2Proof.Machine.execFwTrialTimeout s
  | .watchdog => Sys2Proof.Machine.execWatchdog s
  | .askarRestart => Sys2Proof.Machine.execAskarRestart s
  | .askarServing => Sys2Proof.Machine.execAskarServing s
  | .provNonce => Sys2Proof.Machine.execProvNonce s
  | .lcRequest record => Sys2Proof.Machine.execLcRequest record s
  | .keyUpdate record => Sys2Proof.Machine.execKeyUpdate record s
  | .sealWrite slot record => Sys2Proof.Machine.execSealWrite slot record s
  | .tamperEvent sources => Sys2Proof.Machine.execTamperEvent sources s
  | .tamperLoopOpen => Sys2Proof.Machine.execTamperLoopOpen s
  | .attestNonce challenge => Sys2Proof.Machine.execAttestNonce challenge s
  | .attestReport => Sys2Proof.Machine.execAttestReport s
  | .railOutOfRange r => Sys2Proof.Machine.execRailOutOfRange r s
  | .railInRange r => Sys2Proof.Machine.execRailInRange r s
  | .rampStart r => Sys2Proof.Machine.execRampStart r s
  | .rampDone d => Sys2Proof.Machine.execRampDone d s
  | .latchedSlow d => Sys2Proof.Machine.execLatchedSlow d s
  | .shortDetect d => Sys2Proof.Machine.execShortDetect d s
  | .shortConfirm d => Sys2Proof.Machine.execShortConfirm d s
  | .shortClear d => Sys2Proof.Machine.execShortClear d s
  | .domainClear d => Sys2Proof.Machine.execDomainClear d s
  | .arbiterPeriod avgMw => Sys2Proof.Machine.execArbiterPeriod avgMw s
  | .clockCeilingStep n up => Sys2Proof.Machine.execClockCeilingStep n up s
  | .clampSet which => Sys2Proof.Machine.execClampSet which s
  | .clampRelease which => Sys2Proof.Machine.execClampRelease which s
  | .vtLevelChange n => Sys2Proof.Machine.execVtLevelChange n s
  | .thermalTrip sensor => Sys2Proof.Machine.execThermalTrip sensor s
  | .pllUnlock island => Sys2Proof.Machine.execPllUnlock island s
  | .pllRelock core => Sys2Proof.Machine.execPllRelock core s
  | .refclkLoss => Sys2Proof.Machine.execRefclkLoss s
  | .refclkLost => Sys2Proof.Machine.execRefclkLost s
  | .powerOn node pid testEn => Sys2Proof.Machine.execPowerOn node pid testEn s
  | .packageReset node pid testEn => Sys2Proof.Machine.execPackageReset node pid testEn s
  | .perstNDeassert => Sys2Proof.Machine.execPerstNDeassert s
  | .askarOnlyReset => Sys2Proof.Machine.execAskarOnlyReset s
  | .dieReset target recovered => Sys2Proof.Machine.execDieReset target recovered s
  | .askarBoot => Sys2Proof.Machine.execAskarBoot s
  | .powerUp => Sys2Proof.Machine.execPowerUp s
  | .railWaitExpiry => Sys2Proof.Machine.execRailWaitExpiry s
  | .hotAtStart => Sys2Proof.Machine.execHotAtStart s
  | .hbmTrain badStacks => Sys2Proof.Machine.execHbmTrain badStacks s
  | .heldaTrain => Sys2Proof.Machine.execHeldaTrain s
  | .controlBoot => Sys2Proof.Machine.execControlBoot s
  | .hostUp badDies => Sys2Proof.Machine.execHostUp badDies s
  | .startupEnd => Sys2Proof.Machine.execStartupEnd s
  | .stageTimeout => Sys2Proof.Machine.execStageTimeout s
  | .eiRun unit kind addr count => Sys2Proof.Machine.execEiRun unit kind addr count s
  | .i3cTargetReset => Sys2Proof.Machine.execI3cTargetReset s
  | .i3cCcc c => Sys2Proof.Machine.execI3cCcc c s
  | .t1sLinkDown => Sys2Proof.Machine.execT1sLinkDown s
  | .msixUnmask fn vector => Sys2Proof.Machine.execMsixUnmask fn vector s
  | .bar0Access fn off size data => Sys2Proof.Machine.execBar0Access fn off size data s
  | .cxlCacheResponse addr rsp data poison => Sys2Proof.Machine.execCxlCacheResponse addr rsp data poison s
  | .refclkReturn => Sys2Proof.Machine.execRefclkReturn s

end Sys2Proof.Machine
end

