-- ==== Sys2Proof/Machine/Idle.lean ====
section
/-! DEFINITION. What passes by itself while no command waits: 10 ns of the 100 MHz reference (R489, R191, R62;
notes/assumptions/3.md). -/
namespace Sys2Proof.Machine

/-- Sixteen Lath cycles of 0.625 ns pass in every schedule that runs (R191). -/
def lathTick (s : State) : State :=
  { s with lath := { s.lath with scheds := s.lath.scheds.map fun e =>
      (e.1, if e.2.running then { e.2 with k := e.2.k + 16 } else e.2) } }

/-- The time base advances by 10 ns (R489). -/
def timeTick (s : State) : State :=
  { s with askar := { s.askar with timeNs := (s.askar.timeNs + 10) % 2 ^ 64 } }

/-- Askar serves the requests that wait (R62, R76). -/
def serveWaiting (s : State) : State := serveAll s.dict.waiting.length s

/-- A tick of the reference: nothing happens before VDD_AON is in range (R489, R548). -/
def idleTick (s : State) : State :=
  if railGet s 13 = .inRange then serveWaiting (lathTick (timeTick s)) else s

end Sys2Proof.Machine
end

