-- ==== Sys2Proof/WellFormed.lean ====
section
/-! DEFINITION. Which commands are well formed: every operand names a unit the device has, and every count is one that its
field can carry (R26 to R29, R50, R72, R201, R219, R303, R337, R377, R397, R458, R462, R527, R553). What further depends on
the variant or on the state is in Safety. -/
namespace Sys2Proof

/-- An endpoint of the dictionary (R50, R72). -/
def Endpoint.exists_ : Endpoint → Bool
  | .pf m => decide (m < 8)
  | .vf n => decide (n < 64)
  | .carrak d => decide (d < 256)
  | _ => true

/-- A PCIe mailbox (R72). -/
def Endpoint.isMailbox : Endpoint → Bool
  | .pf m => decide (m < 8)
  | .vf n => decide (n < 64)
  | _ => false

/-- A function of the device (R377). -/
def Fn.exists_ : Fn → Bool
  | .pf => true
  | .vf n => decide (n < 64)

/-- A vector of a function (R397). -/
def Fn.vectorOk : Fn → Nat → Bool
  | .pf, v => decide (v < 1024)
  | .vf n, v => decide (n < 64) && decide (v < 16)

/-- Bytes of BAR0 (R382, R383). -/
def Fn.bar0 : Fn → Nat
  | .pf => 2 ^ 23
  | .vf _ => 2 ^ 17

/-- An island with a PLL (R545). -/
def Island.exists_ : Island → Bool
  | .core c => decide (c < 4608)
  | .lath n | .scrim n | .uc n => decide (n < 4)
  | .hbm k => decide (k < 8)
  | .cc c => decide (c < 16)
  | .carrak p => decide (p < 24)
  | .helda j => decide (j < 9)
  | .iod | .pcie => true

/-- A translation for a core names one of its slots. -/
def Agent.coreOk (slot : Nat) : Agent → Bool
  | .core c => decide (c < 4608) && decide (slot < 16)
  | _ => true

/-- A Bezel message names a line, and a slice or control core of the device where it goes to one. -/
def BMsg.dstOk (m : BMsg) : Bool :=
  match m.dst with
  | .slice k => decide (k < 256) && m.addr % 1024 == 0
  | .cc c => decide (c < 16) && m.addr % 1024 == 0
  | _ => true

/-- A well-formed command. -/
def Instr.wf : Instr → Bool
  | .openSession ep _ => ep.exists_
  | .close ep _ => ep.exists_
  | .read ep _ => ep.exists_
  | .write ep _ => ep.exists_
  | .readSeg ep _ => ep.exists_
  | .writeSeg ep _ => ep.exists_
  | .poll ep _ => ep.exists_
  | .enumerate ep _ => ep.exists_
  | .commandFinish _ => true
  | .sessionIdleTimeout _ => true
  | .segStageExpiry _ => true
  | .nonceExpiry _ => true
  | .authLockoutEnd _ => true
  | .mbxDoorbell ep _ => ep.isMailbox
  | .ccMailboxDoorbell _ => true
  | .t1sFrame _ => true
  | .i3cPrivateWrite _ => true
  | .i3cPrivateRead => true
  | .dict _ device _ => decide (device < 256)
  | .expertNonce _ => true
  | .expertAuth _ _ => true
  | .expertLock _ _ => true
  | .freqFineStep _ => true
  | .addS core slot _ => decide (core < 4608) && decide (slot < 16)
  | .subS core slot _ => decide (core < 4608) && decide (slot < 16)
  | .andS core slot _ => decide (core < 4608) && decide (slot < 16)
  | .orS core slot _ => decide (core < 4608) && decide (slot < 16)
  | .xorS core slot _ => decide (core < 4608) && decide (slot < 16)
  | .shlS core slot _ => decide (core < 4608) && decide (slot < 16)
  | .shrS core slot _ => decide (core < 4608) && decide (slot < 16)
  | .sraS core slot _ => decide (core < 4608) && decide (slot < 16)
  | .mulS core slot _ => decide (core < 4608) && decide (slot < 16)
  | .cmpS core slot _ => decide (core < 4608) && decide (slot < 16)
  | .addiS core slot _ => decide (core < 4608) && decide (slot < 16)
  | .liS core slot _ => decide (core < 4608) && decide (slot < 16)
  | .fmaF32 core slot _ => decide (core < 4608) && decide (slot < 16)
  | .addF32 core slot _ => decide (core < 4608) && decide (slot < 16)
  | .subF32 core slot _ => decide (core < 4608) && decide (slot < 16)
  | .mulF32 core slot _ => decide (core < 4608) && decide (slot < 16)
  | .minF32 core slot _ => decide (core < 4608) && decide (slot < 16)
  | .maxF32 core slot _ => decide (core < 4608) && decide (slot < 16)
  | .exp2F32 core slot _ => decide (core < 4608) && decide (slot < 16)
  | .log2F32 core slot _ => decide (core < 4608) && decide (slot < 16)
  | .rcpF32 core slot _ => decide (core < 4608) && decide (slot < 16)
  | .rsqF32 core slot _ => decide (core < 4608) && decide (slot < 16)
  | .cmpF32 core slot _ => decide (core < 4608) && decide (slot < 16)
  | .cmpI32 core slot _ => decide (core < 4608) && decide (slot < 16)
  | .addI32 core slot _ => decide (core < 4608) && decide (slot < 16)
  | .subI32 core slot _ => decide (core < 4608) && decide (slot < 16)
  | .mulI32 core slot _ => decide (core < 4608) && decide (slot < 16)
  | .logicI32 core slot _ => decide (core < 4608) && decide (slot < 16)
  | .selV core slot _ => decide (core < 4608) && decide (slot < 16)
  | .shflV core slot _ => decide (core < 4608) && decide (slot < 16)
  | .cvt core slot _ => decide (core < 4608) && decide (slot < 16)
  | .addiI32 core slot _ => decide (core < 4608) && decide (slot < 16)
  | .mmaT core slot _ => decide (core < 4608) && decide (slot < 16)
  | .accLdT core slot _ => decide (core < 4608) && decide (slot < 16)
  | .accStT core slot _ => decide (core < 4608) && decide (slot < 16)
  | .cvtMxT core slot _ => decide (core < 4608) && decide (slot < 16)
  | .tcopyT core slot _ => decide (core < 4608) && decide (slot < 16)
  | .ld core slot _ => decide (core < 4608) && decide (slot < 16)
  | .st core slot _ => decide (core < 4608) && decide (slot < 16)
  | .atom core slot _ => decide (core < 4608) && decide (slot < 16)
  | .loadComplete _ _ _ _ _ => true
  | .xlatWalk who slot _ _ _ => who.coreOk slot
  | .invL1 core slot _ => decide (core < 4608) && decide (slot < 16)
  | .wbL1 core slot _ => decide (core < 4608) && decide (slot < 16)
  | .barGb core slot _ => decide (core < 4608) && decide (slot < 16)
  | .fenceGb core slot _ => decide (core < 4608) && decide (slot < 16)
  | .fenceDev core slot _ => decide (core < 4608) && decide (slot < 16)
  | .fenceSys core slot _ => decide (core < 4608) && decide (slot < 16)
  | .lathWait core slot _ => decide (core < 4608) && decide (slot < 16)
  | .posGen core slot _ => decide (core < 4608) && decide (slot < 16)
  | .maskT core slot _ => decide (core < 4608) && decide (slot < 16)
  | .ropeT core slot _ => decide (core < 4608) && decide (slot < 16)
  | .smaxRun core slot _ => decide (core < 4608) && decide (slot < 16)
  | .accScaleT core slot _ => decide (core < 4608) && decide (slot < 16)
  | .plbIssue core slot _ => decide (core < 4608) && decide (slot < 16)
  | .plbPoll core slot _ => decide (core < 4608) && decide (slot < 16)
  | .br core slot _ => decide (core < 4608) && decide (slot < 16)
  | .brU core slot _ => decide (core < 4608) && decide (slot < 16)
  | .jmp core slot _ => decide (core < 4608) && decide (slot < 16)
  | .call core slot _ => decide (core < 4608) && decide (slot < 16)
  | .ret core slot _ => decide (core < 4608) && decide (slot < 16)
  | .nop core slot _ => decide (core < 4608) && decide (slot < 16)
  | .exit core slot _ => decide (core < 4608) && decide (slot < 16)
  | .brk core slot _ => decide (core < 4608) && decide (slot < 16)
  | .yield core slot _ => decide (core < 4608) && decide (slot < 16)
  | .csrR core slot _ => decide (core < 4608) && decide (slot < 16)
  | .csrW core slot _ => decide (core < 4608) && decide (slot < 16)
  | .yieldExpire _ _ => true
  | .memEntryFree _ _ => true
  | .slotFree _ _ => true
  | .longStep _ _ => true
  | .tileWindowAccess _ _ => true
  | .starveEvent core bank _ => decide (core < 4608) && decide (bank < 4)
  | .lathWordLand _ _ _ => true
  | .drain _ => true
  | .eccWriteback _ _ => true
  | .retWake sec => decide (sec < 144)
  | .retRetain sec => decide (sec < 144)
  | .retainDone _ => true
  | .wakeDone _ => true
  | .winUpdate _ _ _ => true
  | .xlatInval _ _ _ => true
  | .lathScheduleStart _ => true
  | .lathWord core port _ _ => decide (core < 4608) && port != .core
  | .injRefill _ => true
  | .lathStop _ _ => true
  | .scrimPacket node pkt _ => decide (node < 65536) && decide (pkt.vc < 6)
  | .agePromotion _ => true
  | .clsLoad _ => true
  | .clsEntry _ _ => true
  | .ucRead k r _ => decide (k < 256) && r.write.isNone
  | .ucWrite k r _ => decide (k < 256) && r.write.isSome
  | .ucFillComplete _ _ => true
  | .ucHeldRelease _ _ => true
  | .ucFlush ctx mode => decide (ctx < 1024) && decide (mode < 2)
  | .ucScrub k _ sec _ _ => decide (k < 256) && decide (sec < 16)
  | .getS m => m.dstOk
  | .getM m => m.dstOk
  | .putS m => m.dstOk
  | .putE m => m.dstOk
  | .bezelAtom m => m.dstOk
  | .readOnce m => m.dstOk
  | .writeOnce m => m.dstOk
  | .fwdGets m => m.dstOk
  | .fwdGetm m => m.dstOk
  | .fwdGetmAp m => m.dstOk
  | .inv m => m.dstOk
  | .recallS m => m.dstOk
  | .recallI m => m.dstOk
  | .gntM m => m.dstOk
  | .gntAcks m => m.dstOk
  | .invAck m => m.dstOk
  | .fwdDoneO m => m.dstOk
  | .fwdDoneS m => m.dstOk
  | .fwdDoneI m => m.dstOk
  | .fwdMiss m => m.dstOk
  | .rspWbpend m => m.dstOk
  | .wbAck m => m.dstOk
  | .comp m => m.dstOk
  | .homeLost m => m.dstOk
  | .remoteLost m => m.dstOk
  | .compAck m => m.dstOk
  | .dataS m => m.dstOk
  | .dataE m => m.dstOk
  | .dataM m => m.dstOk
  | .dataMAp m => m.dstOk
  | .rspData m => m.dstOk
  | .putM m => m.dstOk
  | .putO m => m.dstOk
  | .dataOnce m => m.dstOk
  | .atomData m => m.dstOk
  | .holdEnd _ _ => true
  | .homeQuiesce b => decide (b < 4)
  | .homeReturn b => decide (b < 4)
  | .bDieLoss b => decide (b < 4)
  | .stackTempRead stack _ => decide (stack < 8)
  | .hbmRead stack ch _ => decide (stack < 8) && decide (ch < 32)
  | .hbmWrite stack ch => decide (stack < 8) && decide (ch < 32)
  | .hbmRefresh stack ch bank => decide (stack < 8) && decide (ch < 32) && decide (bank.getD 0 < 16)
  | .hbmScrub stack ch row sec _ => decide (stack < 8) && decide (ch < 32) && decide (row / 65536 < 32) && decide (row % 65536 < 34208) && decide (sec < 16)
  | .redirectAdd stack ch pc span bank row prio => decide (stack < 8) && decide (ch < 32) && decide (pc < 2) && decide (span < 5) && decide (bank < 16) && decide (row < 34208) &&
    decide (prio < 4) && row % 2 ^ span == 0
  | .reserve part rates => decide (part < 64) && rates.length == 4
  | .heldaAdapterUp e _ => decide (e < 17)
  | .heldaFlit e _ => decide (e < 17)
  | .cap e _ => decide (e < 17)
  | .capCommit e _ => decide (e < 17)
  | .capAccept e => decide (e < 17)
  | .capReject e _ => decide (e < 17)
  | .negotiationTimeout e => decide (e < 17)
  | .heldaTrainFail e => decide (e < 17)
  | .heldaRetrain e => decide (e < 17)
  | .heldaRetrainLimit e => decide (e < 17)
  | .heldaAdapterFail e => decide (e < 17)
  | .heldaDownRetry e => decide (e < 17)
  | .heldaLinkRecover e _ => decide (e < 17)
  | .demand agent _ => decide (4 ≤ agent) && decide (agent < 10)
  | .grant agent seq _ flags => decide (4 ≤ agent) && decide (agent < 10) && decide (seq < 65536) && decide (flags < 2 ^ 144)
  | .demandPeriod agent _ _ => decide (4 ≤ agent) && decide (agent < 9)
  | .grantMiss agent => decide (4 ≤ agent) && decide (agent < 10)
  | .heldaLinkEnable link => decide (link < 9)
  | .heldaLinkDisable link => decide (link < 9)
  | .heldaLinkRetrain link => decide (link < 9)
  | .sitepEnable _ => true
  | .carrakFlit port _ => decide (port < 24)
  | .nak port _ => decide (port < 24)
  | .nakRepeat port => decide (port < 24)
  | .hello port _ => decide (port < 24)
  | .helloSend port => decide (port < 24)
  | .helloTimeout port => decide (port < 24)
  | .portTrained port _ => decide (port < 24)
  | .portTrainFail port => decide (port < 24)
  | .portDownRetry port => decide (port < 24)
  | .fecLockLoss port => decide (port < 24)
  | .portRetrainLimit port => decide (port < 24)
  | .lsa port _ => decide (port < 24)
  | .lsaPeriodic => true
  | .lsaAgeOut _ => true
  | .routeRecompute => true
  | .lossNotice port _ b _ => decide (port < 24) && decide (b < 4)
  | .unreach _ _ => true
  | .carrakLinkRecover port _ => decide (port < 24)
  | .stewardReq port _ _ => decide (port < 24)
  | .stewardRsp port _ _ => decide (port < 24)
  | .stewardTimeout port => decide (port < 24)
  | .stewardBackoffEnd port => decide (port < 24)
  | .stewardTake port => decide (port < 24)
  | .stewardGive port => decide (port < 24)
  | .idClaim _ _ => true
  | .idRelease => true
  | .claimTimer => true
  | .autoReclaim => true
  | .portIdleHalf port => decide (port < 24)
  | .portWiden port => decide (port < 24)
  | .fecErrorRetrain port => decide (port < 24)
  | .portEnable port => decide (port < 24)
  | .portDisable port => decide (port < 24)
  | .portRetrain port => decide (port < 24)
  | .portCounterClear port => decide (port < 24)
  | .crazeStart _ => true
  | .crazeStop => true
  | .crazeDurationEnd => true
  | .crazeUnlock _ => true
  | .crazeGrantExpiry => true
  | .configRequest fn _ _ _ => fn.exists_
  | .bar2Read fn _ len _ => fn.exists_ && decide (0 < len) && decide (len ≤ 4096)
  | .bar2Write fn _ data _ => fn.exists_ && !data.isEmpty && decide (data.length ≤ 512)
  | .bar2Atomic fn _ op size _ _ _ => fn.exists_ && decide (op < 3) && (size == 4 || size == 8)
  | .cmdTail _ ctx _ => decide (ctx < 1024)
  | .cplHead _ ctx _ => decide (ctx < 1024)
  | .cmdFetch _ => true
  | .completionWrite _ => true
  | .coalesceTimer _ => true
  | .flrVf n => decide (n < 64)
  | .flrPf => true
  | .powerStateChange fn _ => fn.exists_
  | .vfMap n part _ _ => decide (n < 64) && decide (part ≤ 64)
  | .ringEnable args => decide (args.ctx < 1024)
  | .ringDisable ctx => decide (ctx < 1024)
  | .ringNop _ => true
  | .launch _ => true
  | .dmaCopy _ _ _ _ => true
  | .signal _ _ => true
  | .wait _ _ => true
  | .waitPoll _ _ => true
  | .ringWinUpdate _ => true
  | .ringXlatInval _ => true
  | .flushUc _ => true
  | .hostCompletion _ _ _ _ => true
  | .hostCplTimeout _ => true
  | .hostLinkDown => true
  | .hostLinkUp gen width flit _ => decide (0 < gen) && decide (gen ≤ 6) && decide (0 < width) && decide (width ≤ 16) && (gen != 6 || flit)
  | .snpInv _ => true
  | .snpData _ => true
  | .snpCur _ => true
  | .memRd _ _ _ => true
  | .memWr _ data enables _ _ => data.length == 64 && enables.length == 64
  | .biRsp _ _ => true
  | .planLoad _ slot _ origin => decide (slot < 32) && decide (origin < 144)
  | .planUnload _ _ => true
  | .kernelStart _ => true
  | .dmaTransferStart _ _ => true
  | .dmaTransferDone _ _ _ => true
  | .tileOverrun _ core => decide (core < 4608)
  | .plbShare _ _ => true
  | .plbDescStart array _ _ => decide (array < 4)
  | .plbStep array lane _ => decide (array < 4) && decide (lane < 64)
  | .partCreate p _ => decide (p < 64)
  | .partResize p _ => decide (p < 64)
  | .partDestroy p => decide (p < 64)
  | .ctxCreate ctx _ => decide (ctx < 1024)
  | .ctxDestroy ctx => decide (ctx < 1024)
  | .urgentStop ctx => decide (ctx < 1024)
  | .ctxPreempt ctx => decide (ctx < 1024)
  | .setPriority ctx prio => decide (ctx < 1024) && decide (prio < 8)
  | .partitionPolicy p policy _ preempt _ _ => decide (p < 64) && decide (policy < 3) && decide (preempt < 2)
  | .sliceExpiry _ => true
  | .tbGraceExpiry _ => true
  | .saveComplete _ => true
  | .restoreComplete _ => true
  | .contextFault _ cause _ _ _ source _ _ => decide (0 < cause) && decide (cause ≤ 0xB) && decide (source ≤ 7)
  | .urgentStopComplete _ => true
  | .retainIdleExpiry _ => true
  | .sensorSample _ _ _ => true
  | .powerSample _ _ _ => true
  | .logPersist => true
  | .logRecords _ => true
  | .wmNotice _ => true
  | .fanUpdate => true
  | .fwImage _ _ _ => true
  | .fwVerify => true
  | .fwActivate => true
  | .fwCommit => true
  | .fwAbort => true
  | .fwTrialTimeout => true
  | .watchdog => true
  | .askarRestart => true
  | .askarServing => true
  | .provNonce => true
  | .lcRequest _ => true
  | .keyUpdate _ => true
  | .sealWrite _ _ => true
  | .tamperEvent _ => true
  | .tamperLoopOpen => true
  | .attestNonce _ => true
  | .attestReport => true
  | .railOutOfRange r => decide (r < 16)
  | .railInRange r => decide (r < 16)
  | .rampStart r => decide (r < 16)
  | .rampDone d => decide (d < 176)
  | .latchedSlow d => decide (d < 176)
  | .shortDetect d => decide (d < 176)
  | .shortConfirm d => decide (d < 176)
  | .shortClear d => decide (d < 176)
  | .domainClear d => decide (d < 176)
  | .arbiterPeriod _ => true
  | .clockCeilingStep n _ => decide (n < 4)
  | .clampSet which => decide (which < 5)
  | .clampRelease which => decide (which < 5)
  | .vtLevelChange n => decide (n < 4)
  | .thermalTrip sensor => decide (sensor < 224)
  | .pllUnlock island => island.exists_
  | .pllRelock core => decide (core < 4608)
  | .refclkLoss => true
  | .refclkLost => true
  | .powerOn node pid _ => decide (node < 8) && decide (pid < 16)
  | .packageReset node pid _ => decide (node < 8) && decide (pid < 16)
  | .perstNDeassert => true
  | .askarOnlyReset => true
  | .dieReset target _ => decide (target < 8)
  | .askarBoot => true
  | .powerUp => true
  | .railWaitExpiry => true
  | .hotAtStart => true
  | .hbmTrain badStacks => badStacks.all fun k => decide (k < 8)
  | .heldaTrain => true
  | .controlBoot => true
  | .hostUp badDies => badDies.all fun n => decide (n < 4)
  | .startupEnd => true
  | .stageTimeout => true
  | .eiRun unit kind _ count => decide (unit < 6) && decide (kind < 4) && decide (0 < count) && decide (count < 256)
  | .i3cTargetReset => true
  | .i3cCcc _ => true
  | .t1sLinkDown => true
  | .msixUnmask fn vector => fn.vectorOk vector
  | .bar0Access fn off size _ => fn.exists_ && decide (0 < size) && decide (off + size ≤ fn.bar0)
  | .cxlCacheResponse _ _ _ _ => true
  | .refclkReturn => true

end Sys2Proof
end

