-- ==== Sys2Proof/Safety.lean ====
section
/-! DEFINITION. What a safe run is: a command is one of the device's, and every step answers a next state. -/
namespace Sys2Proof.Machine

/-- The word is the instruction FMT.OP (a fence with its MOD), or no instruction of the core at all, which raises
ILLEGAL_INSTR whatever the row that names it (R117, R119). -/
def rowWord (w : W64) (fmt op : Nat) (mod : Option Nat) : Bool := isOp w fmt op mod || !opListed w

/-- A Bezel message for a slice names a line that the slice serves, unless it answers a request of a non-caching requester or
site P is not admitted (R221, R252, R271). -/
def lineServed (s : State) (op : BOp) (m : BMsg) : Bool :=
  match m.dst with
  | .slice k =>
    let t := received op m s
    isOnceReply t op m || (sitePGate k op m t).isSome || (roleOf t k m.addr m.near).isSome
  | _ => true

/-- What the state decides beyond `Instr.wf`: the units of the variant, the slice of a line, the row of a word. -/
def fits (s : State) : Instr → Bool
  | .openSession _ _ => true
  | .close _ _ => true
  | .read _ _ => true
  | .write _ _ => true
  | .readSeg _ _ => true
  | .writeSeg _ _ => true
  | .poll _ _ => true
  | .enumerate _ _ => true
  | .commandFinish _ => true
  | .sessionIdleTimeout _ => true
  | .segStageExpiry _ => true
  | .nonceExpiry _ => true
  | .authLockoutEnd _ => true
  | .mbxDoorbell _ _ => true
  | .ccMailboxDoorbell _ => true
  | .t1sFrame _ => true
  | .i3cPrivateWrite _ => true
  | .i3cPrivateRead => true
  | .dict _ _ _ => true
  | .expertNonce _ => true
  | .expertAuth _ _ => true
  | .expertLock _ _ => true
  | .freqFineStep _ => true
  | .addS _ _ w => rowWord w 0 0x00 none
  | .subS _ _ w => rowWord w 0 0x01 none
  | .andS _ _ w => rowWord w 0 0x02 none
  | .orS _ _ w => rowWord w 0 0x03 none
  | .xorS _ _ w => rowWord w 0 0x04 none
  | .shlS _ _ w => rowWord w 0 0x05 none
  | .shrS _ _ w => rowWord w 0 0x06 none
  | .sraS _ _ w => rowWord w 0 0x07 none
  | .mulS _ _ w => rowWord w 0 0x08 none
  | .cmpS _ _ w => rowWord w 0 0x09 none
  | .addiS _ _ w => rowWord w 1 0x00 none
  | .liS _ _ w => rowWord w 1 0x01 none
  | .fmaF32 _ _ w => rowWord w 0 0x20 none
  | .addF32 _ _ w => rowWord w 0 0x21 none
  | .subF32 _ _ w => rowWord w 0 0x22 none
  | .mulF32 _ _ w => rowWord w 0 0x23 none
  | .minF32 _ _ w => rowWord w 0 0x24 none
  | .maxF32 _ _ w => rowWord w 0 0x25 none
  | .exp2F32 _ _ w => rowWord w 0 0x26 none
  | .log2F32 _ _ w => rowWord w 0 0x27 none
  | .rcpF32 _ _ w => rowWord w 0 0x28 none
  | .rsqF32 _ _ w => rowWord w 0 0x29 none
  | .cmpF32 _ _ w => rowWord w 0 0x2A none
  | .cmpI32 _ _ w => rowWord w 0 0x34 none
  | .addI32 _ _ w => rowWord w 0 0x30 none
  | .subI32 _ _ w => rowWord w 0 0x31 none
  | .mulI32 _ _ w => rowWord w 0 0x32 none
  | .logicI32 _ _ w => rowWord w 0 0x33 none
  | .selV _ _ w => rowWord w 0 0x35 none
  | .shflV _ _ w => rowWord w 0 0x36 none
  | .cvt _ _ w => rowWord w 0 0x38 none
  | .addiI32 _ _ w => rowWord w 1 0x20 none
  | .mmaT _ _ w => rowWord w 3 0x00 none
  | .accLdT _ _ w => rowWord w 3 0x01 none
  | .accStT _ _ w => rowWord w 3 0x02 none
  | .cvtMxT _ _ w => rowWord w 3 0x04 none
  | .tcopyT _ _ w => rowWord w 3 0x05 none
  | .ld _ _ w => rowWord w 2 0x00 none
  | .st _ _ w => rowWord w 2 0x01 none
  | .atom _ _ w => rowWord w 2 0x02 none
  | .loadComplete _ _ _ _ _ => true
  | .xlatWalk _ _ _ _ _ => true
  | .invL1 _ _ w => rowWord w 5 0x05 none
  | .wbL1 _ _ w => rowWord w 5 0x06 none
  | .barGb _ _ w => rowWord w 5 0x03 none
  | .fenceGb _ _ w => rowWord w 5 0x04 (some 0)
  | .fenceDev _ _ w => rowWord w 5 0x04 (some 1)
  | .fenceSys _ _ w => rowWord w 5 0x04 (some 2)
  | .lathWait _ _ w => rowWord w 5 0x07 none
  | .posGen _ _ w => rowWord w 1 0x40 none
  | .maskT _ _ w => rowWord w 3 0x10 none
  | .ropeT _ _ w => rowWord w 3 0x11 none
  | .smaxRun _ _ w => rowWord w 3 0x12 none
  | .accScaleT _ _ w => rowWord w 3 0x03 none
  | .plbIssue _ _ w => rowWord w 5 0x08 none
  | .plbPoll _ _ w => rowWord w 5 0x09 none
  | .br _ _ w => rowWord w 4 0x00 none
  | .brU _ _ w => rowWord w 4 0x01 none
  | .jmp _ _ w => rowWord w 4 0x02 none
  | .call _ _ w => rowWord w 4 0x03 none
  | .ret _ _ w => rowWord w 4 0x04 none
  | .nop _ _ w => rowWord w 5 0x00 none
  | .exit _ _ w => rowWord w 5 0x01 none
  | .brk _ _ w => rowWord w 5 0x0C none
  | .yield _ _ w => rowWord w 5 0x02 none
  | .csrR _ _ w => rowWord w 5 0x0A none
  | .csrW _ _ w => rowWord w 5 0x0B none
  | .yieldExpire _ _ => true
  | .memEntryFree _ _ => true
  | .slotFree _ _ => true
  | .longStep _ _ => true
  | .tileWindowAccess _ _ => true
  | .starveEvent _ _ _ => true
  | .lathWordLand _ _ _ => true
  | .drain _ => true
  | .eccWriteback _ _ => true
  | .retWake _ => true
  | .retRetain _ => true
  | .retainDone _ => true
  | .wakeDone _ => true
  | .winUpdate _ _ _ => true
  | .xlatInval _ _ _ => true
  | .lathScheduleStart _ => true
  | .lathWord _ _ _ _ => true
  | .injRefill _ => true
  | .lathStop _ _ => true
  | .scrimPacket node _ _ => nodeOk node
  | .agePromotion _ => true
  | .clsLoad _ => true
  | .clsEntry _ _ => true
  | .ucRead k r _ => sliceFits s k r
  | .ucWrite k r _ => sliceFits s k r
  | .ucFillComplete _ _ => true
  | .ucHeldRelease _ _ => true
  | .ucFlush _ _ => true
  | .ucScrub _ _ _ _ _ => true
  | .getS m => lineServed s .getS m
  | .getM m => lineServed s .getM m
  | .putS m => lineServed s .putS m
  | .putE m => lineServed s .putE m
  | .bezelAtom m => lineServed s .atom m
  | .readOnce m => lineServed s .readOnce m
  | .writeOnce m => lineServed s .writeOnce m
  | .fwdGets m => lineServed s .fwdGetS m
  | .fwdGetm m => lineServed s .fwdGetM m
  | .fwdGetmAp m => lineServed s .fwdGetMAp m
  | .inv m => lineServed s .inv m
  | .recallS m => lineServed s .recallS m
  | .recallI m => lineServed s .recallI m
  | .gntM m => lineServed s .gntM m
  | .gntAcks m => lineServed s .gntAcks m
  | .invAck m => lineServed s .invAck m
  | .fwdDoneO m => lineServed s .fwdDoneO m
  | .fwdDoneS m => lineServed s .fwdDoneS m
  | .fwdDoneI m => lineServed s .fwdDoneI m
  | .fwdMiss m => lineServed s .fwdMiss m
  | .rspWbpend m => lineServed s .rspWbpend m
  | .wbAck m => lineServed s .wbAck m
  | .comp m => lineServed s .comp m
  | .homeLost m => lineServed s .homeLost m
  | .remoteLost m => lineServed s .remoteLost m
  | .compAck m => lineServed s .compAck m
  | .dataS m => lineServed s .dataS m
  | .dataE m => lineServed s .dataE m
  | .dataM m => lineServed s .dataM m
  | .dataMAp m => lineServed s .dataMAp m
  | .rspData m => lineServed s .rspData m
  | .putM m => lineServed s .putM m
  | .putO m => lineServed s .putO m
  | .dataOnce m => lineServed s .dataOnce m
  | .atomData m => lineServed s .atomData m
  | .holdEnd _ _ => true
  | .homeQuiesce _ => true
  | .homeReturn _ => true
  | .bDieLoss _ => true
  | .stackTempRead _ _ => true
  | .hbmRead _ _ _ => true
  | .hbmWrite _ _ => true
  | .hbmRefresh _ _ _ => true
  | .hbmScrub _ _ _ _ _ => true
  | .redirectAdd _ _ _ _ _ _ _ => true
  | .reserve _ _ => true
  | .heldaAdapterUp e _ => endOk s e
  | .heldaFlit e _ => endOk s e
  | .cap e _ => endOk s e
  | .capCommit e _ => endOk s e
  | .capAccept e => endOk s e
  | .capReject e _ => endOk s e
  | .negotiationTimeout e => endOk s e
  | .heldaTrainFail e => endOk s e
  | .heldaRetrain e => endOk s e
  | .heldaRetrainLimit e => endOk s e
  | .heldaAdapterFail e => endOk s e
  | .heldaDownRetry e => endOk s e
  | .heldaLinkRecover e _ => endOk s e
  | .demand agent _ => powerAgent s agent
  | .grant agent _ _ _ => powerAgent s agent
  | .demandPeriod _ _ _ => true
  | .grantMiss agent => powerAgent s agent
  | .heldaLinkEnable link => linkOk s link
  | .heldaLinkDisable link => linkOk s link
  | .heldaLinkRetrain link => linkOk s link
  | .sitepEnable _ => s.part.variant == .qx4p
  | .carrakFlit _ _ => true
  | .nak _ _ => true
  | .nakRepeat _ => true
  | .hello _ _ => true
  | .helloSend _ => true
  | .helloTimeout _ => true
  | .portTrained _ _ => true
  | .portTrainFail _ => true
  | .portDownRetry _ => true
  | .fecLockLoss _ => true
  | .portRetrainLimit _ => true
  | .lsa _ _ => true
  | .lsaPeriodic => true
  | .lsaAgeOut _ => true
  | .routeRecompute => true
  | .lossNotice _ _ _ _ => true
  | .unreach _ _ => true
  | .carrakLinkRecover _ _ => true
  | .stewardReq _ _ _ => true
  | .stewardRsp _ _ _ => true
  | .stewardTimeout _ => true
  | .stewardBackoffEnd _ => true
  | .stewardTake _ => true
  | .stewardGive _ => true
  | .idClaim _ _ => true
  | .idRelease => true
  | .claimTimer => true
  | .autoReclaim => true
  | .portIdleHalf _ => true
  | .portWiden _ => true
  | .fecErrorRetrain _ => true
  | .portEnable _ => true
  | .portDisable _ => true
  | .portRetrain _ => true
  | .portCounterClear _ => true
  | .crazeStart _ => true
  | .crazeStop => true
  | .crazeDurationEnd => true
  | .crazeUnlock _ => true
  | .crazeGrantExpiry => true
  | .configRequest _ _ _ _ => true
  | .bar2Read _ _ _ _ => true
  | .bar2Write _ _ _ _ => true
  | .bar2Atomic _ _ _ _ _ _ _ => true
  | .cmdTail _ _ _ => true
  | .cplHead _ _ _ => true
  | .cmdFetch _ => true
  | .completionWrite _ => true
  | .coalesceTimer _ => true
  | .flrVf _ => true
  | .flrPf => true
  | .powerStateChange _ _ => true
  | .vfMap _ _ _ _ => true
  | .ringEnable _ => true
  | .ringDisable _ => true
  | .ringNop _ => true
  | .launch _ => true
  | .dmaCopy _ _ _ _ => true
  | .signal _ _ => true
  | .wait _ _ => true
  | .waitPoll _ _ => true
  | .ringWinUpdate _ => true
  | .ringXlatInval _ => true
  | .flushUc _ => true
  | .hostCompletion _ _ _ _ => true
  | .hostCplTimeout _ => true
  | .hostLinkDown => true
  | .hostLinkUp _ _ _ _ => true
  | .snpInv _ => true
  | .snpData _ => true
  | .snpCur _ => true
  | .memRd _ _ _ => true
  | .memWr _ _ _ _ _ => true
  | .biRsp _ _ => true
  | .planLoad _ _ _ _ => true
  | .planUnload _ _ => true
  | .kernelStart _ => true
  | .dmaTransferStart _ _ => true
  | .dmaTransferDone _ _ _ => true
  | .tileOverrun _ _ => true
  | .plbShare _ _ => true
  | .plbDescStart _ _ _ => true
  | .plbStep _ _ _ => true
  | .partCreate _ _ => true
  | .partResize _ _ => true
  | .partDestroy _ => true
  | .ctxCreate _ _ => true
  | .ctxDestroy _ => true
  | .urgentStop _ => true
  | .ctxPreempt _ => true
  | .setPriority _ _ => true
  | .partitionPolicy _ _ _ _ _ _ => true
  | .sliceExpiry _ => true
  | .tbGraceExpiry _ => true
  | .saveComplete _ => true
  | .restoreComplete _ => true
  | .contextFault _ _ _ _ _ _ _ _ => true
  | .urgentStopComplete _ => true
  | .retainIdleExpiry _ => true
  | .sensorSample _ _ _ => true
  | .powerSample _ _ _ => true
  | .logPersist => true
  | .logRecords _ => true
  | .wmNotice _ => true
  | .fanUpdate => true
  | .fwImage _ _ _ => true
  | .fwVerify => true
  | .fwActivate => true
  | .fwCommit => true
  | .fwAbort => true
  | .fwTrialTimeout => true
  | .watchdog => true
  | .askarRestart => true
  | .askarServing => true
  | .provNonce => true
  | .lcRequest _ => true
  | .keyUpdate _ => true
  | .sealWrite _ _ => true
  | .tamperEvent _ => true
  | .tamperLoopOpen => true
  | .attestNonce _ => true
  | .attestReport => true
  | .railOutOfRange _ => true
  | .railInRange _ => true
  | .rampStart _ => true
  | .rampDone d => domExists s d
  | .latchedSlow d => domExists s d
  | .shortDetect d => domExists s d
  | .shortConfirm d => domExists s d
  | .shortClear d => domExists s d
  | .domainClear _ => true
  | .arbiterPeriod _ => true
  | .clockCeilingStep _ _ => true
  | .clampSet _ => true
  | .clampRelease _ => true
  | .vtLevelChange _ => true
  | .thermalTrip _ => true
  | .pllUnlock island => islandExists s island
  | .pllRelock _ => true
  | .refclkLoss => true
  | .refclkLost => true
  | .powerOn _ _ _ => true
  | .packageReset _ _ _ => true
  | .perstNDeassert => true
  | .askarOnlyReset => true
  | .dieReset _ _ => true
  | .askarBoot => true
  | .powerUp => true
  | .railWaitExpiry => true
  | .hotAtStart => true
  | .hbmTrain _ => true
  | .heldaTrain => true
  | .controlBoot => true
  | .hostUp _ => true
  | .startupEnd => true
  | .stageTimeout => true
  | .eiRun _ _ _ _ => true
  | .i3cTargetReset => true
  | .i3cCcc _ => true
  | .t1sLinkDown => true
  | .msixUnmask _ _ => true
  | .bar0Access _ _ _ _ => true
  | .cxlCacheResponse _ _ _ _ => true
  | .refclkReturn => true

/-- The device accepts a command. -/
def accepts (s : State) (i : Instr) : Bool := i.wf && fits s i

/-- A step is safe where it answers a next state. -/
def stepSafe (s : State) : Prop := ∃ t, step s = .next t

/-- Every command in the queue is well formed. -/
def queueWf (s : State) : Bool := s.pending.all Instr.wf

end Sys2Proof.Machine
end

