-- ==== Sys2Proof/Terms.lean ====
section
/-! DEFINITION. The terms in which the statements speak of a thread group, of what a core instruction leaves alone, and of a request at its
home slice. -/
namespace Sys2Proof.Machine

/-- The slot `t` of core `c`. -/
def slotAt (s : State) (c t : Nat) : Slot := slotGet (coreGet s c) t

/-- The thread group in slot `t` of core `c` issues a word of a pipe now (R85, R94, R121, R134): its slot and its core run, it
is not resuming a long instruction, a thread is active unless the instruction executes whatever the mask, no outstanding load
owes a register the word names, and no long instruction of another slot holds the pipe. -/
def canIssue (s : State) (c t : Nat) (w : W64) (pipe : Nat) (maskFree : Bool) : Prop :=
  c < 4608 ∧ t < 16 ∧ slotReady (slotAt s c t) = true ∧ coreRuns s c = true ∧ (slotAt s c t).resuming = false ∧
  (maskFree = true ∨ (slotAt s c t).mask ≠ 0) ∧
  (∀ r ∈ usedV w, (pendingV (coreGet s c) t).contains r = false) ∧ pipeBusy (coreGet s c) t pipe = false

/-- Nothing changes but slot `t` of core `c` and the note of which slot issued last (R95): every other core, slot, register,
memory and unit of the device stays as it was. -/
def onlySlot (s u : State) (c t : Nat) : Prop :=
  { u with cores := s.cores } = s ∧ (∀ k, k ≠ c → coreGet u k = coreGet s k) ∧
  { coreGet u c with slots := (coreGet s c).slots, lastIssue := (coreGet s c).lastIssue } = coreGet s c ∧
  ∀ k, k ≠ t → slotGet (coreGet u c) k = slotGet (coreGet s c) k

/-- The slot after an instruction that writes at most S registers: PC at the next instruction (R87), all else as it was. -/
def onlyS (x y : Slot) : Prop := { y with s := x.s } = advance { x with st := .ready }

/-- The slot after an instruction that writes at most V registers and TG_FLAGS. -/
def onlyV (x y : Slot) : Prop := { y with v := x.v, flags := x.flags } = advance { x with st := .ready }

/-- S[d] holds `v` (S0 reads as 0 and keeps nothing), and every other S register is as it was (R84). -/
def wroteS (x y : Slot) (d : Nat) (v : W64) : Prop :=
  sRead y d = (if d = 0 then 0 else v) ∧ ∀ r, r ≠ d → sRead y r = sRead x r

/-- V[d] holds `f l` in every active lane l, no other lane or register changes, and the flags of the active lanes are raised
(R84, R86, R106). -/
def wroteV (x y : Slot) (d : Nat) (f : Nat → Lane) : Prop :=
  (∀ r l, l < 32 → vRead y r l = if r = d ∧ x.mask.getLsbD l = true then (f l).1 else vRead x r l) ∧
  y.flags = (lanesOf x.mask).foldl (fun a l => a ||| (f l).2) x.flags

/-- The saturating counter `i.j` of `w` bits has advanced by one from `s` to `u`. -/
def countsOne (s u : State) (i j w : Nat) : Prop := num u i j 0 = min (num s i j 0 + 1) (2 ^ w - 1)

/-- Only the result of the command has changed. -/
def onlyResult (s u : State) : Prop := { u with dict := { u.dict with result := s.dict.result } } = s

/-- A request for a backed line of this device, in service, stands at the line's home slice, and nothing is ahead of it: no
request is held, no context is being flushed, no tracker is busy with the line and no copy must be recalled first (R221, R234,
R258, R276, R286). -/
def plainHome (s : State) (k : Nat) (r : UcReq) : Prop :=
  k < 256 ∧ devOf r.addr = devId s ∧ localOf r.addr < backedBytes ∧ k = homeSlice r.addr r.near ∧
  isOut s (8 + (hbmPlace (localOf r.addr)).stack) = false ∧ homeServes s (k / 64) = true ∧ s.errs.planted = [] ∧
  s.uc.flushing = [] ∧ (sliceGet s k).c.held = [] ∧ findTracker s k (lineOf r.addr) = none ∧ needsRecall s k r = false

/-- Nothing waits at any home: no tracker is busy, no request is held there, no home is quiescing and no context is being flushed
(R234, R239, R258, R275). -/
def homesIdle (s : State) : Prop :=
  (∀ e ∈ s.uc.slices, e.2.trackers = [] ∧ e.2.homeHeld = []) ∧ (∀ b, b < 4 → (homeGet s b).st ≠ .quiescing) ∧ s.uc.flushing = []

/-- The command by which a Bezel message arrives (R253). -/
def bezelCmd (op : BOp) (m : BMsg) : Instr :=
  match op with
  | .getS => .getS m | .getM => .getM m | .putS => .putS m | .putE => .putE m | .atom => .bezelAtom m
  | .readOnce => .readOnce m | .writeOnce => .writeOnce m
  | .fwdGetS => .fwdGets m | .fwdGetM => .fwdGetm m | .fwdGetMAp => .fwdGetmAp m | .inv => .inv m
  | .recallS => .recallS m | .recallI => .recallI m
  | .gntM => .gntM m | .gntAcks => .gntAcks m | .invAck => .invAck m | .fwdDoneO => .fwdDoneO m
  | .fwdDoneS => .fwdDoneS m | .fwdDoneI => .fwdDoneI m | .fwdMiss => .fwdMiss m | .rspWbpend => .rspWbpend m
  | .wbAck => .wbAck m | .comp => .comp m | .homeLost => .homeLost m | .remoteLost => .remoteLost m | .compAck => .compAck m
  | .dataS => .dataS m | .dataE => .dataE m | .dataM => .dataM m | .dataMAp => .dataMAp m | .rspData => .rspData m
  | .putM => .putM m | .putO => .putO m | .dataOnce => .dataOnce m | .atomData => .atomData m

/-- The table of R261: what a caching agent answers to a snoop in each state, and the state after; none where it defers the snoop
or the entry is a protocol error. -/
def snoopRow (op : BOp) (st : LineState) : Option (List BOp × LineState) :=
  match op, st with
  | .inv, .i => some ([.invAck], .i)
  | .inv, .s => some ([.invAck], .i)
  | .inv, .isD => some ([.invAck], .isDI)
  | .inv, .smAD => some ([.invAck], .imAD)
  | .inv, .siA => some ([.invAck], .siA)
  | .fwdGetS, .e => some ([.dataS, .fwdDoneS], .s)
  | .fwdGetS, .o => some ([.dataS, .fwdDoneO], .o)
  | .fwdGetS, .m => some ([.dataS, .fwdDoneO], .o)
  | .fwdGetS, .omA => some ([.dataS, .fwdDoneO], .omA)
  | .fwdGetM, .e => some ([.dataM, .fwdDoneI], .i)
  | .fwdGetM, .o => some ([.dataM, .fwdDoneI], .i)
  | .fwdGetM, .m => some ([.dataM, .fwdDoneI], .i)
  | .fwdGetM, .omA => some ([.dataM, .fwdDoneI], .imAD)
  | .fwdGetMAp, .e => some ([.dataMAp, .fwdDoneI], .i)
  | .fwdGetMAp, .o => some ([.dataMAp, .fwdDoneI], .i)
  | .fwdGetMAp, .m => some ([.dataMAp, .fwdDoneI], .i)
  | .fwdGetMAp, .omA => some ([.dataMAp, .fwdDoneI], .imAD)
  | .recallS, .e => some ([.invAck], .s)
  | .recallS, .o => some ([.rspData], .s)
  | .recallS, .m => some ([.rspData], .s)
  | .recallS, .omA => some ([.rspData], .smAD)
  | .recallI, .e => some ([.invAck], .i)
  | .recallI, .o => some ([.rspData], .i)
  | .recallI, .m => some ([.rspData], .i)
  | .recallI, .omA => some ([.rspData], .imAD)
  | .fwdGetS, .miA => some ([.rspWbpend], .miA)
  | .fwdGetM, .miA => some ([.rspWbpend], .miA)
  | .fwdGetMAp, .miA => some ([.rspWbpend], .miA)
  | .recallS, .miA => some ([.rspWbpend], .miA)
  | .recallI, .miA => some ([.rspWbpend], .miA)
  | .fwdGetS, .eiA => some ([.fwdMiss], .eiA)
  | .fwdGetM, .eiA => some ([.fwdMiss], .eiA)
  | .fwdGetMAp, .eiA => some ([.fwdMiss], .eiA)
  | .recallS, .eiA => some ([.invAck], .eiA)
  | .recallI, .eiA => some ([.invAck], .eiA)
  | _, _ => none

/-- The data columns of R260: the state that a data message or a grant leads to; none where it is a protocol error. -/
def grantRow (op : BOp) (st : LineState) : Option LineState :=
  match op, st with
  | .dataS, .isD => some .s
  | .dataE, .isD => some .eH
  | .dataS, .isDI => some .i
  | .dataE, .isDI => some .i
  | .dataM, .imAD => some .mH
  | .dataMAp, .imAD => some .imA
  | .gntAcks, .imAD => some .imD
  | .gntAcks, .imA => some .mH
  | .dataMAp, .imD => some .mH
  | .dataM, .smAD => some .mH
  | .dataMAp, .smAD => some .imA
  | .gntM, .smAD => some .mH
  | .gntAcks, .smAD => some .imD
  | .gntM, .omA => some .mH
  | _, _ => none

/-- A message stands at slice `k`, a guest or proxy for its line, which is no line of the host window. -/
def atCopy (s : State) (k : Nat) (m : BMsg) : Prop :=
  k < 256 ∧ m.dst = .slice k ∧ m.addr % 1024 = 0 ∧ isHostAddr m.addr = false ∧ m.src ≠ .host ∧
  (roleOf s k m.addr m.near = some .guest ∨ roleOf s k m.addr m.near = some .proxy)

/-- Slice `k` holds a line in a state of R254, in the one place where a line in that state is: its way, its MSHR or the
write-back buffer. -/
def copyAt (s : State) (k line : Nat) (st : LineState) : Prop :=
  let c := (sliceGet s k).c
  match st with
  | .i => findWay c line = none ∧ findMshr c line = none ∧ findEvict c line = none
  | .s | .e | .o | .m => (∃ j w, findWay c line = some (j, w) ∧ w.st = st) ∧ findMshr c line = none ∧ findEvict c line = none
  | .miA | .eiA | .siA => findWay c line = none ∧ findMshr c line = none ∧ ∃ e, findEvict c line = some e ∧ e.st = st
  | .home => False
  | _ => (∃ x, findMshr c line = some x ∧ x.bz = st ∧ x.needWay = false) ∧ findEvict c line = none ∧
      ∀ j w, findWay c line = some (j, w) → w.st = st ∧ st ≠ .isD ∧ st ≠ .isDI

/-- A message stands at the home slice `k` of its line, which is backed and in service, and nothing waits at any home. -/
def atIdleHome (s : State) (k : Nat) (m : BMsg) : Prop :=
  k < 256 ∧ m.dst = .slice k ∧ m.addr % 1024 = 0 ∧ roleOf s k m.addr m.near = some .home ∧ lineBad s m.addr = false ∧
  homeServes s (k / 64) = true ∧ homesIdle s

/-- The command by which a request with an opcode of R65 arrives at an endpoint. -/
def reqCmd (op : Nat) (ep : Endpoint) (r : Req) : Instr :=
  match op with
  | 1 => .openSession ep r
  | 2 => .close ep r
  | 3 => .read ep r
  | 4 => .write ep r
  | 5 => .readSeg ep r
  | 6 => .writeSeg ep r
  | 7 => .poll ep r
  | _ => .enumerate ep r

/-- A request whose fields fit their widths (R64). -/
def reqFits (r : Req) : Prop :=
  r.session < 65536 ∧ r.tag < 65536 ∧ r.index < 65536 ∧ r.sub < 256 ∧ r.payload.length < 65536

/-- A request without a message-format fault (R65, R67). -/
def goodReq (op : Nat) (r : Req) : Prop :=
  1 ≤ op ∧ op ≤ 8 ∧ reqFits r ∧ r.payload.length ≤ 1024 ∧ (r.whole = true → r.sub = 0) ∧
  (op = 1 ∨ op = 2 ∨ op = 3 ∨ op = 7 ∨ op = 8 → r.payload = []) ∧ (op = 5 → r.payload.length = 4) ∧ (op = 6 → 4 ≤ r.payload.length)

/-- A request at an endpoint of the device is served at once: Askar serves, and nothing waits before it (R62, R76). -/
def servesNow (s : State) (ep : Endpoint) : Prop := epExists ep = true ∧ s.dict.waiting = [] ∧ s.askar.run = .serving

/-- A request's FLAGS (R64). -/
def reqFlags (r : Req) : Nat := b2n r.whole + 2 * b2n r.last + 4 * b2n r.desc

/-- The fields of a request as the dictionary reads them (R64). -/
def reqHeader (op : Nat) (r : Req) : Header :=
  { ver := 1, opcode := op, flags := reqFlags r, status := 0, session := r.session, tag := r.tag, index := r.index, sub := r.sub,
    res11 := 0, length := r.payload.length, res14 := 0, payload := r.payload }

/-- The session that a request names has seen it (R51). -/
def touched (s : State) (sid : Nat) : State := modSession sid (fun x => { x with lastAt := time s }) s

/-- The fused skip map is legal (R22): the two disabled columns of every row are in increasing order and not adjacent, and columns of
the die (R20). -/
def skipLegal (s : State) : Prop :=
  ∀ d r, d < 4 → r < 36 → (sget (0, 2) s.part.skip (36 * d + r)).1 + 1 < (sget (0, 2) s.part.skip (36 * d + r)).2 ∧
    (sget (0, 2) s.part.skip (36 * d + r)).2 < 34

end Sys2Proof.Machine
end

