-- ==== Sys2Proof/Certificates/Slice0/Obligations.lean ====
section
/-! DEFINITION. The statements for the provers: what the commands of the QX4 do, family by family. -/

open Sys2Proof Sys2Proof.Machine

/-- R23, R26, R27, R29: the numbers of a core. Device core number, CORE_REF, section and coordinates name the same core, a section is the 32 cores of one
block of 4 rows by 8 columns; and with a legal skip map the 32 logical columns of a row stand, in order, on the 32 physical
columns that are not disabled, in the row of the same number. -/
def Obligations.CoreNumbers : Prop :=
  (∀ die lx ly, die < 4 → lx < 32 → ly < 36 →
    let c := die * 1152 + ly * 32 + lx
    c < 4608 ∧ coreDie c = die ∧ coreLx c = lx ∧ coreLy c = ly ∧ coreRef c = lx + 2 ^ 5 * ly + 2 ^ 11 * die ∧ coreRef c ≤ 0x1C7F ∧
    ofCoreRef (coreRef c) = some c ∧ coreSection c = 36 * die + (ly / 4 * 4 + lx / 8) ∧ coreSection c < 144 ∧
    ∀ k, k < 144 → (c ∈ sectionCores k ↔ k = coreSection c)) ∧
  (∀ c, c < 4608 → ∃ die lx ly, die < 4 ∧ lx < 32 ∧ ly < 36 ∧ c = die * 1152 + ly * 32 + lx) ∧
  (∀ r c, r < 65536 → (ofCoreRef r = some c ↔ c < 4608 ∧ coreRef c = r)) ∧
  ∀ (s : State) (d r : Nat), skipLegal s → d < 4 → r < 36 →
    let k := sget (0, 2) s.part.skip (36 * d + r)
    (∀ x, x < 32 → physicalColumn s d r x = (let px := if k.1 ≤ x then x + 1 else x; if k.2 ≤ px then px + 1 else px) ∧
      physicalColumn s d r x < 34 ∧ physicalColumn s d r x ≠ k.1 ∧ physicalColumn s d r x ≠ k.2) ∧
    (∀ x y, x < y → physicalColumn s d r x < physicalColumn s d r y) ∧
    ∀ p, p < 34 → p ≠ k.1 → p ≠ k.2 → ∃ x, x < 32 ∧ physicalColumn s d r x = p

/-- R84, R119: ADD.S, SUB.S, AND.S, OR.S, XOR.S and MUL.S write S[D] from S[A] and S[B], wrapping at 64 bits; the shifts do for
amounts below 64; CMP.S writes 1 or 0 by MOD. Nothing else of the thread group or the device changes.

R119: LI.S with MOD 1 writes IMM32 into S[D][63:32] and keeps the low half. Of ADDI.S, and of LI.S with MOD 0, the low 32
bits are those of S[A] + IMM32 and of IMM32 (how IMM32 is extended is left open: the free `iImm`, assumption 8). -/
def Obligations.ScalarResults : Prop :=
  (
    ∀ (c t : Nat) (w : W64) (s : State), canIssue s c t w 0 true →
      let x := slotAt s c t
      let a := sRead x (iA w)
      let b := sRead x (iB w)
      let writes := fun (i : Instr) (v : W64) => ∃ u : State, exec i s = .next u ∧ onlySlot s u c t ∧ onlyS x (slotAt u c t) ∧
        wroteS x (slotAt u c t) (iD w) v
      (okScalar3 1 w = true →
        (isOp w 0 0 none = true → writes (.addS c t w) (a + b)) ∧
        (isOp w 0 1 none = true → writes (.subS c t w) (a - b)) ∧
        (isOp w 0 2 none = true → writes (.andS c t w) (a &&& b)) ∧
        (isOp w 0 3 none = true → writes (.orS c t w) (a ||| b)) ∧
        (isOp w 0 4 none = true → writes (.xorS c t w) (a ^^^ b)) ∧
        (isOp w 0 5 none = true → b.toNat < 64 → writes (.shlS c t w) (a <<< b.toNat)) ∧
        (isOp w 0 6 none = true → b.toNat < 64 → writes (.shrS c t w) (a >>> b.toNat)) ∧
        (isOp w 0 7 none = true → b.toNat < 64 → writes (.sraS c t w) (a.sshiftRight b.toNat)) ∧
        (isOp w 0 8 none = true → writes (.mulS c t w) (a * b))) ∧
      (okScalar3 6 w = true → isOp w 0 9 none = true →
        (iMod w = 0 → writes (.cmpS c t w) (if a = b then 1 else 0)) ∧
        (iMod w = 1 → writes (.cmpS c t w) (if a = b then 0 else 1)) ∧
        (iMod w = 2 → writes (.cmpS c t w) (if a.toInt < b.toInt then 1 else 0)) ∧
        (iMod w = 3 → writes (.cmpS c t w) (if a.toInt ≤ b.toInt then 1 else 0)) ∧
        (iMod w = 4 → writes (.cmpS c t w) (if a.toNat < b.toNat then 1 else 0)) ∧
        (iMod w = 5 → writes (.cmpS c t w) (if a.toNat ≤ b.toNat then 1 else 0)))) ∧
  (
    ∀ (c t : Nat) (w : W64) (s : State), canIssue s c t w 0 true →
      let x := slotAt s c t
      let writes := fun (i : Instr) (v : W64) => ∃ u : State, exec i s = .next u ∧ onlySlot s u c t ∧ onlyS x (slotAt u c t) ∧
        wroteS x (slotAt u c t) (iD w) v
      (isOp w 1 0 none = true → okScalarI 1 w = true →
        writes (.addiS c t w) (sRead x (iA w) + iImm w) ∧ (iImm w).truncate 32 = w.extractLsb' 32 32) ∧
      (isOp w 1 1 none = true → okScalarI 2 w = true → iMod w = 0 → writes (.liS c t w) (iImm w)) ∧
      (isOp w 1 1 none = true → okScalarI 2 w = true → iMod w = 1 →
        writes (.liS c t w) ((w.extractLsb' 32 32 : W32) ++ ((sRead x (iD w)).truncate 32 : W32))))

/-- R84, R86, R119: the integer vector instructions write V[D] of the active lanes alone, from each lane's sources, and raise no
flag: ADD, SUB and MUL wrap at 32 bits, LOGIC.I32 goes by MOD (its shifts for amounts below 32), CMP.I32 gives 1 or 0 by MOD,
SEL.V takes A where C is not 0, SHFL.V takes A of the lane that B mod 32 names, ADDI.I32 adds IMM32. -/
def Obligations.VectorIntegerResults : Prop :=
  ∀ (c t : Nat) (w : W64) (s : State), canIssue s c t w 1 false →
    let x := slotAt s c t
    let a := srcA w x
    let b := srcB w x
    let writes := fun (i : Instr) (v : Nat → W32) => ∃ u : State, exec i s = .next u ∧ onlySlot s u c t ∧ onlyV x (slotAt u c t) ∧
      wroteV x (slotAt u c t) (iD w) (fun l => (v l, 0))
    (okVector3 1 2 w = true →
      (isOp w 0 0x30 none = true → writes (.addI32 c t w) (fun l => a l + b l)) ∧
      (isOp w 0 0x31 none = true → writes (.subI32 c t w) (fun l => a l - b l)) ∧
      (isOp w 0 0x32 none = true → writes (.mulI32 c t w) (fun l => a l * b l)) ∧
      (isOp w 0 0x36 none = true → writes (.shflV c t w) (fun l => a ((b l).toNat % 32)))) ∧
    (okVector3 6 2 w = true → isOp w 0 0x33 none = true →
      (iMod w = 0 → writes (.logicI32 c t w) (fun l => a l &&& b l)) ∧
      (iMod w = 1 → writes (.logicI32 c t w) (fun l => a l ||| b l)) ∧
      (iMod w = 2 → writes (.logicI32 c t w) (fun l => a l ^^^ b l)) ∧
      ∃ v, writes (.logicI32 c t w) v ∧ ∀ l, (b l).toNat < 32 →
        (iMod w = 3 → v l = a l <<< (b l).toNat) ∧ (iMod w = 4 → v l = a l >>> (b l).toNat) ∧
        (iMod w = 5 → v l = (a l).sshiftRight (b l).toNat)) ∧
    (okVector3 6 2 w = true → isOp w 0 0x34 none = true →
      (iMod w = 0 → writes (.cmpI32 c t w) (fun l => if a l = b l then 1 else 0)) ∧
      (iMod w = 1 → writes (.cmpI32 c t w) (fun l => if a l = b l then 0 else 1)) ∧
      (iMod w = 2 → writes (.cmpI32 c t w) (fun l => if (a l).toInt < (b l).toInt then 1 else 0)) ∧
      (iMod w = 3 → writes (.cmpI32 c t w) (fun l => if (a l).toInt ≤ (b l).toInt then 1 else 0)) ∧
      (iMod w = 4 → writes (.cmpI32 c t w) (fun l => if (a l).toNat < (b l).toNat then 1 else 0)) ∧
      (iMod w = 5 → writes (.cmpI32 c t w) (fun l => if (a l).toNat ≤ (b l).toNat then 1 else 0))) ∧
    (okVector3 1 3 w = true → isOp w 0 0x35 none = true →
      writes (.selV c t w) (fun l => if srcC w x l = 0 then b l else a l)) ∧
    (okVectorI w = true → isOp w 1 0x20 none = true →
      writes (.addiI32 c t w) (fun l => vSrc x (iSselI w 1) (iA w) l + w.extractLsb' 32 32))

/-- R84, R86, R105, R106, R119, R120: the FP32 instructions write V[D] of the active lanes alone and raise in TG_FLAGS what
the active lanes raise. FMA rounds the exact a × b + c once, ADD, SUB and MUL the exact sum, difference and product, by ROUND;
MIN and MAX of ordered values return the smaller and the larger; a NaN input gives a NaN; EXP2, LOG2, RCP and RSQ are fixed
functions of their input (opaque, assumption 9); CMP.F32 with MOD 0 to 3 orders as numbers, a NaN being unequal to all; CVT
converts from the type in C[3:0] to that in MOD. Whether a signalling NaN raises NV, and a NaN in CMP.F32, is free (assumption 8).

R105, R107: rounding to nearest even. A magnitude m × 2^e rounded to a multiple of 2^q lies within half a unit of that
multiple, a tie goes to the even multiple, and the result is inexact exactly where it is not equal. -/
def Obligations.VectorFloatResults : Prop :=
  (
    ∀ (c t : Nat) (w : W64) (s : State), canIssue s c t w 1 false →
      let x := slotAt s c t
      let m := modesOf x.coreMode
      let a := srcA w x
      let b := srcB w x
      let val := fun (v : W32) => decodeFp fFP32 m.daz v.toNat
      let writes := fun (i : Instr) (v : Nat → Lane) => ∃ u : State, exec i s = .next u ∧ onlySlot s u c t ∧ onlyV x (slotAt u c t) ∧
        wroteV x (slotAt u c t) (iD w) v
      let rounded := fun (op : Nat) (l : List W32) (e : FVal × W32) (r : Lane) =>
        ∃ n, r = laneOf (fromVal fFP32 m.round m.ftz n e.1) (e.2 ||| signalFlags op l)
      let lanes := fun (i : Instr) (P : Nat → Lane → Prop) => ∃ v, writes i v ∧ ∀ l, P l (v l)
      (okVector3 1 3 w = true → isOp w 0 0x20 none = true → lanes (.fmaF32 c t w)
        (fun l => rounded 0x20 [a l, b l, srcC w x l] (fmaVal m.round (val (a l)) (val (b l)) (val (srcC w x l))))) ∧
      (okVector3 1 2 w = true →
        (isOp w 0 0x21 none = true → lanes (.addF32 c t w)
          (fun l => rounded 0x21 [a l, b l] (addVal m.round (val (a l)) (val (b l))))) ∧
        (isOp w 0 0x22 none = true → lanes (.subF32 c t w)
          (fun l => rounded 0x22 [a l, b l] (addVal m.round (val (a l)) (val (b l)).neg))) ∧
        (isOp w 0 0x23 none = true → lanes (.mulF32 c t w)
          (fun l => rounded 0x23 [a l, b l] (mulVal (val (a l)) (val (b l))))) ∧
        (isOp w 0 0x24 none = true → lanes (.minF32 c t w) (fun l r =>
          (fLt (val (a l)) (val (b l)) = true → rounded 0x24 [a l, b l] (val (a l), 0) r) ∧
          (fLt (val (b l)) (val (a l)) = true → rounded 0x24 [a l, b l] (val (b l), 0) r) ∧
          (val (a l) = .nan ∨ val (b l) = .nan → rounded 0x24 [a l, b l] (.nan, 0) r))) ∧
        (isOp w 0 0x25 none = true → lanes (.maxF32 c t w) (fun l r =>
          (fLt (val (a l)) (val (b l)) = true → rounded 0x25 [a l, b l] (val (b l), 0) r) ∧
          (fLt (val (b l)) (val (a l)) = true → rounded 0x25 [a l, b l] (val (a l), 0) r) ∧
          (val (a l) = .nan ∨ val (b l) = .nan → rounded 0x25 [a l, b l] (.nan, 0) r)))) ∧
      (okVector3 1 1 w = true →
        (isOp w 0 0x26 none = true → writes (.exp2F32 c t w) (fun l => fixed32 Config.exp2F32 0x26 m (a l))) ∧
        (isOp w 0 0x27 none = true → writes (.log2F32 c t w) (fun l => fixed32 Config.log2F32 0x27 m (a l))) ∧
        (isOp w 0 0x28 none = true → writes (.rcpF32 c t w) (fun l => fixed32 Config.rcpF32 0x28 m (a l))) ∧
        (isOp w 0 0x29 none = true → writes (.rsqF32 c t w) (fun l => fixed32 Config.rsqF32 0x29 m (a l)))) ∧
      (okVector3 6 2 w = true → isOp w 0 0x2A none = true →
        (iMod w = 0 → writes (.cmpF32 c t w) (fun l => (if fEq (val (a l)) (val (b l)) then 1 else 0, cmpFlags (iMod w) (a l) (b l)))) ∧
        (iMod w = 1 → writes (.cmpF32 c t w) (fun l => (if fEq (val (a l)) (val (b l)) then 0 else 1, cmpFlags (iMod w) (a l) (b l)))) ∧
        (iMod w = 2 → writes (.cmpF32 c t w) (fun l => (if fLt (val (a l)) (val (b l)) then 1 else 0, cmpFlags (iMod w) (a l) (b l)))) ∧
        (iMod w = 3 → writes (.cmpF32 c t w) (fun l =>
          (if fLt (val (a l)) (val (b l)) || fEq (val (a l)) (val (b l)) then 1 else 0, cmpFlags (iMod w) (a l) (b l))))) ∧
      (∀ src dst, okCvt w = true → isOp w 0 0x38 none = true → elemOf (iC w % 16) = some src → elemOf (iMod w) = some dst →
        writes (.cvt c t w) (fun l => cvt32 src dst (iMod w) m (a l)))) ∧
  (
    ∀ (neg : Bool) (m : Nat) (e q : Int), e < q →
      let u := 2 ^ (q - e).toNat
      let r := roundAt 0 neg m e q
      2 * (r.1 * u) ≤ 2 * m + u ∧ 2 * m ≤ 2 * (r.1 * u) + u ∧
      ((2 * (r.1 * u) = 2 * m + u ∨ 2 * m = 2 * (r.1 * u) + u) → r.1 % 2 = 0) ∧ (r.2 = true ↔ r.1 * u ≠ m))

/-- R87, R114, R119: JMP, CALL, RET, BR.U and a BR on which the active threads agree go on at the address the word names
(reconverging where it is the one the top of the stack names); CALL leaves PC + 8 in S[A]; NOP goes on at the next instruction.
Nothing else changes.

R87: a BR on which the active threads differ sends the taken threads to TARGET and stacks the others with the
reconvergence address and the next instruction; with 32 entries stacked it raises DIV_OVERFLOW (0x0A) instead.

R87: going on at an address leaves the slot alone but for PC, unless the top of the stack names the address; then its
stacked threads run, or, once they have, the threads are one again. -/
def Obligations.BranchResults : Prop :=
  (
    ∀ (c t : Nat) (w : W64) (s : State),
      let x := { slotAt s c t with st := .ready }
      let a := sRead x (iD w)
      let there := relPc x.pc (iTarget w)
      let sets := fun (i : Instr) (y : Slot) => ∃ u : State, exec i s = .next u ∧ onlySlot s u c t ∧ slotAt u c t = y
      (canIssue s c t w 4 true → isOp w 5 0 none = true → okCtl 1 w = true → sets (.nop c t w) (goTo (x.pc + 8) x)) ∧
      (canIssue s c t w 4 true → isOp w 4 2 none = true → okBr false w = true → sets (.jmp c t w) (goTo there x)) ∧
      (canIssue s c t w 4 true → isOp w 4 3 none = true → okBr true w = true →
        sets (.call c t w) (goTo there (sWrite x (iD w) (BitVec.ofNat 64 (x.pc + 8))))) ∧
      (canIssue s c t w 4 true → isOp w 4 4 none = true → okBr true w = true →
        sets (.ret c t w) (goTo (a.toNat / 8 * 8) x)) ∧
      (canIssue s c t w 4 false → isOp w 4 1 none = true → okBr true w = true →
        sets (.brU c t w) (goTo (if (a ≠ 0) ↔ (iNeg w = false) then there else x.pc + 8) x)) ∧
      (canIssue s c t w 4 false → isOp w 4 0 none = true → okBr (iBrScalar w) w = true →
        (takenMask w x = x.mask → sets (.br c t w) (goTo there x)) ∧
        (takenMask w x = 0 → sets (.br c t w) (goTo (x.pc + 8) x)))) ∧
  (
    ∀ (c t : Nat) (w : W64) (s : State),
      let x := { slotAt s c t with st := .ready }
      let tk := takenMask w x
      canIssue s c t w 4 false → isOp w 4 0 none = true → okBr (iBrScalar w) w = true → tk ≠ x.mask → tk ≠ 0 →
      (x.stack.length < 32 → ∃ u : State, exec (.br c t w) s = .next u ∧ onlySlot s u c t ∧
        slotAt u c t = goTo (relPc x.pc (iTarget w)) { x with
          mask := tk, stack := ⟨x.mask &&& ~~~tk, relPc x.pc (iReconv w), relPc x.pc 1, false⟩ :: x.stack }) ∧
      (32 ≤ x.stack.length → ∃ u : State, exec (.br c t w) s = .next u ∧ ((slotAt u c t).exc.map (·.code)) = some 0xA ∧
        (slotAt u c t).pc = x.pc ∧ (slotAt u c t).stopped = true)) ∧
  (
    ∀ (pc : Nat) (x : Slot),
      (x.stack = [] → goTo pc x = { x with pc := pc }) ∧
      (∀ e r, x.stack = e :: r → e.addr ≠ pc → goTo pc x = { x with pc := pc }) ∧
      (∀ e r, x.stack = e :: r → e.addr = pc → e.arrived = false → e.resume ≠ pc →
        goTo pc x = { x with pc := e.resume, mask := e.mask, stack := { e with mask := x.mask, arrived := true } :: r }) ∧
      (∀ e, x.stack = [e] → e.addr = pc → e.arrived = true → goTo pc x = { x with pc := pc, mask := x.mask ||| e.mask, stack := [] }))

/-- R85, R87, R91, R124, R126, R147, R148: EXIT with nothing stacked ends the thread group, and the expected count of its
barrier falls; BRK raises BREAKPOINT (0x0D) with its record, PC on the BRK and the slot stopped; YIELD waits its count of
cycles, at least one, from the next instruction on; a YIELD whose cycles have passed is READY; an ENDED slot is freed whole.

R90, R143, R144, R199: a fence lets its thread group go on once what it waits for has been performed, and holds it until
then; BAR.GB, its fence of group-block scope complete, arrives and waits, and the last expected thread group releases all that
wait and resets the count; LATH.WAIT goes on once the slot counter has reached IMM16 + S[A]. -/
def Obligations.SlotStates : Prop :=
  (
    ∀ (c t : Nat) (w : W64) (s : State),
      let x := { slotAt s c t with st := .ready }
      (canIssue s c t w 4 false → isOp w 5 1 none = true → okCtl 1 w = true → x.stack = [] →
        ∃ u : State, exec (.exit c t w) s = .next u ∧ (slotAt u c t).st = .ended ∧ (slotAt u c t).mask = 0 ∧
          (sget {} (coreGet u c).barriers x.gb).expected = (sget {} (coreGet s c).barriers x.gb).expected - 1) ∧
      (canIssue s c t w 4 false → isOp w 5 0xC none = true → okCtl 1 w = true →
        ∃ u : State, exec (.brk c t w) s = .next u ∧ (slotAt u c t).stopped = true ∧ (slotAt u c t).pc = x.pc ∧
          (slotAt u c t).exc = some { code := 0xD, slot := t, gb := x.gb, inLong := false, laneMask := x.mask, pc := x.pc,
                                      address := 0, step := 0, coreRef := coreRef c }) ∧
      (canIssue s c t w 4 true → isOp w 5 2 none = true → okCtl 2 w = true →
        (iMod w = 0 ∨ (ctxGet s x.ctx).stop ≠ some .tile →
          ∃ u : State, exec (.yield c t w) s = .next u ∧ onlySlot s u c t ∧
            slotAt u c t = { advance x with st := .waitYield, aux := max 1 (iImm16 w) }) ∧
        (iMod w = 1 → (ctxGet s x.ctx).stop = some .tile →
          ∃ u : State, exec (.yield c t w) s = .next u ∧ onlySlot s u c t ∧ slotAt u c t = { advance x with stopped := true })) ∧
      ((slotAt s c t).st = .waitYield → (slotAt s c t).stopped = false → coreRuns s c = true →
        ∃ u : State, exec (.yieldExpire c t) s = .next u ∧ onlySlot s u c t ∧ slotAt u c t = { slotAt s c t with st := .ready, aux := 0 }) ∧
      ((slotAt s c t).st = .ended → ∃ u : State, exec (.slotFree c t) s = .next u ∧ onlySlot s u c t ∧ slotAt u c t = {})) ∧
  (
    ∀ (c t : Nat) (w : W64) (s : State),
      let x := { slotAt s c t with st := .ready }
      let b := sget {} (coreGet s c).barriers x.gb
      let sets := fun (i : Instr) (y : Slot) => ∃ u : State, exec i s = .next u ∧ onlySlot s u c t ∧ slotAt u c t = y
      (canIssue s c t w 4 true → okCtl 3 w = true →
        (isOp w 5 4 (some 0) = true → sets (.fenceGb c t w) (if fenceDone s c t 0 then advance x else { x with st := .waitDep })) ∧
        (isOp w 5 4 (some 1) = true → sets (.fenceDev c t w) (if fenceDone s c t 1 then advance x else { x with st := .waitDep })) ∧
        (isOp w 5 4 (some 2) = true → sets (.fenceSys c t w) (if fenceDone s c t 2 then advance x else { x with st := .waitDep }))) ∧
      (canIssue s c t w 4 true → isOp w 5 7 none = true → okCtl 1 w = true → iA w < 32 →
        ((BitVec.ofNat 64 (iImm16 w) + sRead x (iA w)).toNat ≤ slotCounter s c x.ctx → sets (.lathWait c t w) (advance x)) ∧
        (slotCounter s c x.ctx < (BitVec.ofNat 64 (iImm16 w) + sRead x (iA w)).toNat →
          sets (.lathWait c t w) { x with st := .waitDep })) ∧
      (canIssue s c t w 4 false → isOp w 5 3 none = true → okCtl 1 w = true → fenceDone s c t 0 = true →
        (b.arrived + 1 < b.expected → ∃ u : State, exec (.barGb c t w) s = .next u ∧ slotAt u c t = { advance x with st := .waitBar } ∧
          sget {} (coreGet u c).barriers x.gb = { b with arrived := b.arrived + 1 }) ∧
        (b.expected ≤ b.arrived + 1 → ∃ u : State, exec (.barGb c t w) s = .next u ∧ slotAt u c t = advance x ∧
          sget {} (coreGet u c).barriers x.gb = { b with arrived := 0 } ∧
          ∀ k, k ≠ t → (slotAt s c k).gb = x.gb → (slotAt s c k).st = .waitBar → (slotAt u c k).st = .ready)) ∧
      (canIssue s c t w 4 false → isOp w 5 3 none = true → okCtl 1 w = true → fenceDone s c t 0 = false →
        sets (.barGb c t w) { x with st := .waitDep }))

/-- R105, R106, R118: CSR.W from S[A] writes the seven controls of CORE_MODE, and clears in TG_FLAGS the flags written as 1;
CSR.R into S[D] reads CORE_MODE, TG_FLAGS, SLOT_ID, GB_ID, CORE_REF, CTX_ID, ACTIVE_MASK and PROG_STATE; LANE_ID into V[D]
gives each active lane its number. Beside the slot only the model's own counter of free values changes.

R117, R119, R124: a word that is no instruction of the core raises ILLEGAL_INSTR (0x02), whatever row names it: the
slot stops with its record, PC stays on the word, and the context, if it is not faulted already, is stopped with that record. -/
def Obligations.ControlRegisters : Prop :=
  (
    ∀ (c t : Nat) (w : W64) (s : State),
      let x := { slotAt s c t with st := .ready }
      let only := fun (u : State) => onlySlot s { u with freeCtr := s.freeCtr } c t
      (canIssue s c t w 4 true → isOp w 5 0xB none = true → okCsrW w = true → iSselI w 1 = true →
        let v : W32 := (sRead x (iA w)).truncate 32
        (iCsr w = 0 → ∃ u : State, exec (.csrW c t w) s = .next u ∧ only u ∧
          slotAt u c t = advance { x with coreMode := v &&& 0x7F }) ∧
        (iCsr w = 1 → ∃ u : State, exec (.csrW c t w) s = .next u ∧ only u ∧
          slotAt u c t = advance { x with flags := x.flags &&& ~~~v })) ∧
      (canIssue s c t w 4 true → isOp w 5 0xA none = true → okCsrR w = true → iSselI w 0 = true →
        ∃ u : State, ∃ v, exec (.csrR c t w) s = .next u ∧ only u ∧ onlyS x (slotAt u c t) ∧ wroteS x (slotAt u c t) (iD w) v ∧
          (iCsr w = 0 → v = x.coreMode.zeroExtend 64) ∧ (iCsr w = 1 → v = x.flags.zeroExtend 64) ∧
          (iCsr w = 3 → v = BitVec.ofNat 64 t) ∧ (iCsr w = 4 → v = BitVec.ofNat 64 x.gb) ∧
          (iCsr w = 5 → v = BitVec.ofNat 64 (coreRef c)) ∧ (iCsr w = 6 → v = BitVec.ofNat 64 x.ctx) ∧
          (iCsr w = 8 → v = x.mask.zeroExtend 64) ∧ (iCsr w = 0x10 → v = progWord x)) ∧
      (canIssue s c t w 4 false → isOp w 5 0xA none = true → okCsrR w = true → iSselI w 0 = false → iCsr w = 2 →
        ∃ u : State, exec (.csrR c t w) s = .next u ∧ only u ∧ onlyV x (slotAt u c t) ∧
          wroteV x (slotAt u c t) (iD w) (fun l => (BitVec.ofNat 32 l, 0)))) ∧
  (
    ∀ (c t : Nat) (w : W64) (s : State), c < 4608 → t < 16 → opListed w = false → slotReady (slotAt s c t) = true →
      coreRuns s c = true →
      let x := slotAt s c t
      ∀ i ∈ [Instr.addS c t w, .fmaF32 c t w, .mmaT c t w, .ld c t w, .br c t w, .exit c t w, .csrR c t w],
        ∃ u : State, exec i s = .next u ∧
          (slotAt u c t).exc = some { code := 2, slot := t, gb := x.gb, inLong := false, laneMask := 0xFFFFFFFF, pc := x.pc,
                                      address := 0, step := 0, coreRef := coreRef c } ∧
          (slotAt u c t).stopped = true ∧ (slotAt u c t).pc = x.pc ∧
          ((ctxGet s x.ctx).st = .running → (ctxGet s x.ctx).faulting = false →
            (ctxGet u x.ctx).st = .stopping ∧ (ctxGet u x.ctx).stop = some .urgent ∧
            (ctxGet u x.ctx).fault.cause = 1 ∧ (ctxGet u x.ctx).fault.code = 2 ∧ (ctxGet u x.ctx).fault.pc = x.pc))

/-- R122, R125, R135: the operands of a TILE-format instruction pass exactly where every tile operand is 64-byte aligned and
lies in tile memory, within one bank (the bank the instruction names, if it names one), no destination overlaps a source unless
the instruction works in place, and the accumulator entries start at a multiple of 256 inside the block's region. The first of
MISALIGNED (0x04), TILE_BOUNDS (0x05), TILE_OVERLAP (0x06) and ACC_REGION (0x07) that applies is the one raised.

R119, R121, R127, R128, R145: a long instruction whose operands pass starts at step 0 (with no step, as a TCOPY.T or a
range of no bytes has, it completes at once), and nothing but its slot changes; its step count is the table's.

R133, R134: a thread group with RESUMING set goes on with the stopped MMA.T from STEP, and raises RESUME_MISMATCH (0x03)
where PROG_STATE does not describe it; the same of WB.L1. -/
def Obligations.LongInstructions : Prop :=
  (
    ∀ (k : Core) (gb : Nat) (l : List TileOpnd) (acc : Option (Nat × Nat)) (inPlace : Bool),
      let b := sget {} k.barriers gb
      let aligned := ∀ o ∈ l, 64 ∣ o.off
      let inBank := ∀ o ∈ l, o.off < 0x80000 ∧ o.off % 0x20000 + o.len ≤ 0x20000 ∧ ∀ n, o.bank = some n → o.off / 0x20000 = n
      let apart := inPlace = true ∨ ∀ d ∈ l, ∀ a ∈ l, d.dst = true → a.dst = false → d.off + d.len ≤ a.off ∨ a.off + a.len ≤ d.off
      let inRegion := ∀ a n, acc = some (a, n) → 256 ∣ a ∧ b.accBase ≤ a ∧ a + n ≤ b.accBase + b.accLen
      let r := tileCheck k gb l acc inPlace false
      (r = none ↔ aligned ∧ inBank ∧ apart ∧ inRegion) ∧
      (¬ aligned → ∃ a, r = some (4, a)) ∧ (aligned → ¬ inBank → ∃ a, r = some (5, a)) ∧
      (aligned → inBank → ¬ apart → ∃ a, r = some (6, a)) ∧ (aligned → inBank → apart → ¬ inRegion → ∃ a, r = some (7, a))) ∧
  (
    ∀ (c t : Nat) (w : W64) (s : State),
      let k := coreGet s c
      let x := { slotAt s c t with st := .ready }
      let starts := fun (i : Instr) (n : Nat) => ∃ u : State, exec i s = .next u ∧ onlySlot s u c t ∧
        slotAt u c t = if n = 0 then longDone x else { x with long := some ⟨w, 0⟩ }
      let acc := some (sNum x (iSD w), iM w * iN w)
      (canIssue s c t w 2 true →
        (isOp w 3 0 none = true → okMma w = true → tileCheck k x.gb (mmaOpnds w x) acc true false = none →
          starts (.mmaT c t w) (iM w / 16 * (iN w / 16) * (iK w / 32))) ∧
        (isOp w 3 1 none = true → okAccLd w = true → tileCheck k x.gb (accTile w x false) acc true false = none →
          starts (.accLdT c t w) (iM w / 16 * (iN w / 16))) ∧
        (isOp w 3 2 none = true → okAccSt w = true → tileCheck k x.gb (accTile w x true) acc true false = none →
          starts (.accStT c t w) (iM w / 16 * (iN w / 16))) ∧
        (isOp w 3 4 none = true → okCvtMx w = true → tileCheck k x.gb (cvtOpnds w x) none false false = none →
          starts (.cvtMxT c t w) (iM w / 16 * (iK w / 32))) ∧
        (isOp w 3 0x10 none = true → okTile 3 w = true → maskPosBad w x = false →
          tileCheck k x.gb [attnOpnd 8 (sNum x (iSA w)) (iK w) none true] none true false = none →
          starts (.maskT c t w) (iK w / 32)) ∧
        (isOp w 3 0x11 none = true → okRope w = true → (∀ r < 32, (vRead x (iVbase w) r).toNat < 2 ^ 24) →
          tileCheck k x.gb [attnOpnd (iTypeA w) (sNum x (iSA w)) (iK w) none false,
            attnOpnd (iTypeB w) (sNum x (iSB w)) (iK w) none true] none false false = none →
          starts (.ropeT c t w) (iK w / 32)) ∧
        (isOp w 3 0x12 none = true → okSmax w = true →
          tileCheck k x.gb [attnOpnd 8 (sNum x (iSA w)) (iK w) none false,
            attnOpnd (iTypeB w) (sNum x (iSB w)) (iK w) (some 0) true] none false false = none →
          starts (.smaxRun c t w) (2 * (iK w / 32)))) ∧
      (canIssue s c t w 3 true →
        (isOp w 3 5 none = true → okTile 1 w = true → 64 ∣ sNum x (iSC w) →
          tileCheck k x.gb (tcopyOpnds w x) none false false = none →
          starts (.tcopyT c t w) ((sNum x (iSC w) + 1023) / 1024)) ∧
        (isOp w 5 5 none = true → okL1 3 w = true → starts (.invL1 c t w) (l1Steps w x)) ∧
        (isOp w 5 6 none = true → okL1 2 w = true → starts (.wbL1 c t w) (l1Steps w x)))) ∧
  (
    ∀ (c t : Nat) (w : W64) (s : State), c < 4608 → t < 16 →
      slotReady (slotAt s c t) = true → coreRuns s c = true → (slotAt s c t).resuming = true →
      let k := coreGet s c
      let x := { slotAt s c t with st := .ready }
      let p := x.prog
      let goesOn := fun (i : Instr) => ∃ u : State, exec i s = .next u ∧ onlySlot s u c t ∧
        slotAt u c t = { x with long := some ⟨w, p.step⟩ }
      let mismatch := fun (i : Instr) => ∃ u : State, exec i s = .next u ∧ ((slotAt u c t).exc.map (·.code)) = some 3 ∧
        (slotAt u c t).pc = x.pc ∧ (slotAt u c t).stopped = true
      (isOp w 3 0 none = true → okMma w = true →
        (p.valid = true → p.op = 0 → p.fmt = 3 → p.step < mmaSteps w x → (∀ r ∈ usedV w, (pendingV k t).contains r = false) →
          pipeBusy k t 2 = false →
          tileCheck k x.gb (mmaOpnds w x) (some (sNum x (iSD w), iM w * iN w)) true false = none → goesOn (.mmaT c t w)) ∧
        (p.valid = false ∨ p.op ≠ 0 ∨ p.fmt ≠ 3 ∨ mmaSteps w x ≤ p.step → mismatch (.mmaT c t w))) ∧
      (isOp w 5 6 none = true → okL1 2 w = true →
        (p.valid = true → p.op = 6 → p.fmt = 5 → p.step < l1Steps w x → (∀ r ∈ usedV w, (pendingV k t).contains r = false) →
          pipeBusy k t 3 = false → goesOn (.wbL1 c t w)) ∧
        (p.valid = false ∨ p.op ≠ 6 ∨ p.fmt ≠ 5 ∨ l1Steps w x ≤ p.step → mismatch (.wbL1 c t w))))

/-- R103, R104, R108, R128, R133 to R135: a step of MMA.T adds one run of 32 products to each of the 16 × 16 accumulator entries
of its sub-tile, with ZERO from 0 at the sub-tile's first run, and changes no other entry and no tile memory; the last step
completes the instruction, PC going on and RESUMING and VALID returning to 0. A step that reads a poisoned sector raises POISON
(0x0C) instead.

R127, R128, R562: a step of TCOPY.T copies up to 1 KiB from S[SA] to S[SB], poison with the data, and changes no byte
outside the destination. R141: a step of MASK.T writes −∞ to the FP32 scores of its 32 columns whose key position the MOD's
condition picks and no other byte.

R119, R139, R140: POS.GEN writes S[A] + LANE_ID × IMM32 to the active lanes of V[D] where every active lane's result is
below 2^24, and raises POSITION_RANGE (0x09) naming the lanes where one is not. ACC.SCALE.T multiplies entry i of its 32 × N
region by lane i div N of V[VBASE], rounding to nearest even, and leaves every other entry; a region it may not use raises
ACC_REGION (0x07). (How POS.GEN extends IMM32 is the free `iImm` of assumption 8.) -/
def Obligations.TileStepResults : Prop :=
  (
    ∀ (c t : Nat) (s : State) (w : W64) (st : Nat),
      let k := coreGet s c
      let x := slotAt s c t
      let a := sNum x (iSA w)
      let b := sNum x (iSB w)
      let acc := sNum x (iSD w)
      let run := st % (iK w / 32)
      let m0 := 16 * (st / (iK w / 32) / (iN w / 16))
      let n0 := 16 * (st / (iK w / 32) % (iN w / 16))
      let reads := runRanges (iTypeA w) a (iM w) (iK w) m0 run ++ runRanges (iTypeB w) b (iN w) (iK w) n0 run
      x.long = some ⟨w, st⟩ → iFmt w = 3 → iOp w = 0 → x.stopped = false → coreRuns s c = true → s.errs.planted = [] →
      ((∀ r ∈ reads, firstPoison k r.1 r.2 = none) → st < mmaSteps w x → ∃ u : State, exec (.longStep c t) s = .next u ∧
        (∀ i j, i < 16 → j < 16 →
          let e := acc + (m0 + i) * iN w + n0 + j
          sget 0 (coreGet u c).acc e = (mmaOut (iTypeA w) (iTypeB w) (modesOf x.coreMode)
            (runRow k (iTypeA w) a (iM w) (iK w) (m0 + i) run) (runRow k (iTypeB w) b (iN w) (iK w) (n0 + j) run)
            (if iMod w = 1 ∧ run = 0 then 0 else sget 0 k.acc e)).1) ∧
        (∀ e, (∀ i j, i < 16 → j < 16 → e ≠ acc + (m0 + i) * iN w + n0 + j) → sget 0 (coreGet u c).acc e = sget 0 k.acc e) ∧
        (coreGet u c).tile = k.tile ∧ (∀ d, d ≠ c → coreGet u d = coreGet s d) ∧ u.hbm = s.hbm ∧ u.uc = s.uc ∧
        (st + 1 < mmaSteps w x → (slotAt u c t).long = some ⟨w, st + 1⟩ ∧ (slotAt u c t).pc = x.pc) ∧
        (mmaSteps w x = st + 1 → (slotAt u c t).long = none ∧ (slotAt u c t).resuming = false ∧
          (slotAt u c t).prog.valid = false ∧ (x.stack = [] → (slotAt u c t).pc = x.pc + 8))) ∧
      ((∃ r ∈ reads, (firstPoison k r.1 r.2).isSome = true) → ∃ u : State, exec (.longStep c t) s = .next u ∧
        ((slotAt u c t).exc.map fun r => (r.code, r.inLong, r.step, r.laneMask)) = some (0xC, true, st, 0xFFFFFFFF) ∧
        (slotAt u c t).stopped = true ∧ (slotAt u c t).pc = x.pc ∧ (coreGet u c).acc = k.acc)) ∧
  (
    ∀ (c t : Nat) (s : State) (w : W64) (st : Nat),
      let k := coreGet s c
      let x := slotAt s c t
      let a := sNum x (iSA w)
      x.long = some ⟨w, st⟩ → iFmt w = 3 → x.stopped = false → coreRuns s c = true → s.errs.planted = [] →
      (iOp w = 5 → 64 ∣ sNum x (iSC w) → tileCheck k x.gb (tcopyOpnds w x) none false false = none → st < tcopySteps w x →
        let b := sNum x (iSB w)
        let n := min 1024 (sNum x (iSC w) - 1024 * st)
        ∃ u : State, exec (.longStep c t) s = .next u ∧
          (∀ i, i < n → tileByte (coreGet u c) (b + 1024 * st + i) = tileByte k (a + 1024 * st + i)) ∧
          (∀ i, i < n → tilePoisoned (coreGet u c) ((b + 1024 * st + i) / 64) = tilePoisoned k ((a + 1024 * st + i) / 64)) ∧
          (∀ o, o < b + 1024 * st ∨ b + 1024 * st + n ≤ o → tileByte (coreGet u c) o = tileByte k o)) ∧
      (iOp w = 0x10 → tileCheck k x.gb [attnOpnd 8 a (iK w) none true] none true false = none → st < attnSteps w x →
        (∀ r ∈ blockRows a 32 (iK w) st, firstPoison k r.1 r.2 = none) →
        let picked : Nat → Nat → Prop := fun r col => match iMod w with
          | 0 => (vRead x (iVbase w) r).toNat < sNum x (iSB w) + col
          | 1 => (vRead x (iVbase w) r).toNat < sNum x (iSB w) + col ∨
              sNum x (iSB w) + col + sNum x (iSC w) < (vRead x (iVbase w) r).toNat
          | _ => sNum x (iSC w) ≤ sNum x (iSB w) + col
        let place := fun (r col : Nat) => a + 4 * (r * iK w + col)
        ∃ u : State, exec (.longStep c t) s = .next u ∧
          (∀ r col, r < 32 → 32 * st ≤ col → col < 32 * st + 32 →
            (picked r col → leNat (tileBytes (coreGet u c) (place r col) 4) = 0xFF800000) ∧
            (¬ picked r col → tileBytes (coreGet u c) (place r col) 4 = tileBytes k (place r col) 4)) ∧
          (∀ o, (∀ r col, r < 32 → 32 * st ≤ col → col < 32 * st + 32 → o < place r col ∨ place r col + 4 ≤ o) →
            tileByte (coreGet u c) o = tileByte k o))) ∧
  (
    ∀ (c t : Nat) (w : W64) (s : State),
      let x := slotAt s c t
      (canIssue s c t w 1 false → isOp w 1 0x40 none = true → okPosGen w = true →
        let p := fun (l : Nat) => (sRead x (iA w) + BitVec.ofNat 64 l * iImm w).toNat
        ((∀ l ∈ lanesOf x.mask, p l < 2 ^ 24) → ∃ u : State, exec (.posGen c t w) s = .next u ∧ onlySlot s u c t ∧
          onlyV x (slotAt u c t) ∧ wroteV x (slotAt u c t) (iD w) (fun l => (BitVec.ofNat 32 (p l), 0))) ∧
        ((∃ l ∈ lanesOf x.mask, 2 ^ 24 ≤ p l) → ∃ u : State, ∃ r, exec (.posGen c t w) s = .next u ∧ (slotAt u c t).exc = some r ∧
          r.code = 9 ∧ (∀ l, l < 32 → (r.laneMask.getLsbD l = true ↔ l ∈ lanesOf x.mask ∧ 2 ^ 24 ≤ p l)) ∧
          (slotAt u c t).v = x.v ∧ (slotAt u c t).pc = x.pc)) ∧
      (canIssue s c t w 2 true → isOp w 3 3 none = true → okTile 1 w = true →
        let k := coreGet s c
        let a := sNum x (iSD w)
        let m : Modes := { round := 0, ftz := (modesOf x.coreMode).accFtz }
        (accBad k x.gb (a, 32 * iN w) = false → ∃ u : State, exec (.accScaleT c t w) s = .next u ∧
          (∀ i, i < 32 * iN w → sget 0 (coreGet u c).acc (a + i) =
            (mul32 m (sget 0 k.acc (a + i)) (vRead x (iVbase w) (i / iN w))).1) ∧
          (∀ e, e < a ∨ a + 32 * iN w ≤ e → sget 0 (coreGet u c).acc e = sget 0 k.acc e) ∧
          (coreGet u c).tile = k.tile ∧ (slotAt u c t).v = x.v ∧ (slotAt u c t).s = x.s ∧ (x.stack = [] → (slotAt u c t).pc = x.pc + 8)) ∧
        (accBad k x.gb (a, 32 * iN w) = true → ∃ u : State, exec (.accScaleT c t w) s = .next u ∧
          ((slotAt u c t).exc.map (·.code)) = some 7 ∧ (coreGet u c).acc = k.acc)))

/-- R119, R125, R126, R154, R171, R564: LD, ST and ATOM with SPACE 1 reach the core's own tile memory. Where every active
lane's address is naturally aligned and inside it: LD puts the bytes, extended as MOD says, into V[D] of each active lane; ST
stores each lane's bytes, and every other byte stays; ATOM returns each old value and stores the new one (addresses that meet
aside: their order is free, assumption 8). A lane that is misaligned raises MISALIGNED (0x04), one out of bounds TILE_BOUNDS
(0x05), the lower code alone with exactly its lanes; a poisoned sector read raises POISON (0x0C). -/
def Obligations.TileMemoryAccess : Prop :=
  ∀ (c t : Nat) (w : W64) (s : State), canIssue s c t w 3 false → iSpace w = 1 → s.errs.planted = [] →
    let x := { slotAt s c t with st := .ready }
    let k := coreGet s c
    let n := accSize w
    let a := laneAddr w x
    let lanes := lanesOf x.mask
    let good := ∀ l ∈ lanes, n ∣ a l ∧ a l < 0x80000
    let apart := ∀ l ∈ lanes, ∀ m ∈ lanes, l ≠ m → a l + n ≤ a m ∨ a m + n ≤ a l
    let clean := ∀ l ∈ lanes, tilePoisoned k (a l / 64) = false
    let outside := fun (o : Nat) => ∀ l ∈ lanes, o < a l ∨ a l + n ≤ o
    let holds := fun (y : Slot) (l v : Nat) (sg : Bool) =>
      if n = 8 then v64 y (iD w) l = BitVec.ofNat 64 v
      else vRead y (iD w) l = if sg then (BitVec.ofNat (8 * n) v).signExtend 32 else BitVec.ofNat 32 v
    let raises := fun (i : Instr) (code : Nat) (bad : Nat → Prop) => ∃ u : State, ∃ r, exec i s = .next u ∧
      (slotAt u c t).exc = some r ∧ r.code = code ∧ r.pc = x.pc ∧ (coreGet u c).tile = k.tile ∧ (slotAt u c t).v = x.v ∧
      ∀ l, l < 32 → (r.laneMask.getLsbD l = true ↔ l ∈ lanes ∧ bad l)
    (isOp w 2 0 none = true → okLd w = true → good → clean →
      ∃ u : State, exec (.ld c t w) s = .next u ∧ onlySlot s u c t ∧ onlyV x (slotAt u c t) ∧ (slotAt u c t).flags = x.flags ∧
        (∀ l ∈ lanes, holds (slotAt u c t) l (leNat (tileBytes k (a l) n)) (iMod w = 1 || iMod w = 3)) ∧
        (∀ r l, l ∉ lanes → vRead (slotAt u c t) r l = vRead x r l)) ∧
    (isOp w 2 1 none = true → okSt w = true → good → apart →
      ∃ u : State, exec (.st c t w) s = .next u ∧ slotAt u c t = advance x ∧ (∀ d, d ≠ c → coreGet u d = coreGet s d) ∧
        (∀ l ∈ lanes, ∀ i, i < n → tileByte (coreGet u c) (a l + i) = (leBytes n (laneData (iD w) n x l)).getD i 0) ∧
        (∀ o, outside o → tileByte (coreGet u c) o = tileByte k o)) ∧
    (isOp w 2 2 none = true → okAtom w = true → good → clean → apart →
      ∃ u : State, exec (.atom c t w) s = .next u ∧ (∀ d, d ≠ c → coreGet u d = coreGet s d) ∧
        onlyV x (slotAt u c t) ∧ (slotAt u c t).flags = x.flags ∧
        (∀ l ∈ lanes,
          let old := leNat (tileBytes k (a l) n)
          holds (slotAt u c t) l old false ∧ tileBytes (coreGet u c) (a l) n =
            leBytes n (atomNew (iMod w % 8) (8 * n) old (laneData (iD w) n x l) (laneData (iBCas w) n x l))) ∧
        (∀ o, outside o → tileByte (coreGet u c) o = tileByte k o)) ∧
    (isOp w 2 0 none = true → okLd w = true →
      ((∃ l ∈ lanes, ¬ n ∣ a l) → raises (.ld c t w) 4 (fun l => ¬ n ∣ a l)) ∧
      ((∀ l ∈ lanes, n ∣ a l) → (∃ l ∈ lanes, 0x80000 ≤ a l) → raises (.ld c t w) 5 (fun l => 0x80000 ≤ a l)) ∧
      (good → (∃ l ∈ lanes, tilePoisoned k (a l / 64) = true) →
        raises (.ld c t w) 0xC (fun l => tilePoisoned k (a l / 64) = true))) ∧
    (isOp w 2 1 none = true → okSt w = true →
      ((∃ l ∈ lanes, ¬ n ∣ a l) → raises (.st c t w) 4 (fun l => ¬ n ∣ a l)) ∧
      ((∀ l ∈ lanes, n ∣ a l) → (∃ l ∈ lanes, 0x80000 ≤ a l) → raises (.st c t w) 5 (fun l => 0x80000 ≤ a l)))

/-- R83, R97, R119, R180: LD from global memory whose active lanes all have a cached, permitting translation `X`: lanes whose
bytes the L1 holds are written at once and nothing but the slot changes; lanes that all miss take one outstanding load per
sector, each naming its lanes' registers and bytes, if at most 64 loads are then outstanding, and put the thread group in
WAIT_MEM otherwise.

R83, R97, R119, R172, R174, R183 (one active lane l, with a cached, permitting translation X): a ST to a line that the L1
holds stores its bytes there, valid and dirty, and sends nothing; a ST through an L1_UNCACHED window sends one write of exactly
its bytes, or waits in WAIT_MEM while 32 stores are outstanding. An ATOM leaves the L1 without the line, written back first if
it was dirty, and takes one entry that carries its operation, operand and comparand; it waits in WAIT_MEM while 64 loads are
outstanding. -/
def Obligations.GlobalAccess : Prop :=
  (
    ∀ (c t : Nat) (w : W64) (s : State) (X : Nat → Xlat), canIssue s c t w 3 false → iSpace w = 0 →
      isOp w 2 0 none = true → okLd w = true →
      let x := { slotAt s c t with st := .ready }
      let k := coreGet s c
      let n := accSize w
      let g := fun l => xlatAddr (X l) (laneAddr w x l)
      let lanes := lanesOf x.mask
      let secs := (lanes.map fun l => g l / 64).eraseDups
      (∀ l ∈ lanes, findXlat s c x.ctx (laneAddr w x l) = some (X l) ∧ xlatDenied s (X l) .load = none ∧ n ∣ laneAddr w x l) →
      ((∀ l ∈ lanes, (X l).l1Uncached = false ∧ ∃ ln, sfind k.l1d (g l / 64) = some ln ∧ ln.poison = false ∧
          ∀ i, i < n → ln.valid.getLsbD (g l % 64 + i) = true) → k.loads.length ≤ 64 →
        ∃ u : State, exec (.ld c t w) s = .next u ∧ onlySlot s u c t ∧ onlyV x (slotAt u c t) ∧
          (∀ l ∈ lanes,
            let v := leNat (slice (sget {} k.l1d (g l / 64)).data (g l % 64) n)
            if n = 8 then v64 (slotAt u c t) (iD w) l = BitVec.ofNat 64 v
            else vRead (slotAt u c t) (iD w) l =
              if iMod w = 1 ∨ iMod w = 3 then (BitVec.ofNat (8 * n) v).signExtend 32 else BitVec.ofNat 32 v) ∧
          (∀ r l, l ∉ lanes → vRead (slotAt u c t) r l = vRead x r l)) ∧
      ((∀ l ∈ lanes, (X l).l1Uncached = true ∨ sfind k.l1d (g l / 64) = none) →
        (k.loads.length + secs.length ≤ 64 → ∃ u : State, exec (.ld c t w) s = .next u ∧ slotAt u c t = advance x ∧
          (coreGet u c).loads.length = k.loads.length + secs.length ∧ (coreGet u c).l1d = k.l1d ∧
          (∀ l ∈ lanes, ∃ e ∈ (coreGet u c).loads, e.slot = t ∧ e.req.addr = g l / 64 * 64 ∧ e.req.write = none ∧
            { lane := l, reg := iD w, off := g l % 64, size := n, signed := iMod w == 1 || iMod w == 3 } ∈ e.parts)) ∧
        (64 < k.loads.length + secs.length → ∃ u : State, exec (.ld c t w) s = .next u ∧ onlySlot s u c t ∧
          slotAt u c t = { x with st := .waitMem }))) ∧
  (
    ∀ (c t l : Nat) (w : W64) (s : State) (X : Xlat), canIssue s c t w 3 false → iSpace w = 0 → l < 32 →
      let x := { slotAt s c t with st := .ready }
      let k := coreGet s c
      let n := accSize w
      let g := xlatAddr X (laneAddr w x l)
      let data := leBytes n (laneData (iD w) n x l)
      let wait := fun (i : Instr) => ∃ u : State, exec i s = .next u ∧ slotAt u c t = { x with st := .waitMem } ∧
        (coreGet u c).loads = k.loads ∧ (coreGet u c).stores = k.stores ∧ (coreGet u c).l1d = k.l1d
      x.mask = BitVec.ofNat 32 (2 ^ l) → findXlat s c x.ctx (laneAddr w x l) = some X → n ∣ laneAddr w x l →
      (isOp w 2 1 none = true → okSt w = true → xlatDenied s X .store = none →
        (∀ ln, X.l1Uncached = false → sfind k.l1d (g / 64) = some ln → ∃ u : State, ∃ m, exec (.st c t w) s = .next u ∧
          slotAt u c t = advance x ∧ (coreGet u c).stores = k.stores ∧ sfind (coreGet u c).l1d (g / 64) = some m ∧
          (∀ i, i < 64 →
            let new := g % 64 ≤ i ∧ i < g % 64 + n
            (new → m.data.getD i 0 = data.getD (i - g % 64) 0 ∧ m.valid.getLsbD i = true ∧ m.dirty.getLsbD i = true) ∧
            (¬ new → m.data.getD i 0 = ln.data.getD i 0 ∧ m.valid.getLsbD i = ln.valid.getLsbD i ∧
              m.dirty.getLsbD i = ln.dirty.getLsbD i)) ∧
          (∀ key, key ≠ g / 64 → sfind (coreGet u c).l1d key = sfind k.l1d key)) ∧
        (X.l1Uncached = true → k.stores.length < 32 → ∃ u : State, ∃ e, exec (.st c t w) s = .next u ∧ slotAt u c t = advance x ∧
          (coreGet u c).stores = k.stores ++ [e] ∧ e.slot = t ∧ e.req.addr = g / 64 * 64 ∧ e.req.ctx = x.ctx ∧
          ∃ bs, e.req.write = some bs ∧ bs.length = 64 ∧ ∀ i, i < 64 →
            ((bs.getD i (false, 0)).1 = true ↔ g % 64 ≤ i ∧ i < g % 64 + n) ∧
            (g % 64 ≤ i → i < g % 64 + n → (bs.getD i (false, 0)).2 = data.getD (i - g % 64) 0)) ∧
        (X.l1Uncached = true → 32 ≤ k.stores.length → wait (.st c t w))) ∧
      (isOp w 2 2 none = true → okAtom w = true → xlatDenied s X .atomic = none →
        (k.loads.length < 64 → k.stores.length < 32 → ∃ u : State, ∃ e, exec (.atom c t w) s = .next u ∧ slotAt u c t = advance x ∧
          (coreGet u c).loads = k.loads ++ [e] ∧ e.slot = t ∧ sfind (coreGet u c).l1d (g / 64) = none ∧
          e.atom = some { op := iMod w % 8, size := n, operand := laneData (iD w) n x l,
                          comparand := laneData (iBCas w) n x l } ∧
          e.parts = [{ lane := l, reg := iD w, off := 0, size := n, signed := false }] ∧
          (coreGet u c).stores.length = k.stores.length + (if (sget {} k.l1d (g / 64)).dirty = 0 then 0 else 1)) ∧
        (64 ≤ k.loads.length → wait (.atom c t w))))

/-- R97, R180, R276, R278, R279, R559, R564: a load that completes with data writes the lanes it was for and frees its entry,
and thread groups in WAIT_MEM may try again; poisoned data raises POISON (0x0C) with PC on the load; an error status faults the
context (HOME_LOST as cause 6, REMOTE_LOST as cause 7). An acknowledged store or write-back frees its entry. -/
def Obligations.LoadAndStoreCompletion : Prop :=
  ∀ (c id : Nat) (s : State) (poison : Bool) (data : List Byte),
    let k := coreGet s c
    let woken := fun (x : Slot) => if x.st = .waitMem then { x with st := .ready } else x
    (∀ e, k.loads.find? (fun e => e.id == id) = some e →
      let x := slotGet k e.slot
      let left := k.loads.filter fun o => o.id != id
      (poison = false → x.ctx = e.req.ctx → x.st ≠ .free →
        ∃ u : State, exec (.loadComplete c id 0 poison data) s = .next u ∧ (coreGet u c).loads = left ∧
          (slotAt u c e.slot).v = (loadWriteBack e data x).v ∧ (slotAt u c e.slot).pc = x.pc ∧
          (slotAt u c e.slot).s = x.s ∧ (x.st = .waitMem → (slotAt u c e.slot).st = .ready) ∧
          (∀ r, r ≠ e.slot → slotAt u c r = woken (slotGet k r))) ∧
      (poison = true → ∃ u : State, ∃ r, exec (.loadComplete c id 0 poison data) s = .next u ∧ (coreGet u c).loads = left ∧
        (slotAt u c e.slot).exc = some r ∧ r.code = 0xC ∧ r.pc = e.pc ∧ r.address = e.va ∧
        (slotAt u c e.slot).pc = e.pc ∧ (slotAt u c e.slot).v = x.v) ∧
      (∀ status, status ∈ [9, 10] → (ctxGet s e.req.ctx).st = .running → (ctxGet s e.req.ctx).faulting = false →
        ∃ u : State, exec (.loadComplete c id status poison data) s = .next u ∧ (coreGet u c).loads = left ∧
          (ctxGet u e.req.ctx).st = .stopping ∧ (ctxGet u e.req.ctx).stop = some .urgent ∧
          (ctxGet u e.req.ctx).fault.cause = (if status = 9 then 6 else 7) ∧
          (ctxGet u e.req.ctx).fault.address = e.req.addr ∧ (slotAt u c e.slot).v = x.v)) ∧
    (∃ u : State, exec (.memEntryFree c id) s = .next u ∧ (coreGet u c).stores = k.stores.filter (fun o => o.id != id) ∧
      (coreGet u c).loads = k.loads ∧ (∀ r, slotAt u c r = woken (slotGet k r)) ∧ ∀ d, d ≠ c → coreGet u d = coreGet s d)

/-- R178, R179, R180: a walk gives the leaf it meets, with the leaf's page and permissions; address bits [63:48] not 0 are
NONCANONICAL (1), a level-1 index of ROOT_SPAN or more NOT_MAPPED (2), a root outside backed HBM TABLE_ADDRESS (8), an entry that is
poison TABLE_POISON (9), not VALID NOT_MAPPED (2), with a Reserved bit BAD_ENTRY (3), and an entry that is no leaf at level 3
BAD_ENTRY; else the walk goes on at NEXT, which must be aligned for its level (BAD_ENTRY) and backed (TABLE_ADDRESS).

R180, R181, R188: a walk for a core's access that finds a permitted leaf is kept by the core as the granule's translation;
one that fails raises TRANSLATION (0x08), or FETCH_FAULT (0x01) for a fetch, in the thread group. For a DMA engine the context
faults with cause 5 and the reason. Either failure leaves its reason and address in LAST_XLAT_FAULT, device-wide and in the
partition's copy.

R181, R185, R186, R188: XLAT_INVAL drops every cached translation of the context whose granule meets the range (a length of
0 is the whole space), in every core, and no other; a context that does not exist is CTX_NOT_OWNED (2). WIN_UPDATE with a
Reserved bit, a bad hint or class or a range beyond 2^48 answers ENTRY_INVALID (1) and changes nothing else;
one that is accepted (shown where NEAR does not change) leaves no cached translation of the new range. -/
def Obligations.Translation : Prop :=
  (
    ∀ (s : State) (ctx va : Nat),
      let d := (ctxGet s ctx).desc
      let reason := fun (r : WalkRes) (n : Nat) => r = .fail n
      (2 ^ 48 ≤ va → reason (walk s ctx va) 1) ∧
      (va < 2 ^ 48 → d.rootSpan ≤ va / 2 ^ 30 → reason (walk s ctx va) 2) ∧
      (va < 2 ^ 48 → va / 2 ^ 30 < d.rootSpan → backedBytes ≤ d.rootBase → reason (walk s ctx va) 8) ∧
      (∀ fuel lvl base, 1 ≤ lvl → lvl ≤ 3 →
        let p := base + 8 * levelIndex va lvl
        let e := leNat (localBytes s p 8)
        let r := walkLevel s va (fuel + 1) lvl base
        (backedBytes ≤ p → reason r 8) ∧
        (p < backedBytes →
          (localPoison s p 8 = true → reason r 9) ∧
          (localPoison s p 8 = false →
            (e % 2 = 0 → reason r 2) ∧
            (e % 2 = 1 → e / 32 % 8 ≠ 0 → reason r 3) ∧
            (e % 2 = 1 → e / 32 % 8 = 0 → e / 2 % 2 = 1 →
              (e / 256 % 256 ≠ 0 ∨ e / 65536 % 2 ^ (levelShift lvl - 16) ≠ 0 → reason r 3) ∧
              (e / 256 % 256 = 0 → e / 65536 % 2 ^ (levelShift lvl - 16) = 0 →
                r = .leaf { page := e / 65536 + va / 65536 % 2 ^ (levelShift lvl - 16), read := e / 4 % 2 = 1,
                            write := e / 8 % 2 = 1, exec := e / 16 % 2 = 1 })) ∧
            (e % 2 = 1 → e / 32 % 8 = 0 → e / 2 % 2 = 0 →
              let next := 256 * (e / 256 % 2 ^ 48)
              (lvl = 3 ∨ e / 2 ^ 56 % 256 ≠ 0 → reason r 3) ∧
              (lvl < 3 → e / 2 ^ 56 % 256 = 0 →
                (lvl = 1 → ¬ 4096 ∣ next → reason r 3) ∧
                ((lvl = 1 → 4096 ∣ next) → (backedBytes ≤ next → reason r 8) ∧
                  (next < backedBytes → r = walkLevel s va fuel (lvl + 1) next)))))))) ∧
  (
    ∀ (c t ctx va : Nat) (kind : Access) (s : State), c < 4608 → t < 16 → (ctxGet s ctx).st ≠ .none →
      let last := fun (u : State) (i : Nat) (r : Nat) =>
        num u (i + 1) 1 0 = ctx ∧ num u (i + 1) 2 0 = r ∧ num u (i + 1) 3 0 = va ∧
        num u i 2 0 = min (num s i 2 0 + 1) (2 ^ 32 - 1)
      (∀ l, findXlat s c ctx va = none → walk s ctx va = .leaf l → winMatch (winTable s ctx) (va / 65536 * 65536) = none →
        denied l kind = none → kind ≠ .atomic →
        ∃ u : State, exec (.xlatWalk (.core c) t ctx va kind) s = .next u ∧
          (∃ x, findXlat u c ctx va = some x ∧ x.page = l.page) ∧ (∀ k, slotAt u c k = slotAt s c k) ∧
          (kind = .fetch → (65536 * l.page + va % 65536) / 64 ∈ (coreGet u c).l1i)) ∧
      (∀ r, findXlat s c ctx va = none → walk s ctx va = .fail r →
        (∃ u : State, exec (.xlatWalk (.core c) t ctx va kind) s = .next u ∧
          ((slotAt u c t).exc.map fun e => (e.code, e.address)) = some (if kind = .fetch then 1 else 8, va) ∧
          (slotAt u c t).stopped = true ∧ last u 0x2208 r ∧ last u (partIdx (ctxPart ctx) 0x2208) r) ∧
        ((ctxGet s ctx).st = .running → (ctxGet s ctx).faulting = false →
          ∃ u : State, exec (.xlatWalk (.dma c) t ctx va kind) s = .next u ∧ (ctxGet u ctx).fault.cause = 5 ∧
            (ctxGet u ctx).fault.code = r ∧ (ctxGet u ctx).fault.address = va ∧ (ctxGet u ctx).st = .stopping ∧
            last u 0x2208 r))) ∧
  (
    ∀ (ctx va len idx : Nat) (entry : List Byte) (s : State),
      ((ctxGet s ctx).st ≠ .none → ctx < 1024 → ∃ u : State, exec (.xlatInval ctx va len) s = .next u ∧
        u.dict.result = (0, []) ∧
        (∀ c x, x ∈ (coreGet u c).xlat ↔ x ∈ (coreGet s c).xlat ∧ ¬ (x.ctx = ctx ∧ va < 65536 * (x.granule + 1) ∧
          65536 * x.granule < va + (if len = 0 then 2 ^ 48 else len))) ∧
        (∀ c, (coreGet u c).slots = (coreGet s c).slots ∧ (coreGet u c).l1d = (coreGet s c).l1d) ∧
        { u with cores := s.cores, dict := { u.dict with result := s.dict.result } } = s) ∧
      ((ctxGet s ctx).st = .none → ∃ u : State, exec (.xlatInval ctx va len) s = .next u ∧ u.dict.result = (0x23, [2, 0]) ∧
        { u with dict := { u.dict with result := s.dict.result } } = s) ∧
      ((ctxGet s ctx).st ≠ .none → ctx < 1024 → entry.length ≠ 32 ∨ (parseWin entry).ok = false →
        ∃ u : State, exec (.winUpdate ctx idx entry) s = .next u ∧ u.dict.result = (0x23, [1, 0]) ∧ { u with dict := { u.dict with result := s.dict.result } } = s) ∧
      ((ctxGet s ctx).st ≠ .none → ctx < 1024 → entry.length = 32 → (parseWin entry).ok = true →
        (let old := parseWin (localBytes s ((ctxGet s ctx).desc.winBase + 32 * min idx 63) 32)
         bit old.flags 0 = false ∨ bit old.flags 2 = bit (parseWin entry).flags 2) →
        ∃ u : State, exec (.winUpdate ctx idx entry) s = .next u ∧ u.dict.result = (0, []) ∧
          ∀ c x, x ∈ (coreGet u c).xlat → x.ctx = ctx → (parseWin entry).base < 65536 * (x.granule + 1) →
            (parseWin entry).base + 65536 * (parseWin entry).granules ≤ 65536 * x.granule))

/-- R35, R36, R154, R165: an access of one sector through the tile window reads or writes the bank, whatever waits in the landing
buffer; an offset of 512 KiB or more answers ADDRESS (5) and touches nothing; an access to a section that is RETAINED is held,
counted in RET_AUTO_WAKE_COUNT and answered by nothing yet.

R153 to R155, R158, R200: a word that lands takes one entry of the landing buffer and core-side masters read its bytes at
once, while bank D keeps its own; with 128 entries held it is discarded and counted, and the owner of the core faults with cause
2. DRAIN moves the oldest entry into bank D. A corrected sector that waited is written back.

R152: a starvation event of a master that STARVE_SCOPE counts advances STARVE_EVENTS; of one it does not count, nothing
changes. -/
def Obligations.TileWindow : Prop :=
  (
    ∀ (a : Nat) (s : State),
      let c := a % 2 ^ 40 / 2 ^ 20
      let k := coreGet s c
      let sec := a % 2 ^ 20 / 64
      let answers := fun (i : Instr) (d : List Byte) (p : Bool) (st : Nat) (u : State) => exec i s = .next u ∧
        u.uc.replies = s.uc.replies ++ [⟨.host, 0, a, d, p, st⟩] ∧ ∀ e, e ≠ c → coreGet u e = coreGet s e
      a / 2 ^ 40 = 1 → c < 4608 →
      (∀ d, 0x80000 ≤ a % 2 ^ 20 → ∃ u : State, answers (.tileWindowAccess a d) [] false 5 u ∧ coreGet u c = k) ∧
      (a % 2 ^ 20 < 0x80000 → s.ret.get (coreSection c) = .active → s.errs.planted = [] →
        (∃ u : State, answers (.tileWindowAccess a none) (memReadN k.tile (64 * sec) 64) (k.poison.contains sec) 0 u ∧ coreGet u c = k) ∧
        (∀ bs, bs.length = 64 → ∃ u : State, answers (.tileWindowAccess a (some bs)) [] false 0 u ∧
          (∀ o, memRead (coreGet u c).tile o =
            if o / 64 = sec ∧ (bs.getD (o % 64) (false, 0)).1 = true then (bs.getD (o % 64) (false, 0)).2 else memRead k.tile o) ∧
          (coreGet u c).landing = k.landing ∧ (coreGet u c).slots = k.slots)) ∧
      (∀ d, a % 2 ^ 20 < 0x80000 → s.ret.get (coreSection c) = .retained → ∃ u : State, exec (.tileWindowAccess a d) s = .next u ∧
        u.ret.held = s.ret.held ++ [⟨a, d⟩] ∧ u.uc = s.uc ∧ u.cores = s.cores ∧
        num u 0x2105 7 0 = min (num s 0x2105 7 0 + 1) (2 ^ 32 - 1))) ∧
  (
    ∀ (c : Nat) (s : State),
      let k := coreGet s c
      (∀ cyc f, s.lath.flight.find? (fun f => f.core == c && f.port == .core && f.cycle == cyc) = some f →
        s.ret.get (coreSection c) = .active →
        (k.landing.length < 128 → s.errs.injects = [] → ∃ u : State, exec (.lathWordLand c cyc .clean) s = .next u ∧
          (coreGet u c).landing = k.landing ++ [⟨f.word.sector, f.word.data, f.word.poison⟩] ∧ (coreGet u c).tile = k.tile ∧
          (∀ i, i < 64 → tileByte (coreGet u c) (0x60000 + 64 * f.word.sector + i) = f.word.data.getD i 0) ∧
          u.lath.flight = s.lath.flight.erase f) ∧
        (128 ≤ k.landing.length → ∃ u : State, exec (.lathWordLand c cyc .clean) s = .next u ∧
          (coreGet u c).landing = k.landing ∧ (coreGet u c).tile = k.tile ∧
          num u 0x2105 1 0 = min (num s 0x2105 1 0 + 1) (2 ^ 32 - 1) ∧
          (∀ x, k.owner = some x → (ctxGet s x).st = .running → (ctxGet s x).faulting = false →
            (ctxGet u x).fault.cause = 2 ∧ (ctxGet u x).fault.core = coreRef c ∧ (ctxGet u x).st = .stopping))) ∧
      (∀ e r, k.landing = e :: r → e.data.length = 64 → ∃ u : State, exec (.drain c) s = .next u ∧ (coreGet u c).landing = r ∧
        memReadN (coreGet u c).tile (0x60000 + 64 * e.sector) 64 = e.data ∧
        (coreGet u c).poison.contains (6144 + e.sector) = e.poison ∧
        (∀ o, o / 64 ≠ 6144 + e.sector → memRead (coreGet u c).tile o = memRead k.tile o) ∧
        (coreGet u c).slots = k.slots ∧ ∀ d, d ≠ c → coreGet u d = coreGet s d) ∧
      (∀ sec, ∃ u : State, exec (.eccWriteback c sec) s = .next u ∧ (coreGet u c).eccPending = k.eccPending.filter (· != sec) ∧
        (coreGet u c).tile = k.tile ∧ { u with cores := s.cores } = s)) ∧
  (
    ∀ (c b : Nat) (m : Master) (s : State), c < 4608 → b < 4 →
      let counted := num s 0x6101 1 0x10 / 2 ^ masterBit m % 2 = 1
      (counted → ∃ u : State, exec (.starveEvent c b m) s = .next u ∧
        num u 0x2101 2 0 = min (num s 0x2101 2 0 + 1) (2 ^ 32 - 1) ∧ u.cores = s.cores) ∧
      (¬ counted → exec (.starveEvent c b m) s = .next s))

/-- R162 to R165: retain is taken by an ACTIVE section all of whose slots are FREE and landing buffers empty, which is then
ENTERING with its L1s written back, and answers SECTION_OCCUPIED (1) otherwise; RETAIN_DONE leaves it RETAINED, registers and L1
gone and tile memory as it was; wake makes a RETAINED section WAKING where fewer than 8 of its C-die wake, and does nothing to an
ACTIVE one; WAKE_DONE makes it ACTIVE. -/
def Obligations.SectionRetention : Prop :=
  ∀ (sec : Nat) (s : State), sec < 144 →
    (s.ret.get sec = .active → sectionIdle s sec = true → ∃ u : State, exec (.retRetain sec) s = .next u ∧ u.ret.get sec = .entering ∧
      u.dict.result = (0, []) ∧ (∀ c, (coreGet u c).tile = (coreGet s c).tile ∧ (coreGet u c).slots = (coreGet s c).slots)) ∧
    (s.ret.get sec = .active → sectionIdle s sec = false → ∃ u : State, exec (.retRetain sec) s = .next u ∧
      u.dict.result = (0x23, [1, 0]) ∧ { u with dict := { u.dict with result := s.dict.result } } = s) ∧
    (s.ret.get sec = .active → ∃ u : State, exec (.retWake sec) s = .next u ∧ u.dict.result = (0, []) ∧
      { u with dict := { u.dict with result := s.dict.result } } = s) ∧
    (s.ret.get sec = .retained → s.ret.wakeQueue = [] → wakingOn s (sec / 36) < 8 → ∃ u : State, exec (.retWake sec) s = .next u ∧
      u.ret.get sec = .waking ∧ u.cores = s.cores) ∧
    (s.ret.get sec = .retained → 8 ≤ wakingOn s (sec / 36) → ∃ u : State, exec (.retWake sec) s = .next u ∧
      u.ret.get sec = .retained ∧ sec ∈ u.ret.wakeQueue ∧ u.cores = s.cores) ∧
    (s.ret.get sec = .entering → sec ∉ s.ret.wakeQueue → ∃ u : State, exec (.retainDone sec) s = .next u ∧ u.ret.get sec = .retained ∧
      ∀ c, (coreGet u c).tile = (coreGet s c).tile ∧ (coreGet u c).poison = (coreGet s c).poison ∧
        (c ∈ sectionCores sec → (coreGet u c).slots = [] ∧ (coreGet u c).l1d = [] ∧ (coreGet u c).acc = [] ∧
          (coreGet u c).landing = []) ∧
        (c ∉ sectionCores sec → coreGet u c = coreGet s c)) ∧
    (s.ret.get sec = .waking → s.work.parts = [] → s.ret.held = [] → ∃ u : State, exec (.wakeDone sec) s = .next u ∧
      u.ret.get sec = .active ∧ ∀ c, (coreGet u c).tile = (coreGet s c).tile)

/-- R191 to R193, R195, R200: in cycle k of its schedule a router sends the word on an input from every output that selects it:
to a neighbour, on whose facing input it is in cycle k + 2, and to its core, which accepts it in cycle k + P; nothing else is
sent. A word whose sideband parity is wrong goes nowhere and is counted, and the context faults with cause 4; an INJ entry that
finds the queue empty is counted, and the context faults with cause 3; an INJ entry otherwise sends the oldest queued word under
the entry's group.

R192, R194, R472: an injector with fewer than 32 words queued takes the next entry of its list and queues the sector it
names; at the list's end it goes on from the first entry while its schedule runs (the model's reading, log entry 34); a schedule starts, at cycle 0 or at the saved cycle of a restored context, once every injector of the context is full or
at its list's end; a stop is broadcast at least 2,048 cycles ahead, and leaves k_s in the context. -/
def Obligations.LathSwitching : Prop :=
  (
    ∀ (c k : Nat) (s : State), c < 4608 →
      let r := routerGet s c
      let e := (sget 0 r.table (k % r.tableLen)).toNat
      let sel := fun (i : Nat) => e / 2 ^ (3 * i) % 8
      let sent := fun (code : Nat) (w : LathWordData) (f : LathFlight) =>
        f.word = w ∧
        ((sel 0 = code ∧ f.cycle = k + 2 ∧ f.port = .s ∧ coreLy c ≠ 0 ∧ f.core + 32 = c) ∨
         (sel 1 = code ∧ f.cycle = k + 2 ∧ f.port = .n ∧ coreLy c ≠ 35 ∧ f.core = c + 32) ∨
         (sel 2 = code ∧ f.cycle = k + 2 ∧ f.port = .w ∧ coreLx c ≠ 31 ∧ f.core = c + 1) ∨
         (sel 3 = code ∧ f.cycle = k + 2 ∧ f.port = .e ∧ coreLx c ≠ 0 ∧ f.core + 1 = c) ∨
         (sel 4 = code ∧ f.cycle = k + lathP s (coreDie c) ∧ f.port = .core ∧ f.core = c))
      let faulted := fun (u : State) (cause : Nat) => (ctxGet s r.ctx).st = .running → (ctxGet s r.ctx).faulting = false →
        (ctxGet u r.ctx).fault.cause = cause ∧ (ctxGet u r.ctx).st = .stopping
      lathRuns s r.ctx k = true → r.tableLen ≠ 0 →
      (∀ p f, p ≠ .core → p ≠ .inj → s.lath.flight.find? (fun f => f.core == c && f.port == p && f.cycle == k) = some f →
        (∃ u : State, ∃ l, exec (.lathWord c p k true) s = .next u ∧ u.lath.flight = s.lath.flight.erase f ++ l ∧
          (∀ g, g ∈ l ↔ sent (portCode p) f.word g) ∧ u.cores = s.cores ∧ u.lath.routers = s.lath.routers) ∧
        (∃ u : State, exec (.lathWord c p k false) s = .next u ∧ u.lath.flight = s.lath.flight.erase f ∧
          num u 0x2301 2 0 = min (num s 0x2301 2 0 + 1) (2 ^ 32 - 1) ∧ faulted u 4)) ∧
      (e / 2 ^ 15 % 2 = 1 → r.queue = [] → ∃ u : State, exec (.lathWord c .inj k true) s = .next u ∧ u.lath.flight = s.lath.flight ∧
        num u 0x2301 1 0 = min (num s 0x2301 1 0 + 1) (2 ^ 32 - 1) ∧ faulted u 3) ∧
      (∀ w q, e / 2 ^ 15 % 2 = 1 → r.queue = w :: q → ∃ u : State, ∃ l, exec (.lathWord c .inj k true) s = .next u ∧
        u.lath.flight = s.lath.flight ++ l ∧ (routerGet u c).queue = q ∧
        ∀ g, g ∈ l ↔ sent 5 { w with mc := e / 2 ^ 22 % 2 = 1, group := e / 2 ^ 16 % 64 } g)) ∧
  (
    (∀ (c : Nat) (s : State),
      let r := routerGet s c
      let pos := if r.injList.length ≤ r.injPos then 0 else r.injPos
      let e := (r.injList.getD pos 0).toNat
      let sec := e % 2 ^ 13
      r.queue.length < 32 → r.injList ≠ [] → (r.injPos < r.injList.length ∨ (schedGet s r.ctx).running = true) → s.errs.planted = [] →
      (coreGet s c).poison.contains sec = false →
      ∃ u : State, exec (.injRefill c) s = .next u ∧ (routerGet u c).injPos = pos + 1 ∧ u.cores = s.cores ∧
        ∃ w, (routerGet u c).queue = r.queue ++ [w] ∧ w.data = memReadN (coreGet s c).tile (64 * sec) 64 ∧
          w.sector = e / 2 ^ 16 % 2 ^ 11 ∧ w.poison = false) ∧
    (∀ (ctx : Nat) (s : State), (schedGet s ctx).running = false → (ctxGet s ctx).launch.isSome = true →
      (injectorsReady s ctx = true → ∃ u : State, exec (.lathScheduleStart ctx) s = .next u ∧ (schedGet u ctx).running = true ∧
        (schedGet u ctx).k = (if (ctxGet s ctx).restoring = true then (ctxGet s ctx).kS else 0) ∧
        (schedGet u ctx).stoppedAt = none ∧ u.cores = s.cores) ∧
      (injectorsReady s ctx = false → exec (.lathScheduleStart ctx) s = .next s)) ∧
    (∀ (ctx k : Nat) (s : State), (schedGet s ctx).running = true → (schedGet s ctx).stoppedAt = none →
      (ctxGet s ctx).stop.isSome = true →
      ((schedGet s ctx).k + 2048 ≤ k → ∃ u : State, exec (.lathStop ctx k) s = .next u ∧ (schedGet u ctx).stoppedAt = some k ∧
        (ctxGet u ctx).kS = k ∧ ∀ j, lathRuns u ctx j = decide (j < k)) ∧
      (k < (schedGet s ctx).k + 2048 → exec (.lathStop ctx k) s = .next s)))

/-- R205, R207, R208, R212: a plain packet that arrives undamaged at a node of a mesh is consumed there if the node is its
destination, and otherwise waits at the output toward it: X first, then Y, within one mesh; up at once from the B-mesh to the
C-mesh; along the C-mesh to the router above its destination and then down. A packet in tier 3 or 4 that has waited AGE_LIMIT
cycles is served in tier 2 and counted.

R209 to R211: CLS_LOAD replaces the whole classifier, and answers CMD_FAILED and keeps the old one where a Reserved bit is set
(2) or two VALID entries of equal PRIORITY meet (1); CLS_ENTRY replaces one entry, overlapping or not. A packet of REQ or BULK
takes the class of the matching entry of highest priority, lowest number first, or the default. -/
def Obligations.ScrimRouting : Prop :=
  (
    (∀ (n : Nat) (p : ScrimPkt) (s : State), nodeOk n = true → nStack n < 4 → nodeOk p.dest = true → nStack p.dest = nStack n →
      p.vc < 6 → p.vc ≠ 0 → p.vc ≠ 4 → p.list = [] → p.bcast = false → p.data = [] → arriving s n p = none →
      let q := { p with set := 0 }
      let out := if n = p.dest then ScrimOut.here
        else if nB n = true ∧ nB p.dest = false then .up
        else
          let ty := if nB n = false ∧ nB p.dest = true then upRow (nY p.dest) else nY p.dest
          if nX n < nX p.dest then .e else if nX p.dest < nX n then .w else if nY n < ty then .s else if ty < nY n then .n
          else .down
      ∃ u : State, exec (.scrimPacket n p .none) s = .next u ∧
        (n = p.dest → u.scrim.delivered = s.scrim.delivered ++ [(n, q)] ∧ u.scrim.waiting = s.scrim.waiting) ∧
        (n ≠ p.dest → u.scrim.delivered = s.scrim.delivered ∧
          u.scrim.waiting = s.scrim.waiting ++ [⟨n, out, if out = .up ∨ out = .down then { q with set := 1 } else q, false⟩]) ∧
        u.cores = s.cores ∧ u.uc = s.uc) ∧
    (∀ (i : Nat) (s : State) (w : ScrimWait), s.scrim.waiting[i]? = some w →
      (3 ≤ tierOf w → ∃ u : State, exec (.agePromotion i) s = .next u ∧
        u.scrim.waiting = s.scrim.waiting.set i { w with promoted := true } ∧ tierOf { w with promoted := true } = 2 ∧
        num u 0x2315 1 0 = min (num s 0x2315 1 0 + 1) (2 ^ 64 - 1)) ∧
      (tierOf w < 3 → exec (.agePromotion i) s = .next s))) ∧
  (
    (∀ (table : List Byte) (s : State), table.length = 512 →
      let l := (List.range 32).map fun i => slice table (16 * i) 16
      let only := fun (u : State) => { u with dict := { u.dict with result := s.dict.result } } = s
      (l.all clsOk = false → ∃ u : State, exec (.clsLoad table) s = .next u ∧ u.dict.result = (0x23, [2, 0]) ∧ only u) ∧
      (l.all clsOk = true → (∃ i j, j < i ∧ i < 32 ∧
          let a := parseCls (l.getD i [])
          let b := parseCls (l.getD j [])
          a.valid = true ∧ b.valid = true ∧ a.prio = b.prio ∧ clsMeet a b = true) →
        ∃ u : State, exec (.clsLoad table) s = .next u ∧ u.dict.result = (0x23, [1, 0]) ∧ only u) ∧
      (l.all clsOk = true → (∀ i j, j < i → i < 32 →
          let a := parseCls (l.getD i [])
          let b := parseCls (l.getD j [])
          ¬ (a.valid = true ∧ b.valid = true ∧ a.prio = b.prio ∧ clsMeet a b = true)) →
        ∃ u : State, exec (.clsLoad table) s = .next u ∧ u.dict.result = (0, []) ∧
          (∀ i, i < 32 → sfind u.scrim.cls i = some (parseCls (l.getD i []))) ∧ u.scrim.waiting = s.scrim.waiting)) ∧
    (∀ (i : Nat) (entry : List Byte) (s : State), i < 32 → entry.length = 16 →
      (clsOk entry = true → ∃ u : State, exec (.clsEntry i entry) s = .next u ∧ u.dict.result = (0, []) ∧
        sfind u.scrim.cls i = some (parseCls entry) ∧ ∀ j, j ≠ i → sfind u.scrim.cls j = sfind s.scrim.cls j) ∧
      (clsOk entry = false → ∃ u : State, exec (.clsEntry i entry) s = .next u ∧ u.dict.result = (0x23, [2, 0]) ∧
        u.scrim = s.scrim)) ∧
    (∀ (n : Nat) (p : ScrimPkt) (s : State) (b : Nat), p.vc = 0 ∨ p.vc = 4 → srcBit n p (Config.freeNat s.freeCtr) = some b →
      let hit := fun (i : Nat) (e : ClsEntry) => i < 32 ∧ sfind s.scrim.cls i = some e ∧ e.valid = true ∧
        clsHolds e p.address = true ∧ (e.anyPart = true ∨ e.part = p.part) ∧ e.src / 2 ^ b % 2 = 1
      ((∀ i e, ¬ hit i e) → (classify n p s).1.qos = num s 0x2303 5 2) ∧
      (∀ i e, hit i e → (∀ j d, hit j d → d.prio < e.prio ∨ (d.prio = e.prio ∧ i ≤ j)) → (classify n p s).1.qos = e.cls)))

/-- R226 to R232, R235, R240: a read at the home slice. A hit answers the sector and follows its hint: NORMAL (and a Reserved hint,
counted) clears RRV, KEEP is kept up to 12 ways of a set, STREAM changes nothing, EVICT_FIRST and LAST_USE clear KEEP, and
LAST_USE under SCRATCH discards the line. A miss takes an MSHR that fetches what FILL_SECTORS says and is not valid. A read of a
line with an MSHR merges, and the 33rd is held and counted.

R233, R234, R565, R276, R279, R286: a write at the home slice of a sector that is valid, or of all 64 bytes, is made at once
and leaves the sector valid and dirty, its other bytes and sectors as they were; of some bytes of a sector that is not valid, it takes an
MSHR for the sector; of a line with an MSHR, it is held. A request for an address that no slice serves, for a stack out of
service, for a home that is not ONLINE or for a device that cannot be reached is answered with its error and changes no line. -/
def Obligations.UcAccess : Prop :=
  (
    ∀ (k : Nat) (r : UcReq) (s : State), plainHome s k r → r.write = none →
      let line := lineOf r.addr
      let i := r.addr % 1024 / 64
      let c := (sliceGet s k).c
      (∀ j w e, findWay c line = some (j, w) → w.st = .home → w.svalid.getLsbD i = true → e ≠ .double →
        (r.hint ≠ 4 ∨ r.scratch = false ∨ hasHolders w = false → ∃ u : State, exec (.ucRead k r e) s = .next u ∧
          u.uc.replies = s.uc.replies ++ [⟨r.src, r.txn, r.addr, sectorBytes w.data i, w.spoison.getLsbD i, 0⟩] ∧
          countsOne s u 0x2409 1 64 ∧ (e = .single → countsOne s u 0x2406 1 32) ∧ u.hbm = s.hbm ∧ u.cores = s.cores ∧
          (∀ q, q ≠ k → sliceGet u q = sliceGet s q) ∧
          (r.hint ≠ 4 ∨ r.scratch = false → findWay (sliceGet u k).c line = some (j,
            if r.hint = 1 then { w with rrv := 0, keep := w.keep || decide (keepWays c (j / 16) line < 12) }
            else if r.hint = 2 then w
            else if r.hint = 3 ∨ r.hint = 4 then { w with keep := false }
            else { w with rrv := 0 })) ∧
          (r.hint = 1 → 12 ≤ keepWays c (j / 16) line → countsOne s u 0x2403 2 64) ∧
          (r.hint = 4 → r.scratch = false → countsOne s u 0x2403 4 64) ∧ (5 ≤ r.hint → countsOne s u 0x2403 1 64) ∧
          (r.hint = 4 → r.scratch = true →
            (sliceGet u k).c.ways = c.ways.filter (fun x => x.2.tag != line) ∧ countsOne s u 0x2403 3 64)) ∧
        (r.hint = 4 → r.scratch = true → hasHolders w = true → (sliceGet s k).trackers.length < 512 →
          ∃ v : State, ∃ t, exec (.ucRead k r e) s = .next (homesGoOn v) ∧ findTracker v k line = some t ∧ t.kind = .discard ∧
            v.uc.replies = s.uc.replies ++ [⟨r.src, r.txn, r.addr, sectorBytes w.data i, w.spoison.getLsbD i, 0⟩] ∧
            (sliceGet v k).c.ways = c.ways ∧ countsOne s v 0x2403 3 64)) ∧
      (homeHas s k line (bit16 i) = false →
        (findMshr c line = none → c.mshrs.length < 256 → ∃ u : State, ∃ x, exec (.ucRead k r .clean) s = .next u ∧
          findMshr (sliceGet u k).c line = some x ∧ x.waiters = [waiterOf r] ∧ x.write = none ∧
          (∀ n, n < 16 → x.fetch.getLsbD n = (!homeHas s k line (bit16 n) &&
            (decide (n = i) || (num s 0x2401 1 1 == 1 && decide (n / 4 = i / 4)) || num s 0x2401 1 1 == 2 ||
              (decide (2 < num s 0x2401 1 1) && decide (n / 4 = i / 4))))) ∧
          (sliceGet u k).c.ways = c.ways ∧ u.uc.replies = s.uc.replies ∧ countsOne s u 0x2409 2 64 ∧
          u.hbm.cells = s.hbm.cells) ∧
        (findMshr c line = none → 256 ≤ c.mshrs.length → ∃ u : State, exec (.ucRead k r .clean) s = .next u ∧
          (sliceGet u k).c.held = [⟨r, .mshr⟩] ∧ (sliceGet u k).c.mshrs = c.mshrs ∧ u.uc.replies = s.uc.replies ∧
          countsOne s u 0x2404 1 64) ∧
        (∀ x, findMshr c line = some x → x.waiters.length < 32 → waiterCount c < 8192 →
          ∃ u : State, ∃ y, exec (.ucRead k r .clean) s = .next u ∧ findMshr (sliceGet u k).c line = some y ∧
            y.waiters = x.waiters ++ [waiterOf r] ∧ u.uc.replies = s.uc.replies ∧ countsOne s u 0x2409 3 64) ∧
        (∀ x, findMshr c line = some x → 32 ≤ x.waiters.length → ∃ u : State, exec (.ucRead k r .clean) s = .next u ∧
          (sliceGet u k).c.held = [⟨r, .waiterLimit⟩] ∧ (sliceGet u k).c.mshrs = c.mshrs ∧ u.uc.replies = s.uc.replies ∧
          countsOne s u 0x2403 5 64))) ∧
  (
    (∀ (k : Nat) (r : UcReq) (bs : List (Bool × Byte)) (s : State), plainHome s k r → r.write = some bs → bs.length = 64 →
      let line := lineOf r.addr
      let i := r.addr % 1024 / 64
      let c := (sliceGet s k).c
      (∀ j w, findWay c line = some (j, w) → w.st = .home → findMshr c line = none →
        w.svalid.getLsbD i = true ∨ (∀ b ∈ bs, b.1 = true) → ∃ u : State, ∃ y, exec (.ucWrite k r .clean) s = .next u ∧
          u.uc.replies = s.uc.replies ++ [⟨r.src, r.txn, r.addr, [], false, 0⟩] ∧
          findWay (sliceGet u k).c line = some (j, y) ∧
          (∀ o, memRead y.data o = if o / 64 = i ∧ (bs.getD (o % 64) (false, 0)).1 = true then (bs.getD (o % 64) (false, 0)).2
            else memRead w.data o) ∧
          y.svalid = w.svalid ||| bit16 i ∧ y.sdirty = w.sdirty ||| bit16 i ∧ y.tag = w.tag ∧ y.dir = w.dir ∧
          (r.poison = true → y.spoison = w.spoison ||| bit16 i) ∧ u.hbm = s.hbm ∧ u.cores = s.cores ∧
          ∀ q, q ≠ k → sliceGet u q = sliceGet s q) ∧
      (∀ j, (∀ b ∈ bs, b.1 = true) → findWay c line = none → findMshr c line = none →
        (r.hint = 2 → ∃ u : State, exec (.ucWrite k r .clean) s = .next u ∧ (sliceGet u k).c = c ∧ u.hbm.cells = s.hbm.cells ∧
          u.uc.replies = s.uc.replies ++ [⟨r.src, r.txn, r.addr, [], false, 0⟩]) ∧
        (r.hint ≠ 2 → j < 16 → sfind c.ways (16 * setOf s r.addr r.near + j) = none →
          (∀ n, n < j → (sfind c.ways (16 * setOf s r.addr r.near + n)).isSome = true) →
          ∃ u : State, ∃ y, exec (.ucWrite k r .clean) s = .next u ∧ sfind (sliceGet u k).c.ways (16 * setOf s r.addr r.near + j) = some y ∧
            y.tag = line ∧ y.st = .home ∧ y.svalid = bit16 i ∧ y.sdirty = bit16 i ∧ y.scr = r.scratch ∧ y.ctx = r.ctx ∧
            (∀ o, o < 64 → memRead y.data (64 * i + o) = (bs.getD o (false, 0)).2) ∧
            (r.hint = 0 → y.keep = false ∧ y.rrv = 2) ∧ (r.hint = 3 ∨ r.hint = 4 → y.keep = false ∧ y.rrv = 3) ∧
            u.uc.replies = s.uc.replies ++ [⟨r.src, r.txn, r.addr, [], false, 0⟩] ∧ u.hbm = s.hbm)) ∧
      (homeHas s k line (bit16 i) = false → findMshr c line = none → c.mshrs.length < 256 → (∃ b ∈ bs, b.1 = false) →
        ∃ u : State, ∃ x, exec (.ucWrite k r .clean) s = .next u ∧ findMshr (sliceGet u k).c line = some x ∧ x.fetch = bit16 i ∧
          x.write = some r ∧ (sliceGet u k).c.ways = c.ways ∧ u.uc.replies = s.uc.replies ∧ u.hbm.cells = s.hbm.cells) ∧
      (∀ x, findMshr c line = some x → ∃ u : State, exec (.ucWrite k r .clean) s = .next u ∧ (sliceGet u k).c.held = [⟨r, .line⟩] ∧
        (sliceGet u k).c.ways = c.ways ∧ (sliceGet u k).c.mshrs = c.mshrs ∧ u.uc.replies = s.uc.replies)) ∧
    (∀ (k : Nat) (r : UcReq) (s : State) (status : Nat), sliceFits s k r = true → (sliceGet s k).c.held = [] → s.uc.flushing = [] →
      isHostAddr r.addr = false → sitePAddr s r.addr = false →
      (status = 5 ∧ (2 ^ 39 ≤ localOf r.addr ∨ (devOf r.addr = devId s ∧ backedBytes ≤ localOf r.addr))) ∨
      (status = 6 ∧ devOf r.addr = devId s ∧ localOf r.addr < backedBytes ∧
        isOut s (8 + (hbmPlace (localOf r.addr)).stack) = true) ∨
      (status = 9 ∧ devOf r.addr = devId s ∧ localOf r.addr < backedBytes ∧
        isOut s (8 + (hbmPlace (localOf r.addr)).stack) = false ∧ homeServes s (homeBdie r.addr r.near) = false) ∨
      (status = 10 ∧ devOf r.addr ≠ devId s ∧ localOf r.addr < 2 ^ 39 ∧ canReach s (devOf r.addr) = false) →
      ∃ u : State, exec (if r.write.isNone = true then .ucRead k r .clean else .ucWrite k r .clean) s = .next u ∧
        u.uc.replies = s.uc.replies ++ [⟨r.src, r.txn, r.addr, [], false, status⟩] ∧ (∀ q, sliceGet u q = sliceGet s q) ∧
        u.hbm = s.hbm ∧ u.cores = s.cores ∧ (status = 9 → countsOne s u 0x2504 1 32) ∧ (status = 10 → countsOne s u 0x2504 2 32)))

/-- R225, R232 to R236, R239, R241: an MSHR of a home copy whose sectors have all arrived fills a way of its set, answers each
waiter with its sector and is gone; while nothing has arrived nothing changes. The oldest held request of a line is served once
what it waits for is free, and then answers as it would have; one that is not the oldest of its line is not. A flush holds its
context's requests until it ends and clears KEEP of its lines. A scrub read of a clean sector changes no line, and while
SCRUB_ENABLE is 0 there is none. -/
def Obligations.UcService : Prop :=
  (∀ (k line : Nat) (s : State) (x : Mshr), k < 256 → findMshr (sliceGet s k).c line = some x → x.bz = .home →
    (x.got = 0 → exec (.ucFillComplete k line) s = .next s) ∧
    (∀ j b n, findWay (sliceGet s k).c line = none → x.fetch = bit16 b → x.got = bit16 b → b < 16 → x.gotPoison = 0 → x.gotDirty = 0 →
      x.write = none → x.waiters = [n] → n.sector = b → n.hint = 0 → x.hints = [(0, false)] →
      (sliceGet s k).c.held = [] → (sliceGet s k).c.mshrs = [x] → homesIdle s → j < 16 →
      sfind (sliceGet s k).c.ways (16 * setOf s (lineAddr line) x.near + j) = none →
      (∀ i, i < j → (sfind (sliceGet s k).c.ways (16 * setOf s (lineAddr line) x.near + i)).isSome = true) →
      ∃ u : State, ∃ w, exec (.ucFillComplete k line) s = .next u ∧
        sfind (sliceGet u k).c.ways (16 * setOf s (lineAddr line) x.near + j) = some w ∧ w.tag = line ∧ w.st = .home ∧
        w.svalid = bit16 b ∧ w.sdirty = 0 ∧ w.keep = false ∧ w.rrv = 2 ∧
        (∀ o, o / 64 = b → memRead w.data o = memRead x.data o) ∧
        u.uc.replies = s.uc.replies ++ [⟨n.dest, n.txn, lineAddr line + 64 * b, sectorBytes x.data b, false, 0⟩] ∧
        (sliceGet u k).c.mshrs = [] ∧ u.hbm = s.hbm)) ∧
  (∀ (k : Nat) (s : State) (h : HeldReq), (sliceGet s k).c.held = [h] → s.uc.flushing = [] →
    plainHome { s with uc := { s.uc with slices := sput s.uc.slices k { sliceGet s k with c := { (sliceGet s k).c with held := [] } } } }
      k h.req →
    (∀ j w, h.req.write = none → findWay (sliceGet s k).c (lineOf h.req.addr) = some (j, w) → w.st = .home →
      w.svalid.getLsbD (h.req.addr % 1024 / 64) = true → h.req.hint = 0 → ∃ u : State, exec (.ucHeldRelease k 0) s = .next u ∧
        u.uc.replies = s.uc.replies ++
          [⟨h.req.src, h.req.txn, h.req.addr, sectorBytes w.data (h.req.addr % 1024 / 64),
            w.spoison.getLsbD (h.req.addr % 1024 / 64), 0⟩] ∧
        (sliceGet u k).c.held = [] ∧ u.hbm = s.hbm)) ∧
  (∀ (k : Nat) (s : State) (a b : HeldReq), (sliceGet s k).c.held = [a, b] → lineOf a.req.addr = lineOf b.req.addr →
    exec (.ucHeldRelease k 1) s = .next s) ∧
  (∀ (ctx mode : Nat) (s : State), ctx < 1024 → mode < 2 →
    ∃ v : State, exec (.ucFlush ctx mode) s = .next (finish 0 [] (homesGoOn v)) ∧ (ctx, mode) ∈ v.uc.flushing ∧ v.hbm = s.hbm ∧
      ∀ q i w, sfind (sliceGet s q).c.ways i = some w →
        sfind (sliceGet v q).c.ways i = some (if w.ctx = ctx then { w with keep := false } else w)) ∧
  (∀ (k way sec : Nat) (tag data : Ecc) (s : State), k < 256 → sec < 16 →
    (num s 0x6402 1 1 = 0 → exec (.ucScrub k way sec tag data) s = .next s) ∧
    (∀ w, num s 0x6402 1 1 ≠ 0 → s.errs.planted = [] → sfind (sliceGet s k).c.ways way = some w →
      (∃ u : State, exec (.ucScrub k way sec .clean .clean) s = .next u ∧ ∀ q, (sliceGet u q).c = (sliceGet s q).c) ∧
      (w.svalid.getLsbD sec = true → ∃ u : State, exec (.ucScrub k way sec .clean .single) s = .next u ∧ countsOne s u 0x2406 1 32 ∧
        ∀ q, (sliceGet u q).c = (sliceGet s q).c) ∧
      (∃ u : State, exec (.ucScrub k way sec .double .clean) s = .next u ∧ countsOne s u 0x2406 3 32 ∧
        ∀ q, (sliceGet u q).c = (sliceGet s q).c)))

/-- R261, R262, R264, R274: a snoop at a guest or proxy slice is answered as the table of R261 says, the data to the requester
that it names and everything else to the home, and leaves the line in the table's state; in a state that waits for data or holds
the line, a forward or a recall is kept in the MSHR and counted; any other meeting is a protocol error, which is counted and
fatal for the die; and a snoop of another epoch than the home's is discarded and counted.

R253, R271, R274, R276, R565: the reply of a once-request completes it: DATA_ONCE answers the requested sector, ATOM_DATA the
old value, COMP nothing; an error completion answers ADDRESS (5); a reply that matches none, or comes from another epoch, is
discarded and counted. -/
def Obligations.SnoopAnswers : Prop :=
  (
    ∀ (k : Nat) (op : BOp) (m : BMsg) (st : LineState) (s : State), isSnoop op = true → atCopy s k m →
      let line := lineOf m.addr
      let d := copyData (sliceGet s k).c line
      copyAt s k line st →
      ((∀ e, knownEpoch s m.addr m.near = some e → e = m.epoch) →
        (∀ ops st2, snoopRow op st = some (ops, st2) → ∃ u : State, ∃ l, exec (bezelCmd op m) s = .next u ∧
          u.uc.sent = s.uc.sent.erase ⟨op, m⟩ ++ l ∧ l.map (·.op) = ops ∧ copyState (sliceGet u k).c line = st2 ∧
          (∀ p ∈ l, p.m.src = .slice k ∧ p.m.txn = m.txn ∧ p.m.addr = m.addr ∧ p.m.epoch = m.epoch ∧
            (p.op = .dataS ∨ p.op = .dataM ∨ p.op = .dataMAp → p.m.dst = m.src ∧ p.m.data = lineBytes d.1 ∧ p.m.sectors = d.2.1) ∧
            (p.op = .rspData → p.m.data = lineBytes d.1 ∧ p.m.sectors = d.2.1) ∧
            (p.op ≠ .dataS → p.op ≠ .dataM → p.op ≠ .dataMAp → p.m.dst = homeAgent s m.addr m.near)) ∧
          (∀ q, q ≠ k → sliceGet u q = sliceGet s q) ∧ u.uc.replies = s.uc.replies ∧ u.hbm = s.hbm ∧ u.cores = s.cores) ∧
        (op ≠ .inv → defers st = true → ∃ u : State, ∃ x, exec (bezelCmd op m) s = .next u ∧ findMshr (sliceGet u k).c line = some x ∧
          x.deferred = some ⟨op, m⟩ ∧ copyState (sliceGet u k).c line = st ∧ u.uc.sent = s.uc.sent.erase ⟨op, m⟩ ∧
          countsOne s u 0x2501 3 64) ∧
        (snoopRow op st = none → op = .inv ∨ defers st = false → ∃ v, countsOne s v 0x2501 1 32 ∧
          (∀ q, sliceGet v q = sliceGet s q) ∧
          exec (bezelCmd op m) s = .next (fatalDie (k / 64) 5 0x12 k m.addr false v))) ∧
      (∀ e, knownEpoch s m.addr m.near = some e → e ≠ m.epoch → ∃ u : State, exec (bezelCmd op m) s = .next u ∧
        countsOne s u 0x2501 2 64 ∧ (∀ q, sliceGet u q = sliceGet s q) ∧ u.uc.sent = s.uc.sent.erase ⟨op, m⟩)) ∧
  (
    ∀ (k : Nat) (op : BOp) (m : BMsg) (s : State), k < 256 → m.dst = .slice k → m.addr % 1024 = 0 →
      op = .dataOnce ∨ op = .comp ∨ op = .atomData →
      let found := s.uc.once.find? fun o => o.agent == m.dst && o.id == m.txn
      (∀ o, found = some o → (∀ e, o.epoch = some e → e = m.epoch) → ∃ u : State, exec (bezelCmd op m) s = .next u ∧
        u.uc.once = s.uc.once.erase o ∧ (∀ q, sliceGet u q = sliceGet s q) ∧ u.hbm = s.hbm ∧ u.cores = s.cores ∧
        (m.data = [] → m.spoison ≠ 0 → u.uc.replies = s.uc.replies ++ [⟨o.forWhom, o.txn, o.addr, [], false, 5⟩]) ∧
        (m.data ≠ [] ∨ m.spoison = 0 → u.uc.replies = s.uc.replies ++ [⟨o.forWhom, o.txn, o.addr,
          if o.op = .readOnce then slice m.data (o.addr % 1024 / 64 * 64) 64 else if o.op = .atom then slice m.data 8 8 else [],
          m.spoison != 0, 0⟩])) ∧
      (found = none ∨ (∃ o e, found = some o ∧ o.epoch = some e ∧ e ≠ m.epoch) → ∃ u : State, exec (bezelCmd op m) s = .next u ∧
        countsOne s u 0x2501 2 64 ∧ u.uc.once = s.uc.once ∧ u.uc.replies = s.uc.replies ∧ ∀ q, sliceGet u q = sliceGet s q))

/-- R260, R264, R266, R274, R276: data or a grant for the transaction that a guest or proxy slice has outstanding leads the line
to the state of R260's table, with COMP_ACK where the home is another device's and from OM_A; reads that waited are answered
from the data, and where all of them carried STREAM the line is given up at once (R227); a write that waited for ownership is made. Any other meeting is a protocol error. A reply of no outstanding
transaction, or of another epoch than the one recorded, is discarded and counted. HOME_LOST and REMOTE_LOST complete what
waited with 9 and 10. WB_ACK ends an eviction.

R262, R263, R403: when a hold ends the line becomes E or M and its MSHR is released; a deferred recall is then answered, and
agent 20's deferred snoop is passed on to the host. A line that is not held does not change. -/
def Obligations.GrantAnswers : Prop :=
  (
    ∀ (k : Nat) (op : BOp) (m : BMsg) (s : State), atCopy s k m →
      let line := lineOf m.addr
      let c := (sliceGet s k).c
      let grants : List BOp := [.dataS, .dataE, .dataM, .dataMAp, .gntM, .gntAcks]
      (∀ x, op ∈ grants → copyAt s k line x.bz → findMshr c line = some x → x.txn = m.txn → (∀ e, x.epoch = some e → e = m.epoch) →
        m.spoison = 0 →
        (∀ st, grantRow op x.bz = some st → streamOnly x = false → ∃ u : State, exec (bezelCmd op m) s = .next u ∧
          copyState (sliceGet u k).c line = st ∧ u.hbm.cells = s.hbm.cells ∧ u.cores = s.cores ∧
          (st = .s ∨ st = .eH ∨ st = .i → x.write = none → x.atom = none → (∀ w ∈ x.waiters, w.sector < 16) → m.data.length = 1024 →
            ∃ l, u.uc.replies = s.uc.replies ++ l ∧ l.length = x.waiters.length ∧
              ∀ w ∈ x.waiters, (⟨w.dest, w.txn, m.addr + 64 * w.sector, slice m.data (64 * w.sector) 64, false, 0⟩ : UcReply) ∈ l) ∧
          (∀ r bs, op = .dataM → x.write = some r → r.write = some bs → bs.length = 64 → x.waiters = [] → x.atom = none →
            m.data.length = 1024 →
            u.uc.replies = s.uc.replies ++ [⟨r.src, r.txn, r.addr, [], false, 0⟩] ∧
            ∀ o, memRead (copyData (sliceGet u k).c line).1 o =
              if o / 64 = r.addr % 1024 / 64 ∧ (bs.getD (o % 64) (false, 0)).1 = true then (bs.getD (o % 64) (false, 0)).2
              else m.data.getD o 0) ∧
          (st ≠ .imA → st ≠ .imD → x.bz = .omA ∨ devOf m.addr ≠ devId s → ∃ p ∈ u.uc.sent, p.op = .compAck ∧
            p.m.dst = homeAgent s m.addr m.near ∧ p.m.txn = m.txn ∧ p.m.addr = m.addr)) ∧
        (streamOnly x = true → x.bz = .isD → op = .dataS ∨ op = .dataE → ∃ u : State, exec (bezelCmd op m) s = .next u ∧
          copyState (sliceGet u k).c line = (if op = .dataS then .siA else .eiA) ∧ (sliceGet u k).c.ways = c.ways ∧
          ∃ p ∈ u.uc.sent, p.op = (if op = .dataS then .putS else .putE) ∧ p.m.dst = homeAgent s m.addr m.near) ∧
        (grantRow op x.bz = none → x.bz ≠ .home → ∃ v, countsOne s v 0x2501 1 32 ∧
          exec (bezelCmd op m) s = .next (fatalDie (k / 64) 5 0x12 k m.addr false v))) ∧
      (op ∈ grants → findMshr c line = none ∨ (∃ x, findMshr c line = some x ∧ x.bz ≠ .home ∧
          (x.txn ≠ m.txn ∨ ∃ e, x.epoch = some e ∧ e ≠ m.epoch)) →
        ∃ u : State, exec (bezelCmd op m) s = .next u ∧ countsOne s u 0x2501 2 64 ∧ (∀ q, sliceGet u q = sliceGet s q) ∧
          u.uc.replies = s.uc.replies) ∧
      (∀ x status, (op = .homeLost ∧ status = 9) ∨ (op = .remoteLost ∧ status = 10) →
        (s.uc.once.any fun o => o.agent == m.dst && o.id == m.txn) = false → findMshr c line = some x → x.bz ≠ .home →
        x.needWay = false → x.txn = m.txn → (∀ e, x.epoch = some e → e = m.epoch) → x.write = none → x.atom = none →
        ∃ u : State, exec (bezelCmd op m) s = .next u ∧ findMshr (sliceGet u k).c line = none ∧
          u.uc.replies = s.uc.replies ++ x.waiters.map (fun w => ⟨w.dest, w.txn, m.addr + 64 * w.sector, [], false, status⟩) ∧
          countsOne s u 0x2504 (if op = .homeLost then 1 else 2) 32) ∧
      (op = .wbAck → (findEvict c line).isSome = true → ∃ v : State, exec (bezelCmd op m) s = .next (learnEpoch m (homesGoOn v)) ∧
        findEvict (sliceGet v k).c line = none ∧ (sliceGet v k).c.ways = c.ways ∧ v.uc.replies = s.uc.replies)) ∧
  (
    (∀ (k line : Nat) (s : State) (x : Mshr) (j : Nat) (w : Way), findWay (sliceGet s k).c line = some (j, w) →
      findMshr (sliceGet s k).c line = some x → x.needWay = false → w.st = .eH ∨ w.st = .mH →
      (x.deferred = none → ∃ v : State, exec (.holdEnd (.slice k) line) s = .next (homesGoOn v) ∧
        findWay (sliceGet v k).c line = some (j, { w with st := if w.st = .eH then .e else .m }) ∧
        findMshr (sliceGet v k).c line = none ∧ v.uc.sent = s.uc.sent) ∧
      (∀ d, x.deferred = some ⟨.recallI, d⟩ → lineOf d.addr = line → w.st = .mH → isHostAddr d.addr = false →
        findEvict (sliceGet s k).c line = none →
        ∃ v : State, ∃ p, exec (.holdEnd (.slice k) line) s = .next (homesGoOn v) ∧ copyState (sliceGet v k).c line = .i ∧
          v.uc.sent = s.uc.sent ++ [p] ∧ p.op = .rspData ∧ p.m.dst = homeAgent s d.addr d.near ∧ p.m.txn = d.txn ∧
          p.m.data = lineBytes w.data ∧ p.m.sectors = w.sdirty)) ∧
    (∀ (k line : Nat) (s : State), copyState (sliceGet s k).c line ≠ .eH → copyState (sliceGet s k).c line ≠ .mH →
      exec (.holdEnd (.slice k) line) s = .next s) ∧
    (∀ (line : Nat) (s : State),
      ((agent20 s line).deferred = none → ∃ u : State, exec (.holdEnd .host line) s = .next u ∧ (agent20 u line).hold = false ∧
        (agent20 u line).st = (agent20 s line).st ∧ u.uc = s.uc) ∧
      (∀ op d, (agent20 s line).deferred = some (op, d) → ∃ u : State, exec (.holdEnd .host line) s = .next u ∧
        (agent20 u line).hold = false ∧ (agent20 u line).deferred = none ∧ u.uc = s.uc ∧
        ∃ b ∈ u.host.bi, b.line = lineOf d.addr ∧ b.op = op)))

/-- R247, R257, R258, R276, R565: requests at a home that nothing busies, for a line with a valid home copy and no copy in another
device. GET_S: DATA_E where nobody holds it, DATA_S where it has sharers, FWD_GETS to an owner. GET_M: DATA_M or, to a sharer,
GNT_M, after INV to every other sharer. READ_ONCE: DATA_ONCE, nothing recorded. WRITE_ONCE and ATOM with no holders: made at the home
copy, COMP and the old value. -/
def Obligations.HomeRequests : Prop :=
  ∀ (k q : Nat) (m : BMsg) (j : Nat) (w : Way) (s : State), atIdleHome s k m → m.src = .slice q → q < 256 → q / 64 ≠ k / 64 →
    let line := lineOf m.addr
    let n := q / 64
    let c := (sliceGet s k).c
    findWay c line = some (j, w) → w.st = .home → w.svalid = 0xFFFF → w.spoison = 0 → dirOf s m.addr m.near = none →
    let after := fun (op : BOp) (u : State) (ans : List (Agent × BOp × List Byte)) (d : DirIn) =>
      exec (bezelCmd op m) s = .next u ∧
      (∃ l, u.uc.sent = s.uc.sent.erase ⟨op, m⟩ ++ l ∧ l.map (fun p => (p.m.dst, p.op, p.m.data)) = ans ∧
        ∀ p ∈ l, p.m.txn = m.txn ∧ p.m.addr = m.addr ∧ p.m.epoch = (homeGet s (k / 64)).epoch) ∧
      (∃ y, findWay (sliceGet u k).c line = some (j, y) ∧ y.dir = d ∧ y.st = .home) ∧
      (∀ o, o ≠ k → sliceGet u o = sliceGet s o) ∧ u.hbm = s.hbm
    let held := fun (u : State) (outs : List (Agent × BOp)) => ∃ t, findTracker u k line = some t ∧ t.outs = outs
    (w.dir = {} → ∃ u : State, after .getS u [(m.src, .dataE, lineBytes w.data)] { owner := n, own := .excl } ∧
      findTracker u k line = none) ∧
    (w.dir.own = .none → w.dir.sharers ≠ 0 →
      ∃ u : State, after .getS u [(m.src, .dataS, lineBytes w.data)] { w.dir with sharers := w.dir.sharers ||| bit22 n } ∧
        findTracker u k line = none) ∧
    (w.dir.own ≠ .none → w.dir.owner ≠ n → w.dir.owner < 4 →
      ∃ u : State, after .getS u [(agentOf w.dir.owner m.addr, .fwdGetS, [])] w.dir ∧
        held u [(agentOf w.dir.owner m.addr, .fwdGetS)]) ∧
    (w.dir.own = .none → w.dir.sharers = 0 → ∃ u : State, after .getM u [(m.src, .dataM, lineBytes w.data)]
      { w.dir with owner := n, own := .excl } ∧ findTracker u k line = none) ∧
    (w.dir.own = .none → w.dir.sharers = bit22 n → ∃ u : State, after .getM u [(m.src, .gntM, [])]
      { w.dir with sharers := 0, owner := n, own := .excl } ∧ findTracker u k line = none) ∧
    (∀ i, w.dir.own = .none → w.dir.sharers = bit22 i → i < 4 → i ≠ n →
      ∃ u : State, after .getM u [(agentOf i m.addr, .inv, [])] w.dir ∧ held u [(agentOf i m.addr, .inv)]) ∧
    (w.dir.own = .none → ∃ u : State, after .readOnce u [(m.src, .dataOnce, lineBytes w.data)] w.dir) ∧
    (w.dir = {} → m.data.length = 1024 → m.spoison = 0 → ∃ u : State, after .writeOnce u [(m.src, .comp, [])] {} ∧
      ∃ y, findWay (sliceGet u k).c line = some (j, y) ∧ y.sdirty = w.sdirty ||| m.sectors ∧
        ∀ o, o < 1024 → memRead y.data o = if m.sectors.getLsbD (o / 64) = true then m.data.getD o 0 else memRead w.data o) ∧
    (w.dir = {} → m.data.length = 32 → ∃ u : State, after .atom u
        [(m.src, .atomData, leBytes 8 0 ++ leBytes 8 (leNat (memReadN w.data (atomOff m.data) (atomSize m.data))) ++ leBytes 16 0)] {} ∧
      ∃ y, findWay (sliceGet u k).c line = some (j, y) ∧
        memReadN y.data (atomOff m.data) (atomSize m.data) = leBytes (atomSize m.data)
          (atomNew (field m.data 0 1) (8 * atomSize m.data) (leNat (memReadN w.data (atomOff m.data) (atomSize m.data)))
            (field m.data 8 (atomSize m.data)) (field m.data 16 (atomSize m.data))) ∧
        ∀ o, o < atomOff m.data ∨ atomOff m.data + atomSize m.data ≤ o → memRead y.data o = memRead w.data o)

/-- R250, R258, R265, R267: PUT_S and PUT_E take the sender from the directory and are acknowledged; PUT_M and PUT_O are merged into
the home copy, sector by dirty sector, and acknowledged; a write-back that crosses a snoop to its sender is taken as the snoop's
answer, and counted. A request for a line with a busy tracker is held; at a home that is not ONLINE it is answered
HOME_LOST; for a line that no home serves it is answered with POISON and no data. A request of another device is granted
from the home copy, and its tracker waits for COMP_ACK. -/
def Obligations.HomeWriteBacks : Prop :=
  (∀ (k q : Nat) (op : BOp) (m : BMsg) (j : Nat) (w : Way) (s : State), atIdleHome s k m → m.src = .slice q → q < 256 →
    findWay (sliceGet s k).c (lineOf m.addr) = some (j, w) → w.st = .home → m.epoch = (homeGet s (k / 64)).epoch →
    op = .putS ∨ op = .putE ∨ ((op = .putM ∨ op = .putO) ∧ m.data.length = 1024 ∧ m.spoison = 0) →
    ∃ u : State, ∃ p y, exec (bezelCmd op m) s = .next u ∧ u.uc.sent = s.uc.sent.erase ⟨op, m⟩ ++ [p] ∧ p.op = .wbAck ∧ p.m.dst = m.src ∧
      p.m.txn = m.txn ∧ p.m.addr = m.addr ∧ findWay (sliceGet u k).c (lineOf m.addr) = some (j, y) ∧ u.hbm = s.hbm ∧
      (op = .putS → y = { w with dir := { w.dir with sharers := w.dir.sharers &&& ~~~(bit22 (q / 64)) } }) ∧
      (op = .putE → y = (if w.dir.own ≠ .none ∧ w.dir.owner = q / 64 then { w with dir := { w.dir with own := .none, owner := 0 } }
        else w)) ∧
      (op = .putM ∨ op = .putO → (w.dir.own ≠ .none → w.dir.owner = q / 64 → y.dir.own = .none) ∧
        y.sdirty = w.sdirty ||| m.sectors ∧ y.svalid = w.svalid ||| m.sectors ∧
        ∀ o, o < 1024 → memRead y.data o = if m.sectors.getLsbD (o / 64) = true then m.data.getD o 0 else memRead w.data o)) ∧
  (∀ (k : Nat) (op : BOp) (m : BMsg) (t : Tracker) (s : State), op = .putM ∨ op = .putO → k < 256 → m.dst = .slice k →
    m.addr % 1024 = 0 → roleOf s k m.addr m.near = some .home → homeServes s (k / 64) = true → (∃ q, m.src = .slice q) →
    m.epoch = (homeGet s (k / 64)).epoch → findTracker s k (lineOf m.addr) = some t →
    (t.outs.any fun e => e.1 == m.src && isOwnerSnoop e.2) = true → t.wbPend = [] →
    ∃ v : State, ∃ y, exec (bezelCmd op m) s = .next (homesGoOn v) ∧ findTracker v k (lineOf m.addr) = some y ∧
      y.outs = t.outs.filter (fun e => e.1 != m.src) ∧ y.absorb = m.src :: t.absorb ∧ countsOne s v 0x2501 4 64) ∧
  (∀ (k : Nat) (op : BOp) (m : BMsg) (s : State), k < 256 → m.dst = .slice k → m.addr % 1024 = 0 →
    roleOf s k m.addr m.near = some .home → m.src ≠ .siteP →
    op = .getS ∨ op = .getM ∨ op = .putS ∨ op = .putE ∨ op = .atom ∨ op = .readOnce ∨ op = .writeOnce →
    (homeServes s (k / 64) = true → (findTracker s k (lineOf m.addr)).isSome = true → ∃ u : State, exec (bezelCmd op m) s = .next u ∧
      (sliceGet u k).homeHeld = (sliceGet s k).homeHeld ++ [⟨op, m⟩] ∧ (sliceGet u k).c = (sliceGet s k).c ∧
      u.uc.sent = s.uc.sent.erase ⟨op, m⟩ ∧ u.hbm = s.hbm) ∧
    (∀ q, m.src = .slice q → (findTracker s k (lineOf m.addr)).isSome = true → homeServes s (k / 64) = false →
      ∃ u : State, ∃ p, exec (bezelCmd op m) s = .next u ∧ u.uc.sent = s.uc.sent.erase ⟨op, m⟩ ++ [p] ∧ p.op = .homeLost ∧ p.m.dst = m.src ∧
        p.m.txn = m.txn ∧ countsOne s u 0x2504 1 32 ∧ ∀ o, sliceGet u o = sliceGet s o) ∧
    (∀ q, m.src = .slice q → homesIdle s → homeServes s (k / 64) = true → lineBad s m.addr = true →
      ∃ u : State, ∃ p, exec (bezelCmd op m) s = .next u ∧ u.uc.sent = s.uc.sent.erase ⟨op, m⟩ ++ [p] ∧ p.op = replyOp op ∧ p.m.dst = m.src ∧
        p.m.data = [] ∧ p.m.spoison ≠ 0 ∧ ∀ o, sliceGet u o = sliceGet s o)) ∧
  (∀ (k x : Nat) (m : BMsg) (j : Nat) (w : Way) (s : State), atIdleHome s k m → m.src = .device x → x ≠ devId s →
    findWay (sliceGet s k).c (lineOf m.addr) = some (j, w) → w.st = .home → w.svalid = 0xFFFF → w.dir = {} →
    dirOf s m.addr m.near = none → dirFull s m.addr m.near = false →
    ∀ op, op = .getS ∨ op = .getM → ∃ u : State, ∃ p t d, exec (bezelCmd op m) s = .next u ∧
      u.uc.sent = s.uc.sent.erase ⟨op, m⟩ ++ [p] ∧ p.op = (if op = .getS then .dataE else .dataM) ∧ p.m.dst = .device x ∧
      p.m.data = lineBytes w.data ∧ p.m.txn = m.txn ∧ dirOf u m.addr m.near = some d ∧ d.mode = .exclusive ∧ d.ptrs = [x] ∧
      findTracker u k (lineOf m.addr) = some t ∧ t.awaitComp = true)

/-- R257, R258, R265, R274: a response at a home, of the home's epoch and for a tracker that waits for it, ends that wait, and
leaves the directory as R258 says; RSP_DATA is merged first; COMP_ACK ends the wait for it; RSP_WBPEND before its write-back
is noted and counted, after it absorbed. A response of another epoch, or that nothing waits for, is discarded and counted.

R273, R275, R277, R281: HOME_QUIESCE answers STATE_CONFLICT (1) of a home that is not ONLINE, and IN_PROGRESS otherwise, with the
home QUIESCING, or OFFLINE under the next epoch at once where it has nothing to write back; HOME_RETURN brings an OFFLINE home back
under its epoch and a LOST one under the next, with an empty remote-sharer directory, and answers STATE_CONFLICT of any other;
the loss of a B-die takes it and its C-die out of service and loses its home, and is taken once. -/
def Obligations.HomeResponses : Prop :=
  (
    ∀ (k : Nat) (op : BOp) (m : BMsg) (s : State), k < 256 → m.dst = .slice k → m.addr % 1024 = 0 →
      roleOf s k m.addr m.near = some .home →
      op = .invAck ∨ op = .fwdDoneO ∨ op = .fwdDoneS ∨ op = .fwdDoneI ∨ op = .fwdMiss ∨ op = .rspData ∨ op = .rspWbpend ∨
        op = .compAck →
      let line := lineOf m.addr
      let epoch := (homeGet s (k / 64)).epoch
      (m.epoch ≠ epoch ∨ findTracker s k line = none ∨ (∃ t, findTracker s k line = some t ∧
          (op = .compAck → t.awaitComp = false ∨ t.req ≠ m.src) ∧ (op = .rspWbpend → m.src ∉ t.absorb) ∧
          (op ≠ .compAck → (t.outs.any fun e => e.1 == m.src) = false)) →
        ∃ u : State, exec (bezelCmd op m) s = .next u ∧ countsOne s u 0x2501 2 64 ∧ ∀ o, sliceGet u o = sliceGet s o) ∧
      (∀ t, m.epoch = epoch → findTracker s k line = some t →
        (op = .compAck → t.awaitComp = true → t.req = m.src → ∃ v : State, exec (.compAck m) s = .next (homesGoOn v) ∧
          findTracker v k line = some { t with awaitComp := false } ∧ (sliceGet v k).c = (sliceGet s k).c) ∧
        (op = .rspWbpend → m.src ∈ t.absorb → ∃ v : State, exec (.rspWbpend m) s = .next (homesGoOn v) ∧
          findTracker v k line = some { t with absorb := t.absorb.filter (· != m.src) }) ∧
        (op = .rspWbpend → m.src ∉ t.absorb → (t.outs.any fun e => e.1 == m.src) = true →
          ∃ u : State, exec (.rspWbpend m) s = .next u ∧ findTracker u k line = some { t with wbPend := m.src :: t.wbPend } ∧
            countsOne s u 0x2501 4 64) ∧
        (∀ q snp j w, m.src = .slice q → q < 256 → t.outs = [(m.src, snp)] → op ≠ .compAck → op ≠ .rspWbpend →
          findWay (sliceGet s k).c line = some (j, w) → w.st = .home → m.data.length = 1024 → m.spoison = 0 →
          ∃ v : State, ∃ y, exec (bezelCmd op m) s = .next (homesGoOn v) ∧
            findTracker v k line = some { t with outs := [], served := t.served || decide (op = .fwdDoneO ∨ op = .fwdDoneS ∨ op = .fwdDoneI) } ∧
            findWay (sliceGet v k).c line = some (j, y) ∧
            y.dir.own = (if op = .fwdDoneO then .o
              else if op = .fwdDoneS ∨ (snp = .recallS ∧ (op = .invAck ∨ op = .rspData)) then .none
              else if w.dir.own ≠ .none ∧ w.dir.owner = q / 64 then .none else w.dir.own) ∧
            y.dir.sharers = (if op = .fwdDoneO then w.dir.sharers
              else if op = .fwdDoneS ∨ (snp = .recallS ∧ (op = .invAck ∨ op = .rspData)) then w.dir.sharers ||| bit22 (q / 64)
              else w.dir.sharers &&& ~~~(bit22 (q / 64))) ∧
            (op ≠ .rspData → y.data = w.data ∧ y.sdirty = w.sdirty) ∧
            (op = .rspData → y.sdirty = w.sdirty ||| m.sectors ∧
              ∀ o, o < 1024 → memRead y.data o = if m.sectors.getLsbD (o / 64) = true then m.data.getD o 0 else memRead w.data o)))) ∧
  (
    ∀ (b : Nat) (s : State), b < 4 →
      let h := homeGet s b
      let next := if 0xFFFF ≤ h.epoch then 1 else h.epoch + 1
      (h.st ≠ .online → ∃ u : State, exec (.homeQuiesce b) s = .next u ∧ u.dict.result = (0x23, [1, 0]) ∧ onlyResult s u) ∧
      (h.st = .online → h.dir = [] → s.uc.slices = [] → ∃ u : State, exec (.homeQuiesce b) s = .next u ∧ u.dict.result = (2, []) ∧
        homeGet u b = { h with st := .offline, epoch := next } ∧ ∀ d, d ≠ b → homeGet u d = homeGet s d) ∧
      (h.st = .offline → ∃ u : State, exec (.homeReturn b) s = .next u ∧ u.dict.result = (0, []) ∧
        homeGet u b = { st := .online, epoch := h.epoch, dir := [] } ∧ u.uc.slices = s.uc.slices ∧
        ∀ d, d ≠ b → homeGet u d = homeGet s d) ∧
      (h.st = .lost → ∃ u : State, exec (.homeReturn b) s = .next u ∧ u.dict.result = (0, []) ∧
        homeGet u b = { st := .online, epoch := next, dir := [] }) ∧
      (h.st = .online ∨ h.st = .quiescing → ∃ u : State, exec (.homeReturn b) s = .next u ∧ u.dict.result = (0x23, [1, 0]) ∧ onlyResult s u) ∧
      (b ∈ s.helda.lost → exec (.bDieLoss b) s = .next s) ∧
      (b ∉ s.helda.lost → ∃ v : State, exec (.bDieLoss b) s = .next (portsOff b (homeDieLost b (dieSectionsOut b 0x13 v))) ∧ isOut v b = true ∧
        isOut v (4 + b) = true ∧ b ∈ v.helda.lost) ∧
      (s.uc.slices = [] → s.uc.cc = [] → s.uc.once = [] → homesIdle s → s.host.agent20 = [] →
        (homeGet (homeDieLost b s) b).st = .lost ∧ (homeGet (homeDieLost b s) b).dir = []))

/-- R284: where a backed local address lies. The row, bank, channel and stack are the bits of the address that the placement names, folded; the map is
a bijection of the backed 1 KiB lines onto rows 0 to 34,175 of every bank; a line's sector k lies at column 64k of its row; and the near home is the B-die of the stack. -/
def Obligations.HbmPlacement : Prop :=
  (∀ a, a < backedBytes →
    let f := fun (i : Nat) => (a.testBit (10 + i) ^^ a.testBit (19 + i) ^^ a.testBit (28 + i) ^^ (decide (i ≤ 1) && a.testBit (37 + i))).toNat
    let p := hbmPlace a
    a / 2 ^ 19 ≤ 546815 ∧ p.bank = a / 2 ^ 19 % 16 ∧ p.row = a / 2 ^ 19 / 16 ∧ p.row ≤ 34175 ∧ p.pc = f 0 ∧
    p.ch = f 1 + 2 * f 2 + 4 * f 3 + 8 * f 4 + 16 * f 5 ∧ p.stack = 2 * (f 6 + 2 * f 7) + f 8 ∧ homeDie a = f 6 + 2 * f 7) ∧
  (∀ a b, a < backedBytes → b < backedBytes → (hbmPlace a = hbmPlace b ↔ a / 1024 = b / 1024)) ∧
  (∀ p : HbmLoc, p.stack < 8 → p.ch < 32 → p.pc < 2 → p.bank < 16 → p.row ≤ 34175 → ∃ a, a < backedBytes ∧ hbmPlace a = p) ∧
  ∀ (s : State) (a : Nat), a < backedBytes → s.hbm.redirect = [] → pendingWr s a = none →
    let i := 1024 * rowKey (hbmPlace a) + 64 * (a % 1024 / 64)
    memSector s a = (memReadN s.hbm.cells i 64, s.hbm.poison.contains (i / 64))

/-- R287, R291, R298, R299, R302: the next read of a channel delivers its sector to the MSHR that asked for it, counted, corrected, or
poisoned where the code cannot correct it, and none is issued in STOP; the next write is stored whole, poison with it, even in
STOP; refresh changes nothing; a scrub read takes a cycle only where nothing waits, corrects, and poisons what it cannot correct. -/
def Obligations.HbmAccess : Prop :=
  (∀ (stack ch : Nat) (e : Ecc) (s : State), stack < 8 → ch < 32 →
    let k := 32 * stack + ch
    let c := chanGet s k
    (stopped s stack = true → exec (.hbmRead stack ch e) s = .next s) ∧
    (∀ r x, stopped s stack = false → c.rq = [r] → c.wq = [] → c.wHeld = [] → c.rHeld = [] → s.hbm.redirect = [] → s.errs.planted = [] →
      r.addr % 64 = 0 → r.addr < backedBytes → chanOf (hbmPlace r.addr) = k →
      findMshr (sliceGet s r.slice).c (lineOf (globalOf s r.addr)) = some x → x.bz = .home →
      x.got.getLsbD (r.addr % 1024 / 64) = false →
      let row := rowKey (hbmPlace r.addr)
      let d := cellRead s row (r.addr % 1024)
      let i := r.addr % 1024 / 64
      ∃ u : State, ∃ y, exec (.hbmRead stack ch e) s = .next u ∧
        findMshr (sliceGet u r.slice).c (lineOf (globalOf s r.addr)) = some y ∧ y.got = x.got ||| bit16 i ∧ sectorBytes y.data i = d.1 ∧
        y.gotPoison = (if d.2 = true ∨ e = .double then x.gotPoison ||| bit16 i else x.gotPoison) ∧
        (d.2 = true ∨ e = .clean → u.hbm.cells = s.hbm.cells) ∧ (chanGet u k).rq = [] ∧
        (d.2 = true → countsOne s u 0x2607 3 64) ∧ (d.2 = false → e = .single → countsOne s u 0x2607 1 64) ∧
        (d.2 = false → e = .double → countsOne s u 0x2607 2 64 ∧ (cellRead u row (r.addr % 1024)).2 = true) ∧
        num u 0x260B (stack / 2 + 1) 0 = min (num s 0x260B (stack / 2 + 1) 0 + 64) (2 ^ 64 - 1))) ∧
  (∀ (stack ch : Nat) (s : State) (w : HbmWr), stack < 8 → ch < 32 →
    let k := 32 * stack + ch
    let c := chanGet s k
    c.wq = [w] → c.rq = [] → c.rHeld = [] → c.wHeld = [] → s.hbm.redirect = [] → s.errs.planted = [] → w.data.length = 64 →
    w.addr % 64 = 0 → chanOf (hbmPlace w.addr) = k →
    ∃ v : State, exec (.hbmWrite stack ch) s = .next (homesGoOn v) ∧ (chanGet v k).wq = [] ∧
      cellRead v (rowKey (hbmPlace w.addr)) (w.addr % 1024) = (w.data, w.poison) ∧
      (∀ a, a / 64 ≠ (1024 * rowKey (hbmPlace w.addr) + w.addr % 1024) / 64 → memRead v.hbm.cells a = memRead s.hbm.cells a) ∧
      num v 0x260B (stack / 2 + 5) 0 = min (num s 0x260B (stack / 2 + 5) 0 + 64) (2 ^ 64 - 1)) ∧
  (∀ (stack ch : Nat) (bank : Option Nat) (s : State), stack < 8 → ch < 32 → (∀ b, bank = some b → b < 16) →
    exec (.hbmRefresh stack ch bank) s = .next s) ∧
  (∀ (stack ch row sec : Nat) (s : State), stack < 8 → ch < 32 → row / 65536 < 32 → row % 65536 < 34208 → sec < 16 →
    let k := 32 * stack + ch
    let c := chanGet s k
    let key := rowKey { stack := stack, ch := ch, pc := row / 65536 / 16, bank := row / 65536 % 16, row := row % 65536 }
    (∀ e, num s 0x6607 1 1 = 0 ∨ c.rq ≠ [] ∨ c.wq ≠ [] ∨ isOut s (8 + stack) = true →
      exec (.hbmScrub stack ch row sec e) s = .next s) ∧
    (num s 0x6607 1 1 ≠ 0 → c.rq = [] → c.wq = [] → isOut s (8 + stack) = false → s.errs.planted = [] →
      (cellRead s key (64 * sec)).2 = false →
      (∃ u : State, exec (.hbmScrub stack ch row sec .clean) s = .next u ∧ u.hbm.cells = s.hbm.cells ∧ u.hbm.poison = s.hbm.poison ∧
        u.uc = s.uc) ∧
      (∃ u : State, exec (.hbmScrub stack ch row sec .single) s = .next u ∧ countsOne s u 0x2607 1 64 ∧ u.uc = s.uc) ∧
      (num s 0x6603 1 1 ≠ 1 → ∃ u : State, exec (.hbmScrub stack ch row sec .double) s = .next u ∧ countsOne s u 0x2607 2 64 ∧
        (cellRead u key (64 * sec)).2 = true ∧ u.hbm.cells = s.hbm.cells ∧ u.uc = s.uc)))

/-- R293 to R296, R302, R303: REDIRECT_ADD answers STACK_OUT_OF_SERVICE (2) or TABLE_FULL (1), applying nothing, and otherwise takes the
lowest free entry of the pseudo-channel for the rows given, whose data it copies into the entry's slot, so that an access to the
row then reaches the slot. RESERVE answers NO_PARTITION (1) for one that does not exist, and otherwise sets all four rates of the
partition, each clamped to what the B-die has left and rounded down to 10⁹.

R290, R291, R305: a valid reading sets STACK_TEMP and raises the step to the highest whose threshold it has reached; a step is
left only below its threshold less THR_HYST; STOP is counted as it is entered. A reading that is not valid is counted and leaves the step for three
readings, and the fourth makes it at least 4. No other stack changes. -/
def Obligations.RedirectAndReserve : Prop :=
  (
    (∀ (stack ch pc span bank row prio : Nat) (s : State), stack < 8 → ch < 32 → pc < 2 → span < 5 → bank < 16 → row < 34208 →
      prio < 4 → row % 2 ^ span = 0 →
      let p : HbmLoc := { stack := stack, ch := ch, pc := pc, bank := bank, row := row }
      let i := Instr.redirectAdd stack ch pc span bank row prio
      (isOut s (8 + stack) = true → ∃ u : State, exec i s = .next u ∧ u.dict.result = (0x23, [2, 0]) ∧ onlyResult s u) ∧
      (isOut s (8 + stack) = false → freeEntry s p = none → ∃ u : State, exec i s = .next u ∧ u.dict.result = (0x23, [1, 0]) ∧
        onlyResult s u) ∧
      (∀ n, isOut s (8 + stack) = false → freeEntry s p = some n → redirectsOf s p = [] →
        ∃ u : State, exec i s = .next u ∧ u.dict.result = (0, []) ∧
          sfind u.hbm.redirect (64 * chanOf p + n) =
            some { firmware := true, prio := prio, span := span, pending := false, bank := bank, row := row } ∧
          (∀ j, j ≠ 64 * chanOf p + n → sfind u.hbm.redirect j = sfind s.hbm.redirect j) ∧
          (row < 34176 → ∀ o, o < 1024 →
            memRead u.hbm.cells (1024 * (accessRow p u).1 + o) = memRead s.hbm.cells (1024 * rowKey p + o)) ∧
          u.uc = s.uc ∧ u.cores = s.cores)) ∧
    (∀ (p : Nat) (l : List Nat) (s : State), p < 64 → l.length = 4 →
      ((partGet s p).st = .none → ∃ u : State, exec (.reserve p l) s = .next u ∧ u.dict.result = (0x23, [1, 0]) ∧ onlyResult s u) ∧
      ((partGet s p).st ≠ .none → ∃ u : State, exec (.reserve p l) s = .next u ∧ u.dict.result = (0, []) ∧
        (∀ b, b < 4 → resOf u p b =
          min (l.getD b 0) (max (resOf s p b) (capacity s b - (resTotal s b - resOf s p b))) / 1000000000 * 1000000000) ∧
        (∀ q b, q ≠ p → b < 4 → resOf u q b = resOf s q b) ∧ u.hbm.cells = s.hbm.cells ∧ u.uc = s.uc))) ∧
  (
    ∀ (k : Nat) (s : State), k < 8 → (stackGet s k).step ≤ 5 →
      let x := stackGet s k
      (∀ t : Int, ∃ u : State, exec (.stackTempRead k (some t)) s = .next u ∧ (stackGet u k).temp = some t ∧ (stackGet u k).invalid = 0 ∧
        (let n := (stackGet u k).step
         n ≤ 5 ∧ (∀ j, 1 ≤ j → j ≤ 5 → thrOf s j ≤ t → j ≤ n) ∧
         (x.step < n → thrOf s n ≤ t) ∧ (0 < n → n ≤ x.step → thrOf s n ≤ t ∨ thrOf s n - num s 0x2602 6 30 ≤ t) ∧
         (∀ j, n < j → j ≤ x.step → t < thrOf s j - num s 0x2602 6 30) ∧
         (n = 5 → x.step ≠ 5 → countsOne s u (0x2601) (0x11 + k) 32)) ∧
        (∀ j, j ≠ k → stackGet u j = stackGet s j) ∧ u.hbm.cells = s.hbm.cells ∧ u.uc = s.uc) ∧
      (∃ u : State, exec (.stackTempRead k none) s = .next u ∧ (stackGet u k).temp = none ∧ (stackGet u k).invalid = x.invalid + 1 ∧
        (x.invalid < 3 → (stackGet u k).step = x.step) ∧ (3 ≤ x.invalid → x.holdStep = false → (stackGet u k).step = max x.step 4) ∧
        (∀ j, j ≠ k → stackGet u j = stackGet s j) ∧ u.uc = s.uc))

/-- R314, R320, R321, R332: link-up in TRAINING begins negotiation with a CAP of three units, and with fewer than four modules is a
failed attempt; the initiator answers a CAP that R321 accepts with CAP_COMMIT, and one that it rejects with CAP_REJECT and DISABLED with the
first failing reason; the responder answers a commit equal to its own result with CAP_ACCEPT and is ACTIVE, and another
with MISMATCH; CAP_ACCEPT makes the initiator ACTIVE, its counts 0 and its credits the peer's; a step that is not answered starts
again, the third time DOWN; a training attempt that fails is tried three times; a DOWN link trains again. -/
def Obligations.HeldaNegotiation : Prop :=
  ∀ (e : Nat) (s : State), e < 16 →
    let x := endGet s e
    let peerOk := fun (c : Cap) => c.srcAgent = endAgent (farEnd e) ∧ c.verMajor = 1 ∧ c.classes = 0xFF ∧ c.coherence = 2 ∧
      c.power = 3 ∧ c.credits = heldaCredits
    let sends := fun (u : State) (type n : Nat) => ∃ m, (endGet u e).resend = x.resend ++ [m] ∧ m.cls = 7 ∧ m.units.length = n ∧
      field (m.units.getD 0 []) 0 1 = type ∧ field (m.units.getD 0 []) 4 1 = endAgent e ∧
      field (m.units.getD 0 []) 5 1 = endAgent (farEnd e)
    let stops := fun (i : Instr) (st : HeldaState) (reason : Nat) => ∃ v : State, exec i s = .next (afterStop (e / 2) v) ∧
      (endGet v e).st = st ∧ (endGet v e).reason = reason
    let active := fun (u : State) (c : CapCommit) (p : Cap) => (endGet u e).st = .active ∧ (endGet u e).sent = 0 ∧
      (endGet u e).received = 0 ∧ (endGet u e).resend = [] ∧
      ∀ i, i < 8 → sget 0 (endGet u e).credits i = if bit c.classes i = true then creditShare p.credits i else 0
    (∀ n, x.st = .training → x.recovering = false → 4 ≤ n → ∃ u : State, exec (.heldaAdapterUp e n) s = .next u ∧
      (endGet u e).st = .negotiating ∧ (endGet u e).modules = (if n < 8 then 4 else 8) ∧ sends u 1 3 ∧
      sget 0 (endGet u e).credits 7 = 0) ∧
    (∀ n, x.st = .training → x.recovering = false → n < 4 → x.attempts < 2 → ∃ u : State, exec (.heldaAdapterUp e n) s = .next u ∧
      endGet u e = { x with attempts := x.attempts + 1, reason := 0xD }) ∧
    (∀ n, x.st = .training → x.recovering = true → exec (.heldaAdapterUp e n) s = .next s) ∧
    (∀ n, x.st = .retrain → x.held = [] → ∃ u : State, exec (.heldaAdapterUp e n) s = .next u ∧
      endGet u e = { x with st := .active, modules := if n < 8 then 4 else 8 }) ∧
    (∀ c, x.st = .negotiating → e % 2 = 1 → ∃ u : State, exec (.cap e c) s = .next u ∧ endGet u e = { x with capRecv := some c }) ∧
    (∀ c, x.st = .negotiating → e % 2 = 0 → peerOk c → inStartup s = true → 1 ≤ sget 0 x.credits 7 →
      ∃ u : State, exec (.cap e c) s = .next u ∧ (endGet u e).commit = some ⟨0, 0xFF, 2, 3⟩ ∧ (endGet u e).capRecv = some c ∧ sends u 2 1) ∧
    (∀ c, x.st = .negotiating → e % 2 = 0 → c.srcAgent ≠ endAgent (farEnd e) → stops (.cap e c) .disabled 7) ∧
    (∀ c, x.st = .negotiating → e % 2 = 0 → c.srcAgent = endAgent (farEnd e) → c.verMajor ≠ 1 → stops (.cap e c) .disabled 3) ∧
    (∀ p c, x.st = .negotiating → e % 2 = 1 → x.capRecv = some p → peerOk p → inStartup s = true → x.held = [] →
      (c = ⟨0, 0xFF, 2, 3⟩ → 1 ≤ sget 0 x.credits 7 → ∃ u : State, exec (.capCommit e c) s = .next u ∧ active u c p) ∧
      (c ≠ ⟨0, 0xFF, 2, 3⟩ → stops (.capCommit e c) .disabled 0xE)) ∧
    (∀ p c, x.st = .negotiating → e % 2 = 0 → x.capRecv = some p → x.commit = some c → x.held = [] →
      ∃ u : State, exec (.capAccept e) s = .next u ∧ active u c p) ∧
    (∀ r, x.st = .negotiating → stops (.capReject e r) .disabled r) ∧
    (x.st = .negotiating → x.expiries < 2 → ∃ u : State, exec (.negotiationTimeout e) s = .next u ∧
      (endGet u e).expiries = x.expiries + 1 ∧ (endGet u e).st = .negotiating ∧ (endGet u e).capRecv = none ∧ sends u 1 3) ∧
    (x.st = .negotiating → 2 ≤ x.expiries → stops (.negotiationTimeout e) .down 9) ∧
    (x.st = .training → x.attempts < 2 → ∃ u : State, exec (.heldaTrainFail e) s = .next u ∧
      endGet u e = { x with attempts := x.attempts + 1, reason := 2 }) ∧
    (x.st = .training → 2 ≤ x.attempts → x.reason ≠ 0xD → stops (.heldaTrainFail e) .down 2) ∧
    (x.st = .down → ∃ u : State, exec (.heldaDownRetry e) s = .next u ∧
      endGet u e = { x with st := .training, attempts := 0, expiries := 0 }) ∧
    (x.st ≠ .negotiating → (∀ c, exec (.cap e c) s = .next s) ∧ (∀ c, exec (.capCommit e c) s = .next s) ∧
      exec (.capAccept e) s = .next s ∧ (∀ r, exec (.capReject e r) s = .next s) ∧ exec (.negotiationTimeout e) s = .next s) ∧
    (x.st ≠ .down → exec (.heldaDownRetry e) s = .next s)

/-- R310, R311, R314, R315, R326, R332, R333, R335, R337, R341: a message of one unit on an ACTIVE link is counted, keeps its credit
granted, and is delivered; a Reserved bit set, a unit that starts no message or one beyond the credits is a
protocol error: counted, and the link DISABLED with PROTOCOL; a link that is neither ACTIVE nor negotiating takes nothing. A
retrain is counted, and keeps everything; at its limit the link is DOWN. LINK_RECOVER discards what the peer received and keeps the rest, in order. LINK_CTL
enables a dead link, retrains an ACTIVE one, and disables unless a B-die would be lost (LAST_PATH, 1). SITEP_ENABLE 1 trains link 8,
0 loses site P.

R328 to R331: DEMAND is kept at the IOD with its temperature, and answered with a GRANT of the power in force; a GRANT is in force
at its agent from then on and ends the count of misses; an agent's DEMAND carries the next SEQ and never more than its
MAX_POWER_MW; each period without a GRANT is counted, and from the fifth the agent keeps within SAFE_POWER_MW. -/
def Obligations.HeldaLinks : Prop :=
  (
    (∀ (e : Nat) (s : State), e < 16 →
      let x := endGet s e
      let stops := fun (i : Instr) (st : HeldaState) => ∃ v : State, exec i s = .next (afterStop (e / 2) v) ∧ (endGet v e).st = st ∧
        (st = .disabled → countsOne s v 0x2706 1 32 ∧ (endGet v e).reason = 0xB)
      let idle := fun (f : HeldaFlitData) => f.reservedZero = true ∧ f.cr0Count = 0 ∧ f.cr1Count = 0 ∧ x.held = []
      (∀ f u1 r, x.st = .active → idle f → f.units = u1 :: r → (∀ u ∈ r, u.valid = false) → u1.valid = true → u1.cls < 7 →
        sget [] x.partialMsg u1.cls = [] →
        (u1.start = true → 0 < sget 0 x.granted u1.cls → field u1.bytes 16 1 = 0 → field u1.bytes 17 1 = 0 →
          ∃ u : State, exec (.heldaFlit e f) s = .next u ∧ u.helda.delivered = s.helda.delivered ++ [(e, u1.cls, [u1.bytes])] ∧
            (endGet u e).received = (x.received + 1) % 2 ^ 32 ∧ sget 0 (endGet u e).granted u1.cls = sget 0 x.granted u1.cls ∧
            (endGet u e).st = .active ∧ u.uc = s.uc) ∧
        (u1.start = false ∨ sget 0 x.granted u1.cls = 0 → r = [] → stops (.heldaFlit e f) .disabled)) ∧
      (∀ f, x.st = .active → f.reservedZero = false → stops (.heldaFlit e f) .disabled) ∧
      (∀ f, x.st ≠ .active → x.st ≠ .negotiating → exec (.heldaFlit e f) s = .next s) ∧
      (x.st = .active → ∃ u : State, exec (.heldaRetrain e) s = .next u ∧ endGet u e = { x with st := .retrain, retrainAt := time s } ∧
        countsOne s u 0x2703 (e / 2 + 1) 32) ∧
      (x.st ≠ .active → exec (.heldaRetrain e) s = .next s) ∧
      (x.st = .retrain → (∃ v : State, exec (.heldaRetrainLimit e) s = .next (afterStop (e / 2) v) ∧ (endGet v e).st = .down ∧
        (endGet v e).reason = 0xA ∧ (endGet v e).recovering = true)) ∧
      (x.st ≠ .retrain → exec (.heldaRetrainLimit e) s = .next s) ∧
      (x.st = .active ∨ x.st = .retrain → ∃ v : State, exec (.heldaAdapterFail e) s = .next (afterStop (e / 2) v) ∧ (endGet v e).st = .down ∧
        (endGet v e).recovering = true) ∧
      (x.st ≠ .active → x.st ≠ .retrain → exec (.heldaAdapterFail e) s = .next s) ∧
      (∀ n, x.recovering = true → otherEnd s e = none → ∃ u : State, exec (.heldaLinkRecover e n) s = .next u ∧
        (endGet u e).recovering = false ∧ (endGet u e).resend = [] ∧
        (endGet u e).held = x.resend.filter (fun m => decide (2 ^ 31 ≤ (n + 2 ^ 32 - m.num) % 2 ^ 32)) ++ x.held ∧
        ((endGet s (farEnd e)).recovering = false → countsOne s u 0x2704 (e / 2 + 1) 32)) ∧
      (∀ n, x.recovering = false → exec (.heldaLinkRecover e n) s = .next s)) ∧
    (∀ (j : Nat) (s : State), j < 8 →
      let dead := (linkEnds j).any fun e => (endGet s e).st == .down || (endGet s e).st == .disabled
      (dead = true → ∃ u : State, exec (.heldaLinkEnable j) s = .next u ∧ u.dict.result = (0, []) ∧
        ∀ e ∈ linkEnds j, endGet u e = { endGet s e with st := .training, attempts := 0, expiries := 0 }) ∧
      (dead = false → ∃ u : State, exec (.heldaLinkEnable j) s = .next u ∧ u.dict.result = (0, []) ∧ onlyResult s u) ∧
      (lastPath j s = true → ∃ u : State, exec (.heldaLinkDisable j) s = .next u ∧ u.dict.result = (0x23, [1, 0]) ∧ onlyResult s u) ∧
      (lastPath j s = false → ∃ v : State, exec (.heldaLinkDisable j) s = .next (finish 0 [] (afterStop j v)) ∧
        ∀ e ∈ linkEnds j, (endGet v e).st = .disabled ∧ ((endGet s e).st ≠ .disabled → (endGet v e).reason = 0xC)) ∧
      (∃ u : State, exec (.heldaLinkRetrain j) s = .next u ∧ u.dict.result = (0, []) ∧
        ∀ e ∈ linkEnds j, (endGet u e).st = (if (endGet s e).st = .active then .retrain else (endGet s e).st))) ∧
    (∀ (s : State), s.part.variant = .qx4p →
      ((endGet s 16).st = .off ∨ (endGet s 16).st = .down → ∃ u : State, exec (.sitepEnable 1) s = .next u ∧ u.dict.result = (0, []) ∧
        (endGet u 16).st = .training ∧ u.helda.siteP.st = 1 ∧ num u 0x2707 1 1 = 1) ∧
      (∃ v : State, exec (.sitepEnable 0) s = .next (finish 0 [] (sitePLost 0xC v)) ∧ num v 0x2707 1 1 = 0 ∧
        ((endGet s 16).st ≠ .disabled → (endGet v 16).st = .off)))) ∧
  (
    ∀ (a : Nat) (s : State), 4 ≤ a → a ≤ 7 →
      let x := agentGet s a
      let others := fun (u : State) => ∀ b, b ≠ a → agentGet u b = agentGet s b
      (∀ d e, mgmtEnd s 8 a = some e → (endGet s e).st = .active → 1 ≤ sget 0 (endGet s e).credits 7 →
        ∃ u : State, ∃ m, exec (.demand a d) s = .next u ∧ (agentGet u a).lastDemand = d ∧
          (agentGet u a).temp = (if d.tempValid = true then some d.temp else none) ∧ others u ∧
          (endGet u e).resend = (endGet s e).resend ++ [m] ∧ m.cls = 7 ∧ m.units.length = 1 ∧ field (m.units.getD 0 []) 0 1 = 0x11 ∧
          field (m.units.getD 0 []) 5 1 = a ∧
          field (m.units.getD 0 []) 8 4 = sget (Config.safeMw a) s.power.grants a % 2 ^ 32 ∧
          field (m.units.getD 0 []) 12 2 = d.seq % 65536) ∧
      (∀ seq mw flags, seq < 65536 → flags < 2 ^ 144 → ∃ u : State, exec (.grant a seq mw flags) s = .next u ∧
        agentGet u a = { x with grantMw := mw, missed := 0, safeOnly := false } ∧ others u ∧ u.power = s.power) ∧
      (∀ dm av e, mgmtEnd s a 8 = some e → (endGet s e).st = .active → 1 ≤ sget 0 (endGet s e).credits 7 →
        ∃ u : State, ∃ m, exec (.demandPeriod a dm av) s = .next u ∧ agentGet u a = { x with demandSeq := (x.demandSeq + 1) % 65536 } ∧ others u ∧
          (endGet u e).resend = (endGet s e).resend ++ [m] ∧ field (m.units.getD 0 []) 0 1 = 0x10 ∧
          field (m.units.getD 0 []) 8 4 = min dm (Config.maxMw a) % 2 ^ 32 ∧ field (m.units.getD 0 []) 12 4 = av % 2 ^ 32) ∧
      (∃ u : State, exec (.grantMiss a) s = .next u ∧ agentGet u a = { x with missed := x.missed + 1, safeOnly := decide (5 ≤ x.missed + 1) } ∧
        others u ∧ countsOne s u 0x2709 (a + 9) 32))

/-- R345 to R348, R350, R351, R357, R358: on an ACTIVE port a data flit of the expected SEQ advances it, and a whole CTL packet for
the link agent is taken up and counted; a flit whose CRC fails, or whose SEQ is another, is dropped and asked for again; a
Reserved FTYPE disables the port with PROTOCOL. A NAK resends from the SEQ it names, and the eighth without progress retrains the
port. A NAK is repeated while it is outstanding. -/
def Obligations.CarrakFlits : Prop :=
  ∀ (p : Nat) (s : State), p < 24 →
    let x := portGet s p
    let errs := fun (u : State) (i : Nat) => sget 0 (portGet u p).counters i = min (sget 0 x.counters i + 1) (2 ^ 64 - 1)
    (∀ f, x.st = .active → f.crcOk = true → f.ftype = 0 → f.seq = x.rxExpected → f.crBuf = 7 → x.rxStream = [] → x.held = [] →
      f.payload.length = 248 → pktBad f.payload = false → field f.payload 16 1 = 0 → f.payload.drop 32 = List.replicate 216 0xFF →
      (parsePkt f.payload).pkt.vc = 5 → (parsePkt f.payload).pkt.opcode = 6 ∨ (parsePkt f.payload).pkt.opcode = 7 →
      1 ≤ sget 0 x.granted (creditKey (parsePkt f.payload)) →
      ∃ u : State, exec (.carrakFlit p f) s = .next u ∧ u.carrak.delivered = s.carrak.delivered ++ [(parsePkt f.payload).pkt] ∧
        (portGet u p).rxExpected = (x.rxExpected + 1) % 1024 ∧ (portGet u p).recvPkts = (x.recvPkts + 1) % 2 ^ 32 ∧
        (portGet u p).rxStream = [] ∧ (portGet u p).nakOut = false ∧ u.uc = s.uc) ∧
    (∀ f, x.st = .active → f.crcOk = true → f.ftype = 0 → f.seq ≠ x.rxExpected → f.crBuf = 7 → x.held = [] → x.nakOut = false →
      ∃ u : State, exec (.carrakFlit p f) s = .next u ∧ u.carrak.out = s.carrak.out ++ [.nak p x.rxExpected] ∧
        (portGet u p).rxExpected = x.rxExpected ∧ (portGet u p).nakOut = true ∧ (portGet u p).rxStream = x.rxStream) ∧
    (∀ f, x.st = .active → f.crcOk = false → ∃ u : State, exec (.carrakFlit p f) s = .next u ∧ errs u 2 ∧
      (portGet u p).rxExpected = x.rxExpected ∧ (portGet u p).rxStream = x.rxStream ∧
      (f.ftype = 2 → u.carrak.out = s.carrak.out) ∧
      (f.ftype ≠ 2 → x.nakOut = false → u.carrak.out = s.carrak.out ++ [.nak p x.rxExpected])) ∧
    (∀ f, x.st = .active → f.crcOk = true → 3 ≤ f.ftype → ∃ u : State, exec (.carrakFlit p f) s = .next u ∧ (portGet u p).st = .disabled ∧
      (portGet u p).reason = 0xB) ∧
    (∀ f, x.st ≠ .active → exec (.carrakFlit p f) s = .next s) ∧
    (∀ q, x.st = .active → (if x.nakSeq = q then x.nakCount + 1 else 1) < 8 → s.carrak.craze = none → ∃ u,
      exec (.nak p q) s = .next u ∧
      u.carrak.out = s.carrak.out ++ (x.replay.dropWhile fun e => e.1 != q).map (fun e => .data p e.1 e.2) ∧ errs u 3 ∧
      (portGet u p).st = .active ∧ (portGet u p).replay = x.replay) ∧
    (∀ q, x.st = .active → x.nakSeq = q → 7 ≤ x.nakCount → ∃ u : State, exec (.nak p q) s = .next u ∧ (portGet u p).st = .retrain ∧
      (portGet u p).reason = 7 ∧ errs u 4 ∧ (portGet u p).replay = x.replay ∧ u.carrak.out = s.carrak.out) ∧
    (∀ q, x.st ≠ .active → exec (.nak p q) s = .next s) ∧
    (x.st = .active → x.nakOut = true → ∃ u : State, exec (.nakRepeat p) s = .next u ∧
      u.carrak.out = s.carrak.out ++ [.nak p x.rxExpected] ∧ portGet u p = x) ∧
    (x.st ≠ .active ∨ x.nakOut = false → exec (.nakRepeat p) s = .next s)

/-- R342, R354 to R356, R368, R375, R376: PORT_TRAINED leads from TRAINING to HELLO and from RETRAIN back to ACTIVE, and with fewer
than four lanes does not; a training that failed, a HELLO not completed in time and a retrain past its limit lead to DOWN, and a DOWN port trains again.
A HELLO of this device's own serial or of another version disables the port; one that echoes this device's serial completes the
exchange. Loss of FEC lock retrains. The steward alone narrows, widens and retrains. LINK_CTL enables a DOWN or DISABLED port and
disables one in any state. -/
def Obligations.PortsComeUp : Prop :=
  ∀ (p : Nat) (s : State), p < 24 →
    let x := portGet s p
    let becomes := fun (i : Instr) (y : Port) => ∃ u : State, exec i s = .next u ∧ portGet u p = y ∧ u.uc = s.uc ∧ u.cores = s.cores
    let ends := fun (i : Instr) (st : PortState) (r : Nat) => ∃ u : State, exec i s = .next u ∧ (portGet u p).st = st ∧
      (portGet u p).reason = r
    let retrains := fun (i : Instr) => ∃ u : State, exec i s = .next u ∧ (portGet u p).st = .retrain ∧ (portGet u p).replay = x.replay ∧
      sget 0 (portGet u p).counters 4 = min (sget 0 x.counters 4 + 1) (2 ^ 64 - 1) ∧ u.carrak.out = s.carrak.out
    let ready := portGone s p = false ∧ portDark s p = false
    (∀ n, x.st = .training → 4 ≤ n → ∃ u : State, exec (.portTrained p n) s = .next u ∧ (portGet u p).st = .hello ∧
      (portGet u p).lanes = (if 8 ≤ n then 8 else 4) ∧ (portGet u p).helloRecv = none ∧
      (portGet u p).dimRank = num s 0x2806 (p + 1) 0) ∧
    (∀ n, x.st = .training → n < 4 → becomes (.portTrained p n) { x with reason := 0xA }) ∧
    (∀ n, x.st = .retrain → 4 ≤ n → x.held = [] → becomes (.portTrained p n)
      { x with st := .active, lanes := if 8 ≤ n then 8 else 4, usable := if 8 ≤ n then 8 else 4 }) ∧
    (x.st = .training → x.reason = 0xA → ends (.portTrainFail p) .down 0xA) ∧
    (x.st = .training → x.reason ≠ 0xA → ∃ u : State, exec (.portTrainFail p) s = .next u ∧ (portGet u p).st = .down ∧
      ((portGet u p).reason = 1 ∨ (portGet u p).reason = 2)) ∧
    (x.st = .down → ready → becomes (.portDownRetry p) { x with st := .training, peer := none, usable := 8 }) ∧
    (x.st ≠ .down → exec (.portDownRetry p) s = .next s) ∧
    (x.st = .active → retrains (.fecLockLoss p)) ∧
    (x.st ≠ .active → exec (.fecLockLoss p) s = .next s) ∧
    (x.st = .retrain → ends (.portRetrainLimit p) .down 6) ∧
    (x.st ≠ .retrain → exec (.portRetrainLimit p) s = .next s) ∧
    (∀ h, x.st = .hello → h.serial = s.part.serial → ends (.hello p h) .disabled 4) ∧
    (∀ h, x.st = .hello → h.serial ≠ s.part.serial → h.version ≠ 1 → ends (.hello p h) .disabled 5) ∧
    (∀ h, x.st = .hello → h.serial ≠ s.part.serial → h.version = 1 →
      (h.echoValid = false ∨ h.peerSerial ≠ s.part.serial ∨ x.helloSentEcho = false →
        becomes (.hello p h) { x with helloRecv := some h }) ∧
      (h.echoValid = true → h.peerSerial = s.part.serial → x.helloSentEcho = true → ∃ u : State, exec (.hello p h) s = .next u ∧
        (portGet u p).st = .active ∧ (portGet u p).reason = 0 ∧
        (portGet u p).peer = some ⟨h.serial, h.port, h.deviceId, h.idState, h.dimRank, h.dateline⟩ ∧
        (portGet u p).steward = (if s.carrak.idState = .held ∧ h.idState = 2 then decide (s.carrak.deviceId < h.deviceId)
          else decide (s.part.serial < h.serial)))) ∧
    (∀ h, x.st = .active → (∀ q, x.peer = some q → q.serial ≠ h.serial) → ends (.hello p h) .disabled 0xB) ∧
    (x.st = .hello → x.helloRecv = none → ∃ u : State, exec (.helloSend p) s = .next u ∧
      u.carrak.out = s.carrak.out ++ [.hello p (ownHello s p)] ∧ portGet u p = x ∧ (ownHello s p).echoValid = false) ∧
    (x.st ≠ .hello → exec (.helloSend p) s = .next s) ∧
    (x.st = .hello → ends (.helloTimeout p) .down 3) ∧
    (x.st ≠ .hello → exec (.helloTimeout p) s = .next s) ∧
    (x.st = .active → x.steward = true → num s 0x6805 2 0 ≠ 0 → x.lanes = 8 → becomes (.portIdleHalf p) { x with lanes := 4 }) ∧
    (x.steward = false ∨ num s 0x6805 2 0 = 0 → exec (.portIdleHalf p) s = .next s) ∧
    (x.st = .active → x.steward = true → x.lanes = 4 → x.usable = 8 → becomes (.portWiden p) { x with lanes := 8 }) ∧
    (x.steward = false ∨ x.usable ≠ 8 → exec (.portWiden p) s = .next s) ∧
    (x.st = .active → x.steward = true → retrains (.fecErrorRetrain p)) ∧
    (x.steward = false → exec (.fecErrorRetrain p) s = .next s) ∧
    (x.st = .down ∨ x.st = .disabled → ready → ∃ u : State, exec (.portEnable p) s = .next u ∧ u.dict.result = (0, []) ∧
      portGet u p = { x with st := .training, peer := none, usable := 8 }) ∧
    (x.st ≠ .down → x.st ≠ .disabled → ∃ u : State, exec (.portEnable p) s = .next u ∧ u.dict.result = (0, []) ∧ onlyResult s u) ∧
    (x.st ≠ .disabled → ends (.portDisable p) .disabled 9) ∧
    (x.st = .active → x.steward = true → retrains (.portRetrain p)) ∧
    (x.st ≠ .active ∨ x.steward = false → ∃ u : State, exec (.portRetrain p) s = .next u ∧ u.dict.result = (0, []) ∧ onlyResult s u) ∧
    (∃ u : State, exec (.portCounterClear p) s = .next u ∧ u.dict.result = (0, []) ∧ portGet u p = { x with counters := [] })

/-- R277, R357, R359 to R363, R365: a claim names DEVICE_ID_CFG, or under AUTO the lowest ID that no LSA shows taken; it is held when its 10 ms pass
without an LSA of higher precedence; a claim that loses is given up under AUTO, to be made again, and is in CONFLICT under ADMIN; a
release gives the ID up. A newer LSA is kept, an older one changes nothing; this device's LSA goes out each second; one that is not
refreshed is dropped; the routes are recomputed where the LSAs have changed, and counted. A loss notice is taken once. UNREACH
completes its transaction with REMOTE_LOST. LINK_RECOVER drops the packets that the peer received and sends the rest again. -/
def Obligations.DeviceIdsAndRoutes : Prop :=
  (∀ (mode id : Nat) (s : State), mode < 2 → id < 256 →
    let taken := fun (i : Nat) => ∃ b ∈ s.carrak.lsas, b.serial ≠ s.part.serial ∧ (b.idState = 1 ∨ b.idState = 2) ∧ b.deviceId = i
    (s.carrak.idState = .none ∨ s.carrak.idState = .conflict → ∃ u : State, exec (.idClaim mode id) s = .next u ∧ u.dict.result = (0, []) ∧
      u.carrak.idState = .claiming ∧ (mode = 0 ∨ ¬ taken id → u.carrak.deviceId = id) ∧
      (∀ i, mode = 1 → taken id → i < 256 → ¬ taken i → (∀ j, j < i → taken j) → u.carrak.deviceId = i)) ∧
    (s.carrak.idState = .held → ∃ u : State, exec (.idClaim mode id) s = .next u ∧ u.carrak = s.carrak ∧ num u 0x2801 1 1 = mode)) ∧
  (∀ (s : State),
    (s.carrak.idState = .claiming → ∃ u : State, exec .idRelease s = .next u ∧ u.carrak.idState = .none) ∧
    (s.carrak.idState = .held → ∃ v : State, exec .idRelease s = .next (finish 0 [] (idGone v)) ∧ v.carrak.idState = .none ∧ v.cores = s.cores) ∧
    (s.carrak.idState = .none → ∃ u : State, exec .idRelease s = .next u ∧ onlyResult s u) ∧
    (s.carrak.idState = .claiming → (∀ b ∈ s.carrak.lsas, clashes s b = false) → ∃ u : State, exec .claimTimer s = .next u ∧
      u.carrak.idState = .held ∧ u.carrak.deviceId = s.carrak.deviceId ∧ u.carrak.unreachable = []) ∧
    (s.carrak.idState ≠ .claiming → exec .claimTimer s = .next s) ∧
    (s.carrak.reclaim = true → s.carrak.idState = .none → ∃ u : State, exec .autoReclaim s = .next u ∧ u.carrak.idState = .claiming ∧
      u.carrak.reclaim = false) ∧
    (s.carrak.reclaim = false → exec .autoReclaim s = .next s) ∧
    (∃ u : State, exec .lsaPeriodic s = .next u ∧ u.carrak.lsaSeq = (s.carrak.lsaSeq + 1) % 65536 ∧
      ∃ b ∈ u.carrak.lsas, b.serial = s.part.serial ∧ b.deviceId = s.carrak.deviceId) ∧
    (s.carrak.stale = false → exec .routeRecompute s = .next s) ∧
    (s.carrak.stale = true → s.carrak.routes = [] → (∀ p, p < 24 → (portGet s p).held = []) → ∃ u : State, exec .routeRecompute s = .next u ∧
      u.carrak.stale = false ∧ countsOne s u 0x280B 3 32 ∧
      ∀ d, (d ∉ heldIds s → sfind u.carrak.routes d = none) ∧
        (∀ b, s.carrak.lsas.find? (fun b => b.idState == 2 && b.deviceId == d && b.serial != s.part.serial) = some b →
          sfind u.carrak.routes d = some (routeOf s b.serial)))) ∧
  (∀ (p : Nat) (b : LsaBody) (s : State), p < 24 → b.serial ≠ s.part.serial →
    let older := s.carrak.lsas.find? fun x => x.serial == b.serial
    (∀ o, older = some o → b.seq ≤ o.seq → exec (.lsa p b) s = .next s) ∧
    (older = none → clashes s b = false → ∃ u : State, exec (.lsa p b) s = .next u ∧ b ∈ u.carrak.lsas ∧ u.carrak.stale = true ∧
      u.carrak.idState = s.carrak.idState ∧ u.uc = s.uc) ∧
    (older = none → clashes s b = true → s.carrak.idState = .claiming →
      (beats s b = false → ∃ u : State, exec (.lsa p b) s = .next u ∧ u.carrak.idState = .claiming ∧ countsOne s u 0x2801 5 32) ∧
      (beats s b = true → num s 0x2801 1 1 ≠ 0 → ∃ u : State, exec (.lsa p b) s = .next u ∧ u.carrak.idState = .none ∧ u.carrak.reclaim = true ∧
        countsOne s u 0x2801 5 32) ∧
      (beats s b = true → num s 0x2801 1 1 = 0 → ∃ u : State, exec (.lsa p b) s = .next u ∧ u.carrak.idState = .conflict ∧
        u.carrak.reclaim = false ∧ countsOne s u 0x2801 5 32))) ∧
  (∀ (n : Nat) (s : State), n ≠ s.part.serial → (∃ b ∈ s.carrak.lsas, b.serial = n) → ∃ u : State, exec (.lsaAgeOut n) s = .next u ∧
    u.carrak.lsas = s.carrak.lsas.filter (fun b => b.serial != n) ∧ u.carrak.stale = true ∧ u.uc = s.uc) ∧
  (∀ (p n b h : Nat) (s : State), p < 24 → b < 4 →
    (n = s.part.serial ∨ sfind s.carrak.lossSeen (4 * n + b) = some h → exec (.lossNotice p n b h) s = .next s) ∧
    (n ≠ s.part.serial → sfind s.carrak.lossSeen (4 * n + b) ≠ some h →
      (h ≠ 3 → ∃ u : State, exec (.lossNotice p n b h) s = .next u ∧ sfind u.carrak.lossSeen (4 * n + b) = some h ∧ u.uc = s.uc) ∧
      (∀ x, h = 3 → s.carrak.lsas.find? (fun x => x.serial == n && x.idState == 2) = some x →
        ∃ v : State, exec (.lossNotice p n b h) s = .next (remoteHomeLost x.deviceId b v) ∧ v.uc = s.uc ∧
          sfind v.carrak.lossSeen (4 * n + b) = some 3))) ∧
  (∀ (d t : Nat) (o : OnceTxn) (s : State), s.uc.once = [o] → o.id = t → devOf o.addr = d → s.uc.slices = [] →
    ∃ u : State, exec (.unreach d t) s = .next u ∧ u.uc.once = [] ∧ countsOne s u 0x2504 2 32 ∧
      u.uc.replies = s.uc.replies ++ [⟨o.forWhom, o.txn, o.addr, [], false, 10⟩]) ∧
  (∀ (p n : Nat) (s : State), p < 24 →
    ((portGet s p).st = .active ∨ (portGet s p).st = .retrain → exec (.carrakLinkRecover p n) s = .next s) ∧
    ((portGet s p).st ≠ .active → (portGet s p).st ≠ .retrain →
      ∃ v : State, exec (.carrakLinkRecover p n) s = .next (portCount p 6
          ((((portGet s p).unacked.filter fun e => decide (2 ^ 31 ≤ (n + 2 ^ 32 - e.1) % 2 ^ 32)).map (·.2)).foldl
            (fun s k => linkSend none k s) v)) ∧
        (portGet v p).unacked = [] ∧ (portGet v p).replay = [] ∧ v.uc = s.uc))

/-- R369, R370, R372 to R374, R376: a steward request that would change the role is accepted and moves it, one that would not is denied; two that
meet are both withdrawn, counted, and the lower end is steward; the answer to this end's request moves the role or leaves it;
a request that is not answered is withdrawn; during the back-off a command answers BACKOFF (3), otherwise it asks the peer and is in progress. One Craze run at a time: RUNNING
(4), NO_TARGET (5) and LOCKED (6) refuse a start; a run ends on command and with its time; a valid grant record unlocks it
until it expires, and the grant's end stops a run that needed it. -/
def Obligations.StewardsAndCraze : Prop :=
  (∀ (p : Nat) (s : State), p < 24 →
    let x := portGet s p
    (∀ give n q, x.st = .active → x.peer = some q →
      (x.stewardReq = none → ∃ u : State, exec (.stewardReq p give n) s = .next u ∧ (portGet u p).steward = give ∧
        (portGet u p).stewardReq = none) ∧
      (x.stewardReq.isSome = true → ∃ u : State, exec (.stewardReq p give n) s = .next u ∧ (portGet u p).stewardReq = none ∧
        (portGet u p).backoff = true ∧ (portGet u p).steward = stewardHere s q ∧ countsOne s u 0x280C 3 32)) ∧
    (∀ give n, x.st ≠ .active → exec (.stewardReq p give n) s = .next s) ∧
    (∀ r yes, x.stewardReq = some r → ∃ u : State, exec (.stewardRsp p yes r.nonce) s = .next u ∧
      portGet u p = { x with stewardReq := none, steward := if yes = true then !r.give else x.steward }) ∧
    (∀ yes n, x.stewardReq = none ∨ (∃ r, x.stewardReq = some r ∧ r.nonce ≠ n) → exec (.stewardRsp p yes n) s = .next s) ∧
    (x.stewardReq.isSome = true → ∃ u : State, exec (.stewardTimeout p) s = .next u ∧ portGet u p = { x with stewardReq := none }) ∧
    (x.stewardReq = none → exec (.stewardTimeout p) s = .next s) ∧
    (∃ u : State, exec (.stewardBackoffEnd p) s = .next u ∧ portGet u p = { x with backoff := false }) ∧
    (∀ (i : Instr) (give : Bool), i = .stewardTake p ∧ give = false ∨ i = .stewardGive p ∧ give = true →
      (x.backoff = true → ∃ u : State, exec i s = .next u ∧ u.dict.result = (0x23, [3, 0]) ∧ onlyResult s u) ∧
      (x.backoff = false → ∃ u : State, ∃ r, exec i s = .next u ∧ u.dict.result = (2, []) ∧ (portGet u p).stewardReq = some r ∧ r.give = give ∧
        r.nonce = s.carrak.nonce % 65536 ∧ (portGet u p).steward = x.steward))) ∧
  (∀ (a : CrazeArgs) (s : State),
    let missing := (a.helda && !linkOk s a.index || !a.helda && decide (24 ≤ a.index)) = true
    let up := if a.helda then carries s a.index else (portGet s a.index).st == .active
    (s.carrak.craze.isSome = true → ∃ u : State, exec (.crazeStart a) s = .next u ∧ u.dict.result = (0x23, [4, 0]) ∧ onlyResult s u) ∧
    (s.carrak.craze = none → missing → ∃ u : State, exec (.crazeStart a) s = .next u ∧ u.dict.result = (0x23, [5, 0]) ∧ onlyResult s u) ∧
    (s.carrak.craze = none → ¬ missing → (s.askar.sec.lc = .deployed ∧ s.carrak.crazeGrant = none) ∨ s.askar.sec.lc = .decommissioned →
      ∃ u : State, exec (.crazeStart a) s = .next u ∧ u.dict.result = (0x23, [6, 0]) ∧ onlyResult s u) ∧
    (s.carrak.craze = none → ¬ missing → crazeLocked s = false → ∃ u : State, exec (.crazeStart a) s = .next u ∧ u.dict.result = (0, []) ∧
      u.carrak.craze = (if up = true then some ⟨a.helda, a.index, a.dir, a.kinds, a.rateLog2, a.seed, a.durationMs⟩ else none) ∧
      u.carrak.ports = s.carrak.ports)) ∧
  (∀ (s : State),
    (∃ u : State, exec .crazeStop s = .next u ∧ u.dict.result = (0, []) ∧ u.carrak = { s.carrak with craze := none }) ∧
    (∃ u : State, exec .crazeDurationEnd s = .next u ∧ u = { s with carrak := { s.carrak with craze := none } }) ∧
    (∀ r, ∃ u : State, exec (.crazeUnlock r) s = .next u ∧ u.carrak.craze = s.carrak.craze ∧
      match provCheck s r 4 0x6821 1 with
      | none => u.dict.result = (0x24, []) ∧ onlyResult s u
      | some b => u.dict.result = (0, []) ∧ u.carrak.crazeGrant = some (time s + 1000000000 * field r 56 4) ∧ u.carrak.crazeBytes = b) ∧
    (∀ g, s.carrak.crazeGrant = some g → ∃ u : State, exec .crazeGrantExpiry s = .next u ∧ u.carrak.crazeGrant = none ∧
      u.carrak.craze = (if s.askar.sec.lc = .deployed ∨ s.askar.sec.lc = .decommissioned then none else s.carrak.craze)) ∧
    (s.carrak.crazeGrant = none → exec .crazeGrantExpiry s = .next s))

/-- R51, R378 to R381, R387, R388, R397: functions. A Configuration Request answers Request Retry Status before HOST_UP and succeeds
from then on (VF Enable and the sizes of BAR2 are the registers that act; their numbers are the model's, notes/assumptions/11.md).
Unmasking a vector, and the return to D0, send what is pending; in D3hot a function decodes nothing. A function-level reset tears
its contexts down, drops its rings, mailboxes and sessions and leaves partitions, UC, HBM and Carrak Link as they are. VF_MAP answers
its first reason, or maps; a VF whose partition changes loses its sessions.

R377, R381, R397 to R399, R556: the device as requester. A completion answers the request of its tag with its data; one that fails, or
does not come in time, completes it with CONTAINED cause 7 and its kind, and is counted. While the link is down every
request completes with HOST_LINK_DOWN, CXL is not active and rings and contexts stay; the link comes up only with PERST_N deasserted
and its rail in range, CXL where both ends have it, and what was pending of interrupts is sent. -/
def Obligations.HostFunctions : Prop :=
  (
    (∀ (fn : Fn) (w : Bool) (reg v : Nat) (s : State), fnExists fn = true → s.host.linkUp = true →
      (readyCode s.power.ready < 6 → ∃ u : State, exec (.configRequest fn w reg v) s = .next u ∧
        u.host.out = s.host.out ++ [.completion fn 0 2 []] ∧ { u with host := { u.host with out := s.host.out } } = s) ∧
      (6 ≤ readyCode s.power.ready → ∃ u : State, exec (.configRequest fn w reg v) s = .next u ∧
        u.host.out.getLast? = some (.completion fn 0 0 []) ∧
        (w = false ∨ fn ≠ .pf → { u with host := { u.host with out := s.host.out } } = s) ∧
        (w = true → fn = .pf → (reg = 1 → u.host.vfEnable = (v % 2 == 1)) ∧
          (∀ n, reg = 2 → v = 2 ^ n → 30 ≤ n → n ≤ 36 → u.host.vfBar2Bytes = v) ∧
          (∀ n, reg = 3 → v = 2 ^ n → 30 ≤ n → n ≤ 39 → u.host.pfBar2Bytes = v)))) ∧
    (∀ (fn : Fn) (v : Nat) (s : State), vectorExists fn v = true →
      let e := msixGet s fn v
      let up := s.host.linkUp && !s.host.d3hot.contains (fnKey fn)
      (∃ u : State, exec (.msixUnmask fn v) s = .next u ∧ msixGet u fn v = { e with masked := false, pending := e.pending && !up } ∧
        u.host.out = (if (e.pending && up) = true then s.host.out ++ [.msix fn v] else s.host.out) ∧
        { u with host := { u.host with out := s.host.out, msix := s.host.msix } } = s) ∧
      (∃ u : State, exec (.powerStateChange fn true) s = .next u ∧ decodes u fn = false ∧ u.host.out = s.host.out ∧ u.cores = s.cores ∧
        u.work = s.work ∧ u.host.rings = s.host.rings ∧ msixGet u fn v = e) ∧
      (∃ u : State, exec (.powerStateChange fn false) s = .next u ∧ fnKey fn ∉ u.host.d3hot ∧ u.host.rings = s.host.rings ∧ u.work = s.work ∧
        (e.pending = true → e.masked = false → s.host.linkUp = true → (msixGet u fn v).pending = false ∧ .msix fn v ∈ u.host.out))) ∧
    (∀ (s : State),
      let torn := fun (u : State) (mine : Nat → Prop) =>
        (∀ c, mine c → sfind u.host.rings c = none ∧ ((ctxGet s c).st ≠ .none → (ctxGet s c).st ≠ .faulted →
          (ctxGet s c).faulting = false → (ctxGet u c).st = .stopping ∧ (ctxGet u c).fault.cause = 0xB ∧
            (ctxGet u c).fault.source = 7)) ∧
        u.work.parts = s.work.parts ∧ u.host.vfMap = s.host.vfMap ∧ u.uc = s.uc ∧ u.hbm = s.hbm ∧ u.carrak = s.carrak
      (∀ n, n < 64 → ∃ u : State, exec (.flrVf n) s = .next u ∧
        torn u (fun c => ∃ m, sfind s.host.vfMap n = some m ∧ m.part = ctxPart c) ∧
        (∀ v, v < 16 → (msixGet u (.vf n) v).pending = false) ∧ (∀ x ∈ u.dict.sessions, isVf x.ep ≠ some n) ∧
        mailboxGet u (8 + n) = {} ∧ (∀ c, (∀ m, sfind s.host.vfMap n = some m → m.part ≠ ctxPart c) → ctxGet u c = ctxGet s c)) ∧
      (∃ u : State, exec .flrPf s = .next u ∧ torn u (fun _ => True) ∧ u.host.vfEnable = false ∧
        (∀ v, v < 1024 → (msixGet u .pf v).pending = false) ∧ (∀ m, m < 8 → mailboxGet u m = {}) ∧
        ∀ x ∈ u.dict.sessions, (∀ n, n < 64 → isVf x.ep ≠ some n) ∧ ∀ m, x.ep ≠ .pf m)) ∧
    (∀ (n part base bytes : Nat) (s : State), n < 64 → part ≤ 64 →
      let now := sget {} s.host.vfMap n
      let reason :=
        if part < 64 && (partGet s part).st == .none then 1
        else if part < 64 && s.host.vfMap.any (fun e => e.1 != n && e.2.part == part) then 2
        else if now.part < 64 && s.host.rings.any (fun e => ctxPart e.1 == now.part && e.2.st != .disabled) then 3
        else if backedBytes < base + bytes || s.host.vfBar2Bytes < bytes then 4 else 0
      (reason ≠ 0 → ∃ u : State, exec (.vfMap n part base bytes) s = .next u ∧ u.dict.result = (0x23, [BitVec.ofNat 8 reason, 0]) ∧
        onlyResult s u) ∧
      (reason = 0 → ∃ u : State, exec (.vfMap n part base bytes) s = .next u ∧ u.dict.result = (0, []) ∧
        sfind u.host.vfMap n = (if part < 64 then some ⟨part, base, bytes⟩ else none) ∧
        (∀ m, m ≠ n → sfind u.host.vfMap m = sfind s.host.vfMap m) ∧ u.work = s.work ∧ u.host.rings = s.host.rings ∧
        (part ≠ now.part → ∀ x ∈ u.dict.sessions, isVf x.ep ≠ some n)))) ∧
  (
    (∀ (tag status : Nat) (d : List Byte) (r : HostReq) (a : Agent) (t g : Nat) (s : State), hostReq s tag = some r →
      r.forWhom = some (a, t, g) →
      let answers := fun (i : Instr) (data : List Byte) (p : Bool) (st : Nat) => ∃ u : State, exec i s = .next u ∧
        u.uc.replies = s.uc.replies ++ [⟨a, t, g, data, p, st⟩] ∧ u.host.reqs = s.host.reqs.erase r ∧ u.cores = s.cores ∧
        (st ≠ 0 → countsOne s u 0x2906 (if st = 7 + 65536 * 3 then 3 else 4) 32)
      (status = 0 → answers (.hostCompletion tag status d false) d false 0) ∧
      (status = 0 → answers (.hostCompletion tag status d true) d true 0) ∧
      (∀ p, status ≠ 0 → answers (.hostCompletion tag status d p) [] false (7 + 65536 * (if status = 1 then 1 else 2))) ∧
      (answers (.hostCplTimeout tag) [] false (7 + 65536 * 3) ∧
        ∃ u : State, exec (.hostCplTimeout tag) s = .next u ∧ u.host.out = s.host.out ++ [.aer r.fn .completionTimeout])) ∧
    (∀ (tag status : Nat) (d : List Byte) (p : Bool) (s : State), hostReq s tag = none →
      exec (.hostCompletion tag status d p) s = .next s ∧ exec (.hostCplTimeout tag) s = .next s) ∧
    (∀ (s : State),
      (s.host.linkUp = false → exec .hostLinkDown s = .next s) ∧
      (s.host.linkUp = true → ∃ v : State, exec .hostLinkDown s = .next (homesGoOn v) ∧ v.host.linkUp = false ∧ v.host.cxlActive = false ∧
        v.host.reqs = [] ∧ v.host.rings = s.host.rings ∧ v.work = s.work ∧ v.cores = s.cores ∧ countsOne s v 0x2906 2 32 ∧
        (∀ r ∈ s.host.reqs, ∀ a t g, r.forWhom = some (a, t, g) → (⟨a, t, g, [], false, 8⟩ : UcReply) ∈ v.uc.replies) ∧
        ∀ k l x, findMshr (sliceGet s k).c l = some x → isHostAddr (lineAddr l) = true →
          ∀ w ∈ x.waiters, (⟨w.dest, w.txn, lineAddr l + 64 * w.sector, [], false, 8⟩ : UcReply) ∈ v.uc.replies) ∧
      (∀ gen width flit cxl, 1 ≤ gen → gen ≤ 6 → 1 ≤ width → width ≤ 16 → (gen = 6 → flit = true) →
        let ready := s.host.linkUp = false ∧ s.host.perstHigh = true ∧ railGet s 15 = .inRange ∧ latched s 174 = false
        (¬ ready → exec (.hostLinkUp gen width flit cxl) s = .next s) ∧
        (ready → ∃ u : State, exec (.hostLinkUp gen width flit cxl) s = .next u ∧ u.host.linkUp = true ∧ u.host.gen = gen ∧
          u.host.width = width ∧ u.host.flit = flit ∧ u.host.cxlActive = (cxl && s.host.cxlLatched) ∧ u.host.rings = s.host.rings ∧
          u.work = s.work ∧
          ∀ fn v, vectorExists fn v = true → (msixGet s fn v).pending = true → (msixGet s fn v).masked = false →
            fnKey fn ∉ s.host.d3hot → (msixGet u fn v).pending = false ∧ .msix fn v ∈ u.host.out))))

/-- R382 to R386, R397, R404: BAR0. A context's doorbell page, a mailbox and the MSI-X table stand at their offsets, for the PF
and for a VF, whose page k is that of slot k of its partition; an access of another size or alignment, a read of what is
write-only, a write of what is read-only and a Reserved offset read 0 and are counted. BAR2: reads are performed
at the line's home and answered sector by sector, writes are made at the home copy, an AtomicOp answers the old value; an access
beyond what the function reaches is Unsupported Request and changes no memory. -/
def Obligations.HostWindows : Prop :=
  (∀ (s : State) (c o size : Nat), c < 1024 → decodes s .pf = true → size = 4 ∨ size = 8 →
    let r := ringGet s c
    let status := (if r.st = .enabled then 1 else if r.st = .halted then 2 else 0) + (if cplFull r = true then 4 else 0) +
      65536 * (r.cmdHead % 4096)
    let ignores := fun (i : Instr) (d : List HostOut) => ∃ u : State, exec i s = .next u ∧ countsOne s u 0x2907 6 32 ∧
      u.host.out = s.host.out ++ d ∧ u.host.rings = s.host.rings ∧ u.work = s.work ∧ u.dict.mailboxes = s.dict.mailboxes ∧ u.uc = s.uc
    (∃ u : State, exec (.bar0Access .pf (4096 * c + 16) size none) s = .next u ∧
      u.host.out = s.host.out ++ [.completion .pf 0 0 (leBytes size status)] ∧
      { u with host := { u.host with out := s.host.out } } = s) ∧
    (∀ v, exec (.bar0Access .pf (4096 * c) size (some v)) s = exec (.cmdTail .pf c v) s) ∧
    (∀ v, exec (.bar0Access .pf (4096 * c + 8) size (some v)) s = exec (.cplHead .pf c v) s) ∧
    (∀ n k v m, n < 64 → k < 16 → decodes s (.vf n) = true → sfind s.host.vfMap n = some m → m.part < 64 →
      exec (.bar0Access (.vf n) (4096 * k) size (some v)) s = exec (.cmdTail (.vf n) (16 * m.part + k) v) s ∧
      exec (.bar0Access (.vf n) (4096 * k + 8) size (some v)) s = exec (.cplHead (.vf n) (16 * m.part + k) v) s) ∧
    (∀ m v, m < 8 → exec (.bar0Access .pf (0x400F00 + 4096 * m) 4 (some v)) s = exec (.mbxDoorbell (.pf m) true) s) ∧
    (∀ m v, m < 8 → o % size = 0 → o + size ≤ 0x410 →
      ∃ u : State, exec (.bar0Access .pf (0x400000 + 4096 * m + o) size (some v)) s = .next u ∧
      memReadN (mailboxGet u m).req o size = leBytes size v ∧
      (∀ a, a < o ∨ o + size ≤ a → memRead (mailboxGet u m).req a = memRead (mailboxGet s m).req a) ∧
      (mailboxGet u m).rsp = (mailboxGet s m).rsp ∧ (mailboxGet u m).reqPending = (mailboxGet s m).reqPending ∧
      u.dict.nums = s.dict.nums ∧ u.host = s.host) ∧
    (∀ v d, v < 1024 → d < 2 ^ 64 → ∃ u : State, exec (.bar0Access .pf (0x410000 + 16 * v) 8 (some d)) s = .next u ∧
      (msixGet u .pf v).addr = d ∧ (msixGet u .pf v).data = (msixGet s .pf v).data % 2 ^ 32 ∧
      (msixGet u .pf v).masked = (msixGet s .pf v).masked) ∧
    (∀ off, off + size ≤ 0x800000 → (off = 4096 * c ∨ off = 4096 * c + 8 ∨ off % size ≠ 0 ∨ (0x408000 ≤ off ∧ off < 0x410000)) →
      ignores (.bar0Access .pf off size none) [.completion .pf 0 0 (List.replicate size 0)]) ∧
    (∀ off v, off + size ≤ 0x800000 → (off = 4096 * c + 16 ∨ off % size ≠ 0 ∨ (0x408000 ≤ off ∧ off < 0x410000)) →
      ignores (.bar0Access .pf off size (some v)) [])) ∧
  (∀ (fn : Fn) (off size : Nat) (d : Option Nat) (s : State), fnExists fn = true → 1 ≤ size → off + size ≤ bar0Bytes fn →
    decodes s fn = false → exec (.bar0Access fn off size d) s = .next s) ∧
  (∀ (fn : Fn) (off len : Nat) (s : State), fnExists fn = true → 1 ≤ len → bar2Up s fn = true →
    let a := bar2Addr s fn off len
    let g := globalOf s a.1
    let k := homeSlice g (nearOf s g)
    let i := g % 1024 / 64
    let req := fun (tag : Nat) (w : Option (List (Bool × Byte))) =>
      (⟨.host, tag, g / 64 * 64, nearOf s g, 0, false, 0, 0xFFFF, 0xFF, w, false⟩ : UcReq)
    let same := fun (u : State) => u.uc = s.uc ∧ u.hbm = s.hbm ∧ u.work = s.work
    (a.2 = false →
      (∀ tag, len ≤ 4096 → ∃ u : State, exec (.bar2Read fn off len tag) s = .next u ∧ same u ∧ countsOne s u 0x3000 3 64 ∧
        u.host.out.getLast? = some (.completion fn tag 1 [])) ∧
      (∀ d p, d.length = len → len ≤ 512 → ∃ u : State, exec (.bar2Write fn off d p) s = .next u ∧ same u ∧ countsOne s u 0x3000 3 64 ∧
        u.host.out.getLast? = some (.aer fn .unsupportedRequest)) ∧
      (∀ op x y tag, op ≤ 2 → len = 4 ∨ len = 8 → ∃ u : State, exec (.bar2Atomic fn off op len x y tag) s = .next u ∧ same u ∧
        countsOne s u 0x3000 3 64 ∧ u.host.out.getLast? = some (.completion fn tag 1 []))) ∧
    (∀ j w, a.2 = true → s.uc.sent = [] → findWay (sliceGet s k).c (lineOf g) = some (j, w) → w.st = .home →
      (∀ tag, plainHome s k (req tag none) → w.svalid.getLsbD i = true → g % 64 + len ≤ 64 →
        ∃ u : State, exec (.bar2Read fn off len tag) s = .next u ∧ u.hbm = s.hbm ∧ u.work = s.work ∧
          u.uc.replies = s.uc.replies ++ [⟨.host, tag, g / 64 * 64, sectorBytes w.data i, w.spoison.getLsbD i, 0⟩]) ∧
      (∀ d, d.length = 64 → len = 64 → g % 64 = 0 → plainHome s k (req 0 (some (d.map fun b => (true, b)))) →
        findMshr (sliceGet s k).c (lineOf g) = none →
        ∃ u : State, ∃ y, exec (.bar2Write fn off d false) s = .next u ∧ findWay (sliceGet u k).c (lineOf g) = some (j, y) ∧
          (∀ o, memRead y.data o = if o / 64 = i then d.getD (o % 64) 0 else memRead w.data o) ∧
          y.sdirty = w.sdirty ||| bit16 i ∧ u.hbm = s.hbm) ∧
      (∀ op x y tag, op ≤ 2 → len = 4 ∨ len = 8 → g % len = 0 → plainHome s k (req tag none) → homesIdle s → s.uc.once = [] →
        w.svalid = 0xFFFF → w.spoison = 0 → w.dir = {} → dirOf s g (nearOf s g) = none → x < 256 ^ len → y < 256 ^ len →
        let old := leNat (memReadN w.data (g % 1024) len)
        ∃ u : State, ∃ z, exec (.bar2Atomic fn off op len x y tag) s = .next u ∧
          u.uc.replies = s.uc.replies ++ [⟨.host, tag, g / 64 * 64, leBytes 8 old, false, 0⟩] ∧
          findWay (sliceGet u k).c (lineOf g) = some (j, z) ∧
          leNat (memReadN z.data (g % 1024) len) =
            (if op = 0 then (old + x) % 256 ^ len else if op = 1 then x else if old = y then x else old) ∧
          ∀ o, o < g % 1024 ∨ g % 1024 + len ≤ o → memRead z.data o = memRead w.data o)) ∧
    (∀ op x y tag, a.2 = true → op ≤ 2 → len = 4 ∨ len = 8 → g % len ≠ 0 → ∃ u : State, exec (.bar2Atomic fn off op len x y tag) s = .next u ∧
      u.host.out = s.host.out ++ [.completion fn tag 1 []] ∧ same u)) ∧
  (∀ (fn : Fn) (off : Nat) (s : State), fnExists fn = true → bar2Up s fn = false →
    (∀ len tag, 1 ≤ len → len ≤ 4096 → exec (.bar2Read fn off len tag) s = .next s) ∧
    (∀ d p, 1 ≤ d.length → d.length ≤ 512 → exec (.bar2Write fn off d p) s = .next s) ∧
    (∀ op x y tag, op ≤ 2 → exec (.bar2Atomic fn off op 8 x y tag) s = .next s))

/-- R384, R385, R389, R390, R393, R394, R397, R404, R466, R480: rings. A valid CMD_TAIL announces entries and makes an IDLE context with work
READY; every other one is ignored and counted by its cause. A valid CPL_HEAD frees entries. Enable answers its first reason or sets
the ring up, and returns a FAULTED context to IDLE; disable stops the ring and completes what has not started, and
every WAIT, ABORTED. A running context's ring fetches its next entry in order. The oldest completion that waits is written where the
ring has room, with its phase, and its interrupt raised at once or left to the coalescing timer. -/
def Obligations.Rings : Prop :=
  (∀ (fn : Fn) (ctx x : Nat) (s : State), ctx < 1024 → decodes s fn = true →
    let r := ringGet s ctx
    let n := (2 ^ r.cmdLog2 : Int)
    let m := (2 ^ r.cplLog2 : Int)
    let h := x % 4096
    let served := doorbellsServed s = true
    let owner := pageOf s fn ctx = true
    let tailOk := ((h : Int) - r.cmdTail) % n ≤ ((r.cmdHead : Int) - 1 - r.cmdTail) % n
    let headOk := ((h : Int) - r.cplHead) % m ≤ ((r.cplTail : Int) - r.cplHead) % m
    let ignores := fun (i : Instr) (n : Nat) => ∃ u : State, exec i s = .next u ∧ countsOne s u 0x2907 n 32 ∧ u.host = s.host ∧ u.work = s.work
    (served → owner → r.st = .enabled → tailOk → notOwned s fn ctx = false →
      ∃ v, ringGet v ctx = { r with cmdTail := h % 2 ^ r.cmdLog2 } ∧ (∀ c, c ≠ ctx → ringGet v c = ringGet s c) ∧
        { v with host := s.host } = s ∧
        exec (.cmdTail fn ctx x) s = .next (if (ctxGet s ctx).st = .idle ∧ ctxWork v ctx = true then becomeReady ctx v else v)) ∧
    (¬ served → ignores (.cmdTail fn ctx x) 1 ∧ ignores (.cplHead fn ctx x) 1) ∧
    (served → (¬ owner ∨ r.st ≠ .enabled) → ignores (.cmdTail fn ctx x) 2) ∧
    (served → owner → r.st = .enabled → ¬ tailOk → ignores (.cmdTail fn ctx x) 3) ∧
    (served → owner → r.st = .enabled → tailOk → notOwned s fn ctx = true → ignores (.cmdTail fn ctx x) 4) ∧
    (served → owner → (r.st = .enabled ∨ r.done ≠ []) → notOwned s fn ctx = false → headOk →
      ∃ v : State, exec (.cplHead fn ctx x) s = .next (ringGo ctx v) ∧ ringGet v ctx = { r with cplHead := h % 2 ^ r.cplLog2 } ∧
        { v with host := s.host } = s) ∧
    (served → (¬ owner ∨ (r.st ≠ .enabled ∧ r.done = [])) → ignores (.cplHead fn ctx x) 2) ∧
    (served → owner → r.st = .enabled → notOwned s fn ctx = true → ignores (.cplHead fn ctx x) 4) ∧
    (served → owner → r.st = .enabled → notOwned s fn ctx = false → ¬ headOk → ignores (.cplHead fn ctx x) 5)) ∧
  (∀ (a : RingArgs) (s : State), a.ctx < 1024 →
    let reason := ringReason s a
    (∀ q, reason = some q → ∃ u : State, exec (.ringEnable a) s = .next u ∧ u.dict.result = (0x23, leBytes 2 q) ∧ onlyResult s u) ∧
    (a.cmdBase % 4096 ≠ 0 ∨ a.cplBase % 4096 ≠ 0 ∨ backedBytes < a.cmdBase + 64 * 2 ^ a.cmdLog2 ∨ isHostAddr a.cplBase = false →
      reason = some 1) ∧
    (ctxExists s a.ctx = false → reason = some 1 ∨ reason = some 2) ∧
    (isReady s = false → ∃ q, reason = some q ∧ q ≤ 3) ∧
    ((ringGet s a.ctx).st ≠ .disabled → ∃ q, reason = some q ∧ q ≤ 4) ∧
    (reason = none → ∃ u : State, exec (.ringEnable a) s = .next u ∧ u.dict.result = (0, []) ∧
      ringGet u a.ctx = { st := .enabled, fn := a.fn, cmdBase := a.cmdBase, cmdLog2 := a.cmdLog2, cplBase := a.cplBase,
                          cplLog2 := a.cplLog2, vector := a.vector, coalesceNs := a.coalesceNs } ∧
      ctxGet u a.ctx = (if (ctxGet s a.ctx).st = .faulted then { ctxGet s a.ctx with st := .idle, faulting := false }
        else ctxGet s a.ctx) ∧ (∀ c, c ≠ a.ctx → ringGet u c = ringGet s c ∧ ctxGet u c = ctxGet s c) ∧ u.cores = s.cores)) ∧
  (∀ (ctx : Nat) (s : State), ctx < 1024 →
    let r := ringGet s ctx
    let waits := fun (e : RingCmd) => field e.bytes 0 1 = 4
    (ctxExists s ctx = false → ∃ u : State, exec (.ringDisable ctx) s = .next u ∧ u.dict.result = (0x23, [2, 0]) ∧ onlyResult s u) ∧
    (ctxExists s ctx = true → isReady s = false → ∃ u : State, exec (.ringDisable ctx) s = .next u ∧ u.dict.result = (0x23, [3, 0]) ∧
      onlyResult s u) ∧
    (ctxExists s ctx = true → isReady s = true → r.st = .disabled → ∃ u : State, exec (.ringDisable ctx) s = .next u ∧
      u.dict.result = (0, []) ∧ onlyResult s u) ∧
    (ctxExists s ctx = true → isReady s = true → r.st ≠ .disabled → ∃ v : State, exec (.ringDisable ctx) s = .next (ringGo ctx v) ∧
      (ringGet v ctx).st = .disabled ∧ (ringGet v ctx).cmdHead = r.cmdTail ∧
      (∀ e, e ∈ (ringGet v ctx).fetched ↔ e ∈ r.fetched ∧ e.started = true ∧ ¬ waits e) ∧
      (∀ e ∈ r.fetched, (e.started = false ∨ waits e) → ∃ d ∈ (ringGet v ctx).done, d.status = 3 ∧ d.tag = field e.bytes 2 2 ∧
        (waits e → d.detail = e.detail)) ∧
      (ctxGet v ctx).st = (if (ctxGet s ctx).st = .waiting then .idle else (ctxGet s ctx).st))) ∧
  (∀ (ctx : Nat) (s : State),
    let r := ringGet s ctx
    let g := globalOf s (r.cmdBase + 64 * r.cmdHead)
    ((ctxGet s ctx).st ≠ .running ∨ (ctxGet s ctx).stop.isSome = true ∨ r.st ≠ .enabled ∨ r.cmdHead = r.cmdTail →
      exec (.cmdFetch ctx) s = .next s) ∧
    (∀ d, (ctxGet s ctx).st = .running → (ctxGet s ctx).stop = none → r.st = .enabled → r.cmdHead ≠ r.cmdTail → g % 64 = 0 →
      accessErr s g false ctx 0 = 0 → viewSector s g = some (d, false) → isTileWin s g = false →
      ∃ v : State, exec (.cmdFetch ctx) s = .next (ringGo ctx v) ∧ { v with host := s.host } = s ∧
        ringGet v ctx = { r with cmdHead := (r.cmdHead + 1) % 2 ^ r.cmdLog2, fetched := r.fetched ++ [⟨slice d 0 64, false, 0⟩] }) ∧
    (r.done = [] ∨ s.host.linkUp = false ∨ cplFull r = true → exec (.completionWrite ctx) s = .next s) ∧
    (∀ c t, r.done = c :: t → s.host.linkUp = true → cplFull r = false →
      let tail := (r.cplTail + 1) % 2 ^ r.cplLog2
      let now := c.int || r.coalesceNs == 0
      ∃ v : State, exec (.completionWrite ctx) s = .next (ringGo ctx (if now = true then raiseVector r.fn r.vector v else v)) ∧
        v.host.out = s.host.out ++ [.write r.fn (r.cplBase % 2 ^ 52 + 16 * r.cplTail)
          (leBytes 2 c.tag ++ leBytes 1 c.status ++ leBytes 1 (if r.phase = true then 1 else 0) ++ leBytes 2 c.reason ++
            leBytes 1 c.opcode ++ [0] ++ leBytes 8 c.detail) false] ∧
        ringGet v ctx = { r with done := t, cplTail := tail, phase := if tail = 0 then !r.phase else r.phase,
                                 coalescing := !now || r.coalescing }) ∧
    (r.coalescing = false → exec (.coalesceTimer ctx) s = .next s) ∧
    (r.coalescing = true → ∃ u : State, exec (.coalesceTimer ctx) s = .next u ∧ ringGet u ctx = { r with coalescing := false } ∧
      (canInterrupt s r.fn r.vector = true → u.host.out = s.host.out ++ [.msix r.fn r.vector]) ∧
      (canInterrupt s r.fn r.vector = false → (msixGet u r.fn r.vector).pending = true)))

/-- R181, R185, R239, R391 to R393, R466, R467: the commands of a ring. One at the front whose Reserved bits are set or whose operands are out of
range completes REJECTED with its reason, and nothing is performed; NOP completes OK; SIGNAL stores its value and completes; WAIT
completes once the value read is large enough, and otherwise its context waits and gives up its sections, to be polled;
WIN_UPDATE and XLAT_INVAL act as they do from the dictionary; FLUSH_UC completes when its flush has ended; DMA_COPY copies
its bytes in order and completes with how many it copied. A command that may not start changes nothing. -/
def Obligations.RingCommands : Prop :=
  (∀ (ctx ext : Nat) (s : State) (e : RingCmd) (t : List RingCmd), (ringGet s ctx).fetched = e :: t →
    let r := ringGet s ctx
    let b := e.bytes
    let op := field b 0 1
    let begun := modCmd ctx 0 (fun x => { x with started := true }) s
    let clean := bits (field b 1 1) 3 5 = 0 ∧ field b 4 4 = 0
    let completes := fun (i : Instr) (st reason detail : Nat) => ∃ v : State, exec i s = .next (ringGo ctx v) ∧
      ringGet v ctx = { r with fetched := t, done := r.done ++ (if st = 0 ∧ bit (field b 1 1) 1 = true then [] else
        [⟨field b 2 2, st, reason, op, detail, bit (field b 1 1) 2⟩]) } ∧
      (∀ c, c ≠ ctx → ringGet v c = ringGet s c) ∧ { v with host := s.host } = s
    let polls := fun (i : Instr) (s : State) =>
      match ctxReadN ctx ext (field b 8 8) 8 begun with
      | (.inl (d, false), u) =>
        if field b 16 8 ≤ leNat d then
          exec i s = .next (if (ctxGet s ctx).st = .waiting then becomeReady ctx (finishCmd ctx 0 0 0 (leNat d) u)
            else finishCmd ctx 0 0 0 (leNat d) u)
        else ∃ v : State, exec i s = .next (if (ctxGet s ctx).st = .waiting then v else leave ctx v) ∧
          ((ctxGet s ctx).st = .running → (ctxGet v ctx).st = .waiting) ∧
          ringGet v ctx = ringGet (modCmd ctx 0 (fun x => { x with started := true, detail := leNat d }) u) ctx
      | (.inl (_, true), u) => exec i s = .next (failCmd ctx 0 0 (.bus 4 (field b 8 8)) u)
      | (.inr x, u) => exec i s = .next (failCmd ctx 0 0 x u)
    (mayStart s ctx = true → e.started = false →
      (op = 0 → (clean → completes (.ringNop ctx) 0 0 0) ∧ (¬ clean → completes (.ringNop ctx) 1 0x101 0)) ∧
      (op = 3 → (¬ clean → completes (.signal ctx ext) 1 0x101 0) ∧
        (clean → field b 8 8 % 8 ≠ 0 → completes (.signal ctx ext) 1 0x102 0) ∧
        (clean → field b 8 8 % 8 = 0 →
          match ctxWriteN (.dma 0) 0 ctx ext false (field b 8 8) (slice b 16 8) begun with
          | (none, u) => exec (.signal ctx ext) s = .next (finishCmd ctx 0 0 0 0 u)
          | (some x, u) => exec (.signal ctx ext) s = .next (failCmd ctx 0 0 x u))) ∧
      (op = 4 → (¬ clean → completes (.wait ctx ext) 1 0x101 0) ∧
        (clean → field b 8 8 % 8 ≠ 0 → completes (.wait ctx ext) 1 0x102 0) ∧
        (clean → field b 8 8 % 8 = 0 → polls (.wait ctx ext) s)) ∧
      (op = 5 → (¬ clean ∨ field b 9 7 ≠ 0 → completes (.ringWinUpdate ctx) 1 0x101 0) ∧
        (clean → field b 9 7 = 0 →
          match winUpdate ctx (field b 8 1) (slice b 16 32) begun with
          | .inl q => completes (.ringWinUpdate ctx) 1 q 0
          | .inr u => exec (.ringWinUpdate ctx) s = .next (finishCmd ctx 0 0 0 0 u))) ∧
      (op = 6 → (¬ clean → completes (.ringXlatInval ctx) 1 0x101 0) ∧
        (clean → field b 8 8 % 65536 ≠ 0 ∨ 2 ^ 48 ≤ field b 8 8 → completes (.ringXlatInval ctx) 1 0x102 0) ∧
        (clean → field b 8 8 % 65536 = 0 → field b 8 8 < 2 ^ 48 → exec (.ringXlatInval ctx) s =
          .next (finishCmd ctx 0 0 0 0 (xlatInval ctx (field b 8 8) (65536 * field b 16 4) begun)))) ∧
      (op = 7 → (¬ clean → completes (.flushUc ctx) 1 0x101 0) ∧
        (clean → 2 ≤ field b 8 1 → completes (.flushUc ctx) 1 0x102 0) ∧
        (clean → field b 8 1 < 2 → ∃ v : State, exec (.flushUc ctx) s = .next (homesGoOn v) ∧ (ctx, field b 8 1) ∈ v.uc.flushing ∧
          (ringGet v ctx).fetched = { e with started := true } :: t ∧ v.work = s.work)) ∧
      (op = 2 → bit (field b 1 1) 0 = false → ∀ n, (¬ clean → completes (.dmaCopy ctx 0 n ext) 1 0x101 0) ∧
        (clean → field b 24 8 = 0 ∨ 2 ^ 40 < field b 24 8 ∨ 4 < field b 32 1 → completes (.dmaCopy ctx 0 n ext) 1 0x102 0))) ∧
    (mayStart s ctx = false → e.started = false → exec (.ringNop ctx) s = .next s ∧ exec (.signal ctx ext) s = .next s ∧
      exec (.wait ctx ext) s = .next s ∧ exec (.ringWinUpdate ctx) s = .next s ∧ exec (.ringXlatInval ctx) s = .next s ∧
      (op = 7 → exec (.flushUc ctx) s = .next s) ∧ ∀ n, exec (.dmaCopy ctx 0 n ext) s = .next s) ∧
    (e.started = true → op = 4 → (ctxGet s ctx).st = .waiting →
      match ctxReadN ctx ext (field b 8 8) 8 s with
      | (.inl (d, false), u) =>
        if field b 16 8 ≤ leNat d then
          exec (.waitPoll ctx ext) s = .next (becomeReady ctx (finishCmd ctx 0 0 0 (leNat d) u))
        else exec (.waitPoll ctx ext) s = .next (modCmd ctx 0 (fun x => { x with started := true, detail := leNat d }) u)
      | (.inl (_, true), u) => exec (.waitPoll ctx ext) s = .next (failCmd ctx 0 0 (.bus 4 (field b 8 8)) u)
      | (.inr x, u) => exec (.waitPoll ctx ext) s = .next (failCmd ctx 0 0 x u)) ∧
    (e.started = false ∨ op ≠ 4 ∨ (ctxGet s ctx).st ≠ .waiting → exec (.waitPoll ctx ext) s = .next s) ∧
    (e.started = true → op = 7 → (s.uc.flushing.contains (ctx, field b 8 1) = true → exec (.flushUc ctx) s = .next s) ∧
      (s.uc.flushing.contains (ctx, field b 8 1) = false → completes (.flushUc ctx) 0 0 0)) ∧
    (∀ n q, op = 2 → (e.started = true ∧ copyGoes s ctx = true ∧ q = s) ∨ (e.started = false ∧ mayStart s ctx = true ∧ clean ∧
        bit (field b 1 1) 0 = false ∧ 1 ≤ field b 24 8 ∧ field b 24 8 ≤ 2 ^ 40 ∧ field b 32 1 ≤ 4 ∧ q = begun) →
      let len := field b 24 8
      let k := min n (len - e.detail)
      match copyRun ctx ext (field b 32 1) (k + 1) (field b 8 8 + e.detail) (field b 16 8 + e.detail) k 0 q with
      | (got, none, u) => exec (.dmaCopy ctx 0 n ext) s = .next (if e.detail + got = len then finishCmd ctx 0 0 0 len u
          else modCmd ctx 0 (fun x => { x with started := true, detail := e.detail + got }) u)
      | (got, some x, u) => exec (.dmaCopy ctx 0 n ext) s = .next (failCmd ctx 0 (e.detail + got) x u))) ∧
  (∀ (ctx ext i n : Nat) (e : RingCmd) (s : State), (ringGet s ctx).fetched[i]? = some e → 1 ≤ i → field e.bytes 0 1 = 2 →
    e.started = false →
    let b := e.bytes
    let out := ((ringGet s ctx).fetched.filter fun x => x.started && field x.bytes 0 1 == 2 && bit (field x.bytes 1 1) 0).length
    (bit (field b 1 1) 0 = false ∨ num s 0x6905 1 4 ≤ out → exec (.dmaCopy ctx i n ext) s = .next s) ∧
    (bit (field b 1 1) 0 = true → out < num s 0x6905 1 4 → mayStart s ctx = true → n = 0 → bits (field b 1 1) 3 5 = 0 →
      field b 4 4 = 0 → 1 ≤ field b 24 8 → field b 24 8 ≤ 2 ^ 40 → field b 32 1 ≤ 4 → e.detail = 0 →
      ∃ u : State, exec (.dmaCopy ctx i n ext) s = .next u ∧ { u with host := s.host } = s ∧
        (ringGet u ctx).fetched = (ringGet s ctx).fetched.set i { e with started := true })) ∧
  (∀ (ctx ext hint src dst n : Nat) (s : State),
    match copyRun ctx ext hint (n + 1) src dst n 0 s with
    | (got, none, _) => got = n
    | (got, some _, _) => got < n) ∧
  (∀ (ctx c : Nat) (b : List Byte) (st reason detail : Nat) (s : State) (e : RingCmd) (t : List RingCmd),
    (ringGet s ctx).fetched = e :: t → e.bytes = b → ∃ v, finishCmd ctx 0 st reason detail s = ringGo ctx v ∧
      { v with host := s.host } = s ∧ (ringGet v ctx).fetched = t ∧ (c ≠ ctx → ringGet v c = ringGet s c) ∧
      (st ≠ 0 ∨ bit (field b 1 1) 1 = false → (ringGet v ctx).done = (ringGet s ctx).done ++
        [⟨field b 2 2, st, reason, field b 0 1, detail, bit (field b 1 1) 2⟩]))

/-- R272, R401 to R403: the CXL personality. SnpInv and SnpData are answered from the proxy slice as RECALL_I and RECALL_S are, dirty data
written back line by line and, after SnpInv, the other lines given up; SnpCur answers the current data and changes nothing; while
CXL is not active a snoop does nothing. The host's answers are awaited for all 16 lines of a miss, which enters its state with
the last. A read of agent 20 is served at once where it holds the line, and otherwise asked of the home; its write is merged;
and the last answer to a back-invalidate answers the home. -/
def Obligations.CxlPersonality : Prop :=
  (∀ (addr k : Nat) (st : LineState) (s : State), cxlSlice s addr = some k → copyAt s k (lineOf addr) st →
    let line := lineOf addr
    let i := addr % 1024 / 64
    let g := addr / 64 * 64
    let d := copyData (sliceGet s k).c line
    let answer := fun (u : State) (b : List Byte) (p : Bool) => u.host.out = s.host.out ++ [.cxl cxlSnoopRsp g b p] ∧
      { u with host := { u.host with out := s.host.out } } = s
    let current := st = .s ∨ st = .e ∨ st = .o ∨ st = .m ∨ st = .eH ∨ st = .mH ∨ st = .smAD ∨ st = .omA ∨ st = .miA ∨ st = .eiA
    (∃ u : State, exec (.snpCur addr) s = .next u ∧ (current → answer u (sectorBytes d.1 i) (d.2.2.getLsbD i)) ∧ (¬ current → answer u [] false)) ∧
    (∀ cmd op, (cmd = .snpInv addr ∧ op = .recallI) ∨ (cmd = .snpData addr ∧ op = .recallS) →
      (st = .i ∨ st = .siA ∨ st = .miA ∨ st = .eiA ∨ (st = .s ∧ op = .recallS) → ∃ u : State, exec cmd s = .next u ∧ answer u [] false) ∧
      (st = .s → op = .recallI → ∃ u : State, exec cmd s = .next u ∧ copyState (sliceGet u k).c line = .i ∧
        .cxl cxlSnoopRsp g [] false ∈ u.host.out ∧
        ∀ j, j < 16 → j ≠ i → .cxl cxlCleanEvictNoData (lineAddr line + 64 * j) [] false ∈ u.host.out) ∧
      (∀ ops st2, st ≠ .siA → st ≠ .miA → st ≠ .eiA → snoopRow op st = some (ops, st2) → ∃ v : State, exec cmd s = .next (homesGoOn v) ∧
        copyState (sliceGet v k).c line = st2 ∧
        (ops = [.rspData] → ∀ j, j < 16 → d.2.1.getLsbD j = true → ∃ p, (if j = i then HostOut.cxl cxlSnoopRsp g (sectorBytes d.1 j) p
          else .cxl cxlDirtyEvict (lineAddr line + 64 * j) (sectorBytes d.1 j) p) ∈ v.host.out) ∧
        (ops = [.invAck] → .cxl cxlSnoopRsp g [] false ∈ v.host.out) ∧
        (op = .recallI → ∀ j, j < 16 → j ≠ i → (ops = [.rspData] → d.2.1.getLsbD j = false) →
          .cxl cxlCleanEvictNoData (lineAddr line + 64 * j) [] false ∈ v.host.out)) ∧
      (defers st = true → ∃ v : State, ∃ x p, exec cmd s = .next (homesGoOn v) ∧ findMshr (sliceGet v k).c line = some x ∧
        x.deferred = some p ∧ p.op = op ∧ copyState (sliceGet v k).c line = st ∧ countsOne s v 0x2501 3 64 ∧
        v.host.out = s.host.out))) ∧
  (∀ (addr : Nat) (rsp : CxlRsp) (d : Option (List Byte)) (p : Bool) (s : State), cxlSlice s addr = none →
    exec (.snpInv addr) s = .next s ∧ exec (.snpData addr) s = .next s ∧ exec (.snpCur addr) s = .next s ∧
    exec (.cxlCacheResponse addr rsp d p) s = .next s) ∧
  (∀ (addr k n : Nat) (d : Option (List Byte)) (s : State), cxlSlice s addr = some k →
    let line := lineOf addr
    let i := addr % 1024 / 64
    let c := (sliceGet s k).c
    (∀ e, findEvict c line = some e → sfind s.host.cxlWait line = some n →
      (2 ≤ n → ∃ u : State, exec (.cxlCacheResponse addr .evicted d false) s = .next u ∧ sfind u.host.cxlWait line = some (n - 1) ∧
        (sliceGet u k).c = c) ∧
      (n = 1 → ∃ v : State, exec (.cxlCacheResponse addr .evicted d false) s = .next (homesGoOn v) ∧ sfind v.host.cxlWait line = none ∧
        findEvict (sliceGet v k).c line = none)) ∧
    (∀ x rsp, findMshr c line = some x → sfind s.host.cxlWait line = some n → rsp ≠ .evicted →
      (rsp = .goI → x.bz ≠ .isD → x.bz ≠ .isDI → ∃ u : State, exec (.cxlCacheResponse addr rsp d false) s = .next u ∧
        sfind u.host.cxlWait line = none ∧
        ∀ w ∈ x.waiters, (⟨w.dest, w.txn, lineAddr x.line + 64 * w.sector, [], false, 7⟩ : UcReply) ∈ u.uc.replies) ∧
      (∀ b, rsp ≠ .goI → 2 ≤ n → d = some b → b.length = 64 → ∃ u : State, ∃ y, exec (.cxlCacheResponse addr rsp d false) s = .next u ∧
        sfind u.host.cxlWait line = some (n - 1) ∧ findMshr (sliceGet u k).c line = some y ∧ y.bz = x.bz ∧
        y.fetch = (if rsp = .goE ∨ rsp = .goM then x.fetch ||| bit16 i else x.fetch) ∧ y.waiters = x.waiters ∧
        ∀ o, memRead y.data o = if o / 64 = i then b.getD (o % 64) 0 else memRead x.data o) ∧
      (n = 1 → rsp ≠ .goI → x.bz ∈ [LineState.isD, .isDI, .imAD, .smAD] → copyAt s k line x.bz → x.deferred = none → streamOnly x = false → x.write = none → x.atom = none →
        x.line = line → ∃ v : State, exec (.cxlCacheResponse addr rsp d false) s = .next (homesGoOn v) ∧ sfind v.host.cxlWait line = none ∧
        copyState (sliceGet v k).c line = (if x.bz = .isD then
            (if (if rsp = .goE ∨ rsp = .goM then x.fetch ||| bit16 i else x.fetch) = 0xFFFF then .eH else .s)
          else if x.bz = .isDI then .i else .mH))) ∧
    (∀ b rsp r a t q, findMshr c line = none → d = some b → rsp ≠ .evicted →
      (s.host.reqs.find? fun r => r.addr / 64 == addr % 2 ^ 52 / 64 && r.fn == .pf) = some r → r.forWhom = some (a, t, q) →
      ∃ u : State, exec (.cxlCacheResponse addr rsp d false) s = .next u ∧ u.host.reqs = s.host.reqs.erase r ∧
        u.uc.replies = s.uc.replies ++ [⟨a, t, q, b, false, 0⟩])) ∧
  (∀ (addr mv tag : Nat) (s : State),
    let g := globalOf s addr
    let l := lineOf g
    let x := agent20 s l
    let op : BOp := if mv = 3 then .getS else if mv = 2 then .getM else .readOnce
    let d := homeData s g
    (hdmCovers s addr = false → exec (.memRd addr mv tag) s = .next s) ∧
    (hdmCovers s addr = true → 1 ≤ x.st → (op ≠ .getM ∨ x.st = 2) → ∃ u : State, exec (.memRd addr mv tag) s = .next u ∧
      u.host.out = s.host.out ++ [.cxl cxlMemData (g / 64 * 64) d.1 d.2] ∧ { u with host := { u.host with out := s.host.out } } = s) ∧
    (hdmCovers s addr = true → (x.st = 0 ∨ (op = .getM ∧ x.st ≠ 2)) →
      (x.read.isSome = true → exec (.memRd addr mv tag) s = .next s) ∧
      (x.read = none → ∃ u : State, ∃ p, exec (.memRd addr mv tag) s = .next u ∧ u.uc.sent = s.uc.sent ++ [p] ∧ p.op = op ∧ p.m.src = .host ∧
        p.m.dst = .slice (homeSlice g (nearOf s g)) ∧ p.m.addr = lineAddr l ∧
        agent20 u l = { x with read := some (g % 1024 / 64 * 64, tag) } ∧ u.uc.slices = s.uc.slices))) ∧
  (∀ (addr tag : Nat) (data : List Byte) (en : List Bool) (s : State), data.length = 64 → en.length = 64 →
    let g := globalOf s addr
    let l := lineOf g
    let i := g % 1024 / 64
    let bs := en.zip data
    let merged := fun (new old : Memory) => ∀ o, memRead new o = if o / 64 = i ∧ en.getD (o % 64) false = true then data.getD (o % 64) 0
      else memRead old o
    let near := nearOf s g
    let k := homeSlice g near
    (hdmCovers s addr = false → exec (.memWr addr data en false tag) s = .next s) ∧
    (∀ k j w, hdmCovers s addr = true → (∀ b ∈ s.host.bi, b.line ≠ l) → 1 ≤ (agent20 s l).st → holdingHome s g = some (k, w) →
      findWay (sliceGet s k).c l = some (j, w) → ∃ u : State, ∃ y, exec (.memWr addr data en false tag) s = .next u ∧
        findWay (sliceGet u k).c l = some (j, y) ∧ (w.svalid.getLsbD i = true → merged y.data w.data) ∧
        (w.svalid.getLsbD i = false → ∀ o, o < 64 → memRead y.data (64 * i + o) =
          if en.getD o false = true then data.getD o 0 else (memSector s (localOf g)).1.getD o 0) ∧ y.sdirty = w.sdirty ||| bit16 i ∧ y.dir = w.dir ∧
        agent20 u l = agent20 s l ∧ u.host.out = s.host.out ++ [.cxl cxlCmp (g / 64 * 64) [] false]) ∧
    (∀ j w, hdmCovers s addr = true → (∀ b ∈ s.host.bi, b.line ≠ l) → (agent20 s l).st = 0 → s.uc.sent = [] → (∀ b ∈ en, b = true) →
      plainHome s k ⟨.host, 0, g / 64 * 64, near, 0, false, 0, 0xFFFF, 0xFFF, some bs, false⟩ →
      findWay (sliceGet s k).c l = some (j, w) → w.st = .home → findMshr (sliceGet s k).c l = none →
      ∃ u : State, ∃ y, exec (.memWr addr data en false tag) s = .next u ∧ findWay (sliceGet u k).c l = some (j, y) ∧ merged y.data w.data ∧
        y.sdirty = w.sdirty ||| bit16 i) ∧
    (∀ b, hdmCovers s addr = true → s.host.bi = [b] → b.line = l → ∃ u : State, ∃ y, exec (.memWr addr data en false tag) s = .next u ∧
      u.host.bi = [y] ∧ y.dirty = b.dirty ||| bit16 i ∧ y.left = b.left ∧ u.uc = s.uc ∧
      ∀ o, o < 64 → en.getD o false = true → memRead y.data (64 * i + o) = data.getD o 0)) ∧
  (∀ (addr : Nat) (d : Option (List Byte)) (s : State) (b : BiSnoop),
    let g := globalOf s addr
    let l := lineOf g
    let i := g % 1024 / 64
    let dirty := if d.isSome = true then b.dirty ||| bit16 i else b.dirty
    ((∀ x ∈ s.host.bi, x.line ≠ l) → exec (.biRsp addr d) s = .next s) ∧
    (s.host.bi = [b] → b.line = l → 2 ≤ b.left → ∃ u : State, ∃ y, exec (.biRsp addr d) s = .next u ∧ u.host.bi = [y] ∧ y.left = b.left - 1 ∧
      y.dirty = dirty ∧ u.uc = s.uc ∧ ∀ e, d = some e → e.length = 64 → ∀ o, o < 64 → memRead y.data (64 * i + o) = e.getD o 0) ∧
    (s.host.bi = [b] → b.line = l → b.left = 1 → ∃ u : State, ∃ p, exec (.biRsp addr d) s = .next u ∧ u.host.bi = [] ∧
      (agent20 u l).st = (if b.op = .recallS then 1 else 0) ∧ u.uc.sent = s.uc.sent ++ [p] ∧
      p.op = (if dirty = 0 then .invAck else .rspData) ∧ p.m.src = .host ∧ p.m.dst = .slice (homeSlice g b.near) ∧
      p.m.sectors = dirty))

/-- R420 to R423, R426, R427, R429, R430: plans. A load that fails answers its reason, writes the reject record and leaves the context's
plans; one that passes stands in its slot with its origin, footprint and groups. An unload frees slot and groups, and answers NO_PLAN
and SLOT_BUSY. A LAUNCH is refused with the first reason; with an extent of 0 it completes at once; otherwise its argument
pointers are read once and its invocations are formed. -/
def Obligations.PlanLoading : Prop :=
  (∀ (ctx slot addr origin : Nat) (s : State), slot < 32 → origin < 144 →
    let h := planHdr (imgRead s addr)
    let i := Instr.planLoad ctx slot addr origin
    (ctxExists s ctx = false → ∃ u : State, exec i s = .next u ∧ u.dict.result = (0x23, [2, 0]) ∧ onlyResult s u) ∧
    (ctxExists s ctx = true →
      (∀ b, planBad s ctx slot addr origin = some b → ∃ u : State, exec i s = .next u ∧ u.dict.result = (0x23, leBytes 2 b.reason) ∧
        countsOne s u 0x2A03 2 32 ∧ sfind u.work.rejects (ctxPart ctx) = some
          { ctx := ctx, slot := slot, source := 0, reason := b.reason, variant := b.variant, detail := b.detail, place := b.place,
            kernel := b.kernel, valid := true } ∧
        u.work.ctxs = s.work.ctxs ∧ u.lath = s.lath ∧ u.hbm = s.hbm ∧ u.uc = s.uc) ∧
      (backedBytes < addr + 64 → ∃ b, planBad s ctx slot addr origin = some b ∧ b.reason = 4) ∧
      (addr + 64 ≤ backedBytes → h.magic ≠ 0x4E414C50 → ∃ b, planBad s ctx slot addr origin = some b ∧ b.reason = 1 ∧ b.detail = 0) ∧
      (addr + 64 ≤ backedBytes → addr % 4096 ≠ 0 → ∃ b, planBad s ctx slot addr origin = some b ∧ b.reason ≤ 4) ∧
      ((sfind (ctxGet s ctx).plans slot).isSome = true → ∃ b, planBad s ctx slot addr origin = some b ∧ b.reason ≤ 5) ∧
      (planBad s ctx slot addr origin = none → localPoison s addr h.bytes = false → ∃ u : State, ∃ pl, exec i s = .next u ∧
        u.dict.result = (0, []) ∧ sfind (ctxGet u ctx).plans slot = some pl ∧ pl.addr = addr ∧ pl.origin = origin ∧ pl.bytes = h.bytes ∧
        pl.sections = footSections h origin ∧ pl.groups = ((freeDieGroups s (origin / 36)).take h.groups).map (64 * (origin / 36) + ·) ∧
        (h.groups = 0 → countsOne s u 0x2A03 1 32 ∧ u.uc = s.uc ∧ u.hbm = s.hbm ∧ u.lath.groups = s.lath.groups)))) ∧
  (∀ (ctx slot : Nat) (s : State),
    let x := ctxGet s ctx
    (ctxExists s ctx = false → ∃ u : State, exec (.planUnload ctx slot) s = .next u ∧ u.dict.result = (0x23, [2, 0]) ∧ onlyResult s u) ∧
    (ctxExists s ctx = true → sfind x.plans slot = none → ∃ u : State, exec (.planUnload ctx slot) s = .next u ∧
      u.dict.result = (0x23, [0x20, 0]) ∧ onlyResult s u) ∧
    (∀ pl l, ctxExists s ctx = true → sfind x.plans slot = some pl → x.launch = some l → l.slot = slot →
      ∃ u : State, exec (.planUnload ctx slot) s = .next u ∧ u.dict.result = (0x23, [0x21, 0]) ∧ onlyResult s u) ∧
    (∀ pl, ctxExists s ctx = true → sfind x.plans slot = some pl → (∀ l, x.launch = some l → l.slot ≠ slot) →
      ∃ u : State, exec (.planUnload ctx slot) s = .next u ∧ u.dict.result = (0, []) ∧ ctxGet u ctx = { x with plans := sdel x.plans slot } ∧
        (∀ g ∈ pl.groups, sfind u.lath.groups g = none) ∧ (∀ g, g ∉ pl.groups → sfind u.lath.groups g = sfind s.lath.groups g) ∧
        ∀ c, c ≠ ctx → ctxGet u c = ctxGet s c)) ∧
  (∀ (ctx : Nat) (s : State) (e : RingCmd) (t : List RingCmd), (ringGet s ctx).fetched = e :: t → e.started = false →
    let b := e.bytes
    let a := launchArgs b
    let begun := modCmd ctx 0 (fun x => { x with started := true }) s
    mayStart s ctx = true → field b 0 1 = 1 →
    let rejects := fun (n : Nat) => ∃ v : State, exec (.launch ctx) s = .next (finishCmd ctx 0 1 n 0 v) ∧ countsOne s v 0x2A03 4 32 ∧
      countsOne s v 0x2A03 3 64 ∧ (sfind v.work.rejects (ctxPart ctx)).map (fun r => (r.slot, r.source, r.reason)) =
        some (a.slot, 1, n) ∧ v.host = s.host
    (launchReserved b = true → rejects 0x101) ∧
    (launchReserved b = false → 32 ≤ a.slot → rejects 0x102) ∧
    (launchReserved b = false → a.slot < 32 → sfind (ctxGet s ctx).plans a.slot = none → rejects 0x20) ∧
    (∀ pl, launchReserved b = false → a.slot < 32 → sfind (ctxGet s ctx).plans a.slot = some pl →
      let h := planHdr (imgRead s pl.addr)
      let ds := planDims (imgRead s pl.addr) h.dims
      ((∃ i, h.dims ≤ i ∧ i < 4 ∧ a.extents.getD i 0 ≠ 0) → rejects 0x102) ∧
      ((∀ i, h.dims ≤ i → i < 4 → a.extents.getD i 0 = 0) →
        (∃ i d, i < h.dims ∧ ds[i]? = some d ∧ d.split = false ∧ d.largest < a.extents.getD i 0) → rejects 0x22) ∧
      (launchReason s ctx b = 0 →
        ((∃ i, i < h.dims ∧ i < 4 ∧ a.extents.getD i 0 = 0) → ∃ v : State, exec (.launch ctx) s = .next (finishCmd ctx 0 0 0 0 v) ∧
          countsOne s v 0x2A03 3 64 ∧ v.host = s.host ∧ v.work = s.work) ∧
        ((∀ i, i < h.dims → a.extents.getD i 0 ≠ 0) →
          match ctxReadN ctx 0 a.argVa 64 begun with
          | (.inl (d, false), u) =>
            let args := patterns 8 8 d
            if (args.any (fun p => p % 64 != 0) || (lineArgs (imgRead s pl.addr) h).any (fun i => args.getD i 0 % 1024 != 0)) = true then
              ∃ v : State, exec (.launch ctx) s = .next (finishCmd ctx 0 1 0x25 0 v) ∧ v.host = u.host
            else ∃ v : State, ∃ l, exec (.launch ctx) s = .next v ∧ (ctxGet v ctx).launch = some l ∧ l.slot = a.slot ∧ l.args = args ∧
              l.posBase = a.posBase ∧ l.mode = a.mode ∧ l.inv = 0 ∧ l.kernel = 0 ∧ l.running = false ∧ v.host = u.host ∧
              l.invs = invocations ds (a.extents.take h.dims) 1
          | (.inl (_, true), u) => ∃ v : State, exec (.launch ctx) s = .next (failCmd ctx 0 0 (.bus 4 a.argVa) v) ∧ v.host = u.host
          | (.inr x, u) => ∃ v : State, exec (.launch ctx) s = .next (failCmd ctx 0 0 x v) ∧ v.host = u.host))))

/-- R83, R105, R168, R193, R198, R412 to R418, R429: kernels and windows. A kernel starts with its thread groups loaded at its entry, all
lanes active, L1s empty and its scalar registers set; it ends when they have ENDED, their lines written back, its windows finished and
its landing buffers empty, and the next kernel or invocation follows, or the LAUNCH completes OK. A window's
transfer starts where its flags let it, and writes DONE when its sectors have committed. An overrun of
WORST_TILE_CYCLES is counted. An invocation's extents and offsets are those of R428. -/
def Obligations.KernelsAndWindows : Prop :=
  (∀ (ctx : Nat) (s : State) (l : Launch) (pl : Plan) (h : PlanHdr) (k : KRec), (ctxGet s ctx).launch = some l →
    launchKernel s ctx = some (pl, h, k) →
    let foot := footCores pl h
    let idle := (ctxGet s ctx).st = .running ∧ (ctxGet s ctx).stop = none
    let again := fun (l2 : Launch) => ∃ u : State, exec (.kernelStart ctx) s = .next u ∧ (ctxGet u ctx).launch = some l2 ∧ u.host = s.host ∧
      u.cores = s.cores
    (¬ idle → exec (.kernelStart ctx) s = .next s) ∧
    (∀ v f t, idle → l.running = false → l.invs[l.inv]? = some v → foot.Nodup → f < h.cores → t < (k.layout.take k.gbCount).sum → t < 16 →
      ∃ u : State, ∃ m, exec (.kernelStart ctx) s = .next u ∧ (ctxGet u ctx).launch = some m ∧ m.running = true ∧ m.kernel = l.kernel ∧
        m.inv = l.inv ∧ m.dma.length = k.windows ∧ u.host = s.host ∧
        let x := coreGet u (footCore h pl.origin f)
        let z := slotGet x t
        x.l1d = [] ∧ x.l1i = [] ∧ x.owner = some ctx ∧ z.st = .loaded ∧ z.ctx = ctx ∧ z.mask = 0xFFFFFFFF ∧ z.pc = k.entry ∧
        z.coreMode = BitVec.ofNat 32 (l.mode.getD (num s 0x2004 1 0x30)) ∧ sRead z 1 = BitVec.ofNat 64 l.argVa ∧
        sRead z 2 = BitVec.ofNat 64 f ∧ sRead z 3 = BitVec.ofNat 64 k.index ∧ sRead z 8 = BitVec.ofNat 64 l.inv ∧
        (∀ d, vRead z d = fun _ => 0) ∧ ((∀ w ∈ planWins (imgRead s pl.addr) k, w.core < h.cores) → ∀ c, c ∉ foot → coreGet u c = coreGet s c)) ∧
    (idle → l.running = true → kernelEnded s ctx foot = false → exec (.kernelStart ctx) s = .next s) ∧
    (idle → l.running = true → kernelEnded s ctx foot = true → footDirty s foot = false →
      (kernelQuiet s ctx l foot = false → exec (.kernelStart ctx) s = .next s) ∧
      (kernelQuiet s ctx l foot = true →
        (l.kernel + 1 < h.kernels → again { l with running := false, kernel := l.kernel + 1, dma := [] }) ∧
        (h.kernels ≤ l.kernel + 1 → l.inv + 1 < l.invs.length →
          again { l with running := false, kernel := 0, inv := l.inv + 1, dma := [] }) ∧
        (h.kernels ≤ l.kernel + 1 → l.invs.length ≤ l.inv + 1 → ∃ v : State, exec (.kernelStart ctx) s = .next (finishCmd ctx 0 0 0 0 v) ∧
          (ctxGet v ctx).launch = none ∧ v.host = s.host ∧ v.cores = s.cores)))) ∧
  (∀ (ctx i : Nat) (s : State), winView s ctx i = none → exec (.dmaTransferStart ctx i) s = .next s ∧
    ∀ ext, exec (.dmaTransferDone ctx i ext) s = .next s) ∧
  (∀ (ctx i ext : Nat) (v : WinView) (s : State), winView s ctx i = some v →
    let free := leNat (memReadN (coreGet s v.win.core).tile (64 * v.pw.flagSector + 8) 8)
    let may := ctxActs s ctx = true ∧ v.launch.running = true ∧ v.win.active = false ∧ v.win.finished = false ∧
      v.win.j < (if v.pw.dir = 0 then free + v.buf.copies else free)
    let win := fun (u : State) => ((ctxGet u ctx).launch.bind fun l => l.dma[i]?)
    (may → ∃ u : State, exec (.dmaTransferStart ctx i) s = .next u ∧ win u = some { v.win with active := true } ∧ u.cores = s.cores ∧
      u.host = s.host) ∧
    (¬ may → exec (.dmaTransferStart ctx i) s = .next s) ∧
    (v.win.active = false ∨ ctxActs s ctx = false → exec (.dmaTransferDone ctx i ext) s = .next s) ∧
    (v.win.active = true → ctxActs s ctx = true →
      match moveTile ctx ext v.win.core v.buf v.pw (v.launch.args.getD v.pw.arg 0) v.win.j v.axes
          (tileIndices v.k v.counts (tileOrdinal v.k v.pw.core v.win.t)) s with
      | (some e, u) => exec (.dmaTransferDone ctx i ext) s = .next (ctxVFault ctx 1 0 (coreRef v.win.core) e u)
      | (none, u) => ∃ t, exec (.dmaTransferDone ctx i ext) s = .next t ∧
          ((ctxGet u ctx).launch = some v.launch → v.win.j + 1 < 2 ^ 64 →
            leNat (memReadN (coreGet t v.win.core).tile (64 * v.pw.flagSector) 8) = v.win.j + 1 ∧
            ∃ d, win t = some d ∧ d.j = v.win.j + 1 ∧ d.active = false ∧
              d.finished = (nextTile v.k v.counts v.pw (tilesOf v.k v.counts v.pw.core + 1) (v.win.t + 1)).isNone))) ∧
  (∀ (ctx core : Nat) (s : State), core < 4608 → ∃ u : State, exec (.tileOverrun ctx core) s = .next u ∧ countsOne s u 0x2A03 5 64 ∧
    u.work = s.work ∧ u.cores = s.cores) ∧
  (∀ (d : PlanDim) (n : Nat), d.split = true → 1 ≤ d.largest →
    ((splitList d n).map (·.2.1)).sum = n ∧ (∀ e ∈ splitList d n, e.2.1 ≤ d.largest) ∧
    ∀ i e, (splitList d n)[i]? = some e → e.2.2 = i * d.largest)

/-- R123, R436, R438 to R444, R451, R453: Plumb. PLB.ISSUE queues its descriptor on the array of the core's stack pair and returns its
ticket, waits in WAIT_MEM with no entry or no room, and raises PLB_NO_SHARE without a share; PLB.POLL returns the ticket's
status word, or UNKNOWN. PLB_SHARE gives shares. A descriptor is read and checked when it starts: one that fails ends FAILED with its
reason. A lane that is free takes the lowest unstarted problem of the oldest descriptor that has one; each step advances it,
and the last one writes its outputs, then its status word, and counts it. -/
def Obligations.Plumb : Prop :=
  (∀ (c t : Nat) (w : W64) (s : State), canIssue s c t w 4 true →
    let x := { slotAt s c t with st := .ready }
    let a := coreDie c
    let y := ctxGet s x.ctx
    let share := sget 0 (arrayGet s a).share (ctxPart x.ctx)
    let room := ((arrayGet s a).queue.filter fun d => !d.suspended).length < 32
    let q := y.issues % 2 ^ 24
    okCtl 1 w = true → iA w < 32 → iD w < 32 →
    (isOp w 5 8 none = true →
      (∀ e, share ≠ 0 → room → e < 32 → sfind y.tickets e = none → (∀ i, i < e → (sfind y.tickets i).isSome = true) →
        ∃ u : State, exec (.plbIssue c t w) s = .next u ∧ onlyS x (slotAt u c t) ∧
          wroteS x (slotAt u c t) (iD w) (BitVec.ofNat 64 (e + 256 * q)) ∧
          (arrayGet u a).queue = (arrayGet s a).queue ++ [⟨x.ctx, ctxPart x.ctx, e, q, (sRead x (iA w)).toNat, [], false, false, 0, 0, 0⟩] ∧
          sfind (ctxGet u x.ctx).tickets e = some ⟨q, 0, 0, 0⟩ ∧ (ctxGet u x.ctx).issues = (y.issues + 1) % 2 ^ 24 ∧
          u.uc = s.uc ∧ u.hbm = s.hbm) ∧
      (share ≠ 0 → (¬ room ∨ ((∀ e, e < 32 → (sfind y.tickets e).isSome = true) ∧ ∀ e ∈ y.tickets, ticketFinal e.2.st = false)) →
        ∃ u : State, exec (.plbIssue c t w) s = .next u ∧ slotAt u c t = { x with st := .waitMem } ∧ onlySlot s u c t) ∧
      (share = 0 → ∃ u : State, exec (.plbIssue c t w) s = .next u ∧ (slotAt u c t).stopped = true ∧ (slotAt u c t).pc = x.pc ∧
        ((slotAt u c t).exc.map fun r => (r.code, r.laneMask)) = some (0xB, 0xFFFFFFFF) ∧ (arrayGet u a).queue = (arrayGet s a).queue)) ∧
    (isOp w 5 9 none = true →
      let v := (sRead x (iA w)).toNat
      let known := sfind y.tickets (v % 32)
      ∃ u : State, ∃ n, exec (.plbPoll c t w) s = .next u ∧ onlySlot s u c t ∧ onlyS x (slotAt u c t) ∧ wroteS x (slotAt u c t) (iD w) n ∧
        (∀ k, known = some k → k.seq = v / 256 % 2 ^ 24 → n = BitVec.ofNat 64 (k.st + 256 * k.reason + 2 ^ 32 * k.done)) ∧
        ((known = none ∨ ∃ k, known = some k ∧ k.seq ≠ v / 256 % 2 ^ 24) → n = 15))) ∧
  (∀ (part : Nat) (lanes : List Nat) (s : State),
    ((partGet s part).st = .none → ∃ u : State, exec (.plbShare part lanes) s = .next u ∧ u.dict.result = (0x23, [1, 0]) ∧ onlyResult s u) ∧
    ((partGet s part).st ≠ .none → ∃ u : State, exec (.plbShare part lanes) s = .next u ∧ u.dict.result = (0, []) ∧
      ((∀ a, a < 4 → (arrayGet s a).queue = [] ∧ (arrayGet s a).problems = []) → ∀ a, a < 4 →
        plbShare u a part = min (lanes.getD a 0) (max (plbShare s a part) (64 - (plbShared s a - plbShare s a part))) ∧
        (∀ p, p ≠ part → plbShare u a p = plbShare s a p) ∧ u.uc = s.uc))) ∧
  (∀ (a i ext : Nat) (d : PlbDesc) (s : State), a < 4 → (arrayGet s a).queue[i]? = some d →
    let free := plbBusy s a d.part < plbShare s a d.part
    (d.started = true ∨ plbMayRun s a d = false ∨ ¬ free → exec (.plbDescStart a i ext) s = .next s) ∧
    (d.started = false → plbMayRun s a d = true → free →
      match ctxReadN d.ctx ext d.va 128 s with
      | (.inr e, u) => exec (.plbDescStart a i ext) s = .next (plbAbort a d e u)
      | (.inl (_, true), u) => exec (.plbDescStart a i ext) s = .next (plbAbort a d (.bus 4 d.va) u)
      | (.inl (b, false), u) =>
        let reason := plbReason d.va b
        (reason ≠ 0 → exec (.plbDescStart a i ext) s = .next (plbFailed a ext reason { d with bytes := b } u)) ∧
        (reason = 0 → ∃ v : State, exec (.plbDescStart a i ext) s = .next v ∧ v.uc = u.uc ∧
          (u.work = s.work → (∀ e ∈ (arrayGet s a).queue, e.ctx = d.ctx → e.seq = d.seq → e = d) →
            (arrayGet v a).queue[i]? = some { d with bytes := b, started := true } ∧
            ∀ k, sfind (ctxGet s d.ctx).tickets d.entry = some k → k.seq = d.seq →
              sfind (ctxGet v d.ctx).tickets d.entry = some { k with st := 1 })) ∧
        (field b 0 1 ∉ [1, 2, 3, 4, 0x10, 0x11] → reason = 1) ∧ (d.va % 128 ≠ 0 → reason ≠ 0) ∧
        (field b 0 1 ∈ [1, 2, 3, 4] → field b 8 2 = 0 ∨ 64 < field b 8 2 → reason = 2 ∨ reason = 3))) ∧
  (∀ (a lane ext : Nat) (q : PlbProblem) (d : PlbDesc) (s : State), a < 4 → lane < 64 →
    ((arrayGet s a).problems.find? fun q => q.lane == some lane) = some q →
    ((arrayGet s a).queue.find? fun d => d.ctx == q.ctx && d.seq == q.seq) = some d →
    let x := plbFields d.bytes
    let r := plbRun x q.input q.aux
    let result := if q.poisoned = true then 4 else r.result
    let outs := (r.out.map fun o => (x.outVa + x.outStride * q.problem + o.1, o.2, q.poisoned)) ++
      [(x.statusVa + 8 * q.problem, plbStatus result r.rank r.retries 0 0, false)]
    (plbMayRun s a d = false → exec (.plbStep a lane ext) s = .next s) ∧
    (plbMayRun s a d = true → q.step + 1 < plbSteps x q.input → ∃ u : State, exec (.plbStep a lane ext) s = .next u ∧
      ((arrayGet u a).problems.find? fun q => q.lane == some lane) = some { q with step := q.step + 1 } ∧
      (arrayGet u a).queue = (arrayGet s a).queue ∧ u.uc = s.uc ∧ u.work.ctxs = s.work.ctxs) ∧
    (plbMayRun s a d = true → plbSteps x q.input ≤ q.step + 1 →
      match plbWrites a d ext outs s with
      | (some e, u) => exec (.plbStep a lane ext) s = .next (plbAbort a d e u)
      | (none, u) => ∃ v, countsOne u v 0x2B04 1 64 ∧ (result = 1 → countsOne u v 0x2B04 2 64) ∧ (result = 2 → countsOne u v 0x2B04 3 64) ∧
          (∀ z ∈ (arrayGet v a).problems, ¬ (z.ctx = q.ctx ∧ z.seq = q.seq ∧ z.problem = q.problem)) ∧ v.uc = u.uc ∧
          let e := { d with doneProblems := d.doneProblems + 1, flagged := d.flagged + (if result = 0 then 0 else 1) }
          exec (.plbStep a lane ext) s = .next (if d.doneProblems + 1 = x.count then plbComplete a ext e v
            else modTicket e (fun k => { k with done := d.doneProblems + 1 }) v))) ∧
  (∀ (a lane ext : Nat) (d : PlbDesc) (s : State), a < 4 → lane < 64 → (∀ q ∈ (arrayGet s a).problems, q.lane ≠ some lane) →
    let idle := (arrayGet s a).queue = [d] ∧ (arrayGet s a).problems = []
    ((arrayGet s a).queue = [] → exec (.plbStep a lane ext) s = .next s) ∧
    (idle → d.started = true → plbMayRun s a d = true → d.nextProblem < (plbFields d.bytes).count →
      match readProblem d ext d.nextProblem s with
      | (.inr e, u) => exec (.plbStep a lane ext) s = .next (plbAbort a d e u)
      | (.inl (input, aux, p), u) => ∃ v : State, exec (.plbStep a lane ext) s = .next v ∧ v.uc = u.uc ∧
          (u.work = s.work → p = false → (arrayGet v a).queue = [{ d with nextProblem := d.nextProblem + 1 }] ∧
            (arrayGet v a).problems = [⟨some lane, d.part, d.ctx, d.seq, d.nextProblem, 0, input, aux, p⟩])) ∧
    (idle → d.started = true → plbMayRun s a d = true → (plbFields d.bytes).count ≤ d.nextProblem →
      exec (.plbStep a lane ext) s = .next s))

/-- R422, R458 to R465, R481, R485, R487: partitions and contexts are made, changed and ended. PART_CMD and CTX_CMD answer their first reason
and then change nothing; a partition made has its sections and is ACTIVE once they are; one resized has the mask, its sections
zeroed that came or went; one destroyed without contexts is gone with its shares and its VF, and one with contexts stops them first. A
context made is IDLE with its descriptor; one destroyed is gone, or stops first. Its priority and its partition's policy are as
set. Idle sections are retained. -/
def Obligations.PartitionsAndContexts : Prop :=
  (∀ (p : Nat) (mask : List Nat) (s : State), p < 64 →
    let l := (List.range 144).filter fun x => mask.contains x
    let x := partGet s p
    let taken := l.any fun y => match sectionPart s y with
      | some q => q != p
      | none => false
    let out := l.any fun y => isOut s (y / 36)
    let gone := x.sections.filter fun y => !l.contains y
    let added := l.filter fun y => !x.sections.contains y
    let cs := (partCtxs s p).map fun c => ctxGet s c
    let fails := fun (i : Instr) (n : Nat) => ∃ u : State, exec i s = .next u ∧ u.dict.result = (0x23, [BitVec.ofNat 8 n, 0]) ∧ onlyResult s u
    let create := if x.st != .none then 1 else if taken then 3 else if l.isEmpty then 4 else if out then 7 else 0
    let resize := if x.st == .none then 2 else if taken then 3 else if l.isEmpty then 4
      else if !gone.isEmpty && cs.any (fun c => c.launch.isSome || c.image != .none) then 5
      else if !added.isEmpty && cs.any (fun c => decide (c.desc.saveBytes < 65536 + 23756800 * l.length)) then 6
      else if out then 7 else 0
    (create ≠ 0 → fails (.partCreate p mask) create) ∧
    (create = 0 → ∃ u : State, exec (.partCreate p mask) s = .next u ∧ u.dict.result = (0, []) ∧
      partGet u p = { st := if l.all (fun y => s.ret.get y == .active) then .active else .changing, sections := l } ∧
      u.work.ctxs = s.work.ctxs ∧ u.cores = s.cores) ∧
    (resize ≠ 0 → fails (.partResize p mask) resize) ∧
    (resize = 0 → ∃ v : State, exec (.partResize p mask) s = .next (scheduleAll v) ∧ v.dict.result = (0, []) ∧ (partGet v p).sections = l ∧
      (∀ c a, coreSection c ∈ gone → memRead (coreGet v c).tile a = 0) ∧
      ∀ c ∈ partCtxs s p, ∀ k pl, sfind (ctxGet v c).plans k = some pl → ∀ y ∈ pl.sections, y ∈ l) ∧
    (x.st = .none → fails (.partDestroy p) 2) ∧
    (x.st ≠ .none → partCtxs s p = [] → ∃ u : State, exec (.partDestroy p) s = .next u ∧ u.dict.result = (0, []) ∧ partGet u p = {} ∧
      (∀ e ∈ u.host.vfMap, e.2.part ≠ p) ∧ (∀ a, plbShare u a p = 0) ∧ ∀ e ∈ u.hbm.res, e.1 / 4 ≠ p) ∧
    (x.st ≠ .none → (∃ c ∈ partCtxs s p, (ctxGet s c).st ≠ .faulted) → ∃ u : State, exec (.partDestroy p) s = .next u ∧
      u.dict.result = (0, []) ∧ partGet u p = { x with st := .changing, destroying := true } ∧
      ∀ c ∈ partCtxs s p, (ctxGet s c).st ≠ .faulted → (ctxGet s c).faulting = false →
        (ctxGet u c).st = .stopping ∧ (ctxGet u c).stop = some .urgent ∧ (ctxGet u c).fault.cause = 0xA) ∧
    (∀ policy sl pre gr re, policy < 3 → pre < 2 →
      (x.st = .none → fails (.partitionPolicy p policy sl pre gr re) 2) ∧
      (x.st ≠ .none → ∃ u : State, exec (.partitionPolicy p policy sl pre gr re) s = .next u ∧ u.dict.result = (0, []) ∧
        partGet u p = { x with policy := policy, sliceUs := sl, preempt := pre, tbGraceUs := gr, retainIdleUs := re } ∧
        u.work.ctxs = s.work.ctxs ∧ ∀ q, q ≠ p → partGet u q = partGet s q))) ∧
  (∀ (ctx : Nat) (d : List Byte) (s : State), ctx < 1024 →
    let x := ctxGet s ctx
    let p := ctxPart ctx
    let fails := fun (i : Instr) (n : Nat) => ∃ u : State, exec i s = .next u ∧ u.dict.result = (0x23, [BitVec.ofNat 8 n, 0]) ∧ onlyResult s u
    let create := if (partGet s p).st == .none then 1 else if x.st != .none then 3 else if descBad d then 5
      else if decide (field d 32 8 < 65536 + 23756800 * (partGet s p).sections.length) then 6
      else if winsOverlap (descWins s (ctxDesc d)) then 0x1D else if (descWins s (ctxDesc d)).any fun w => !w.ok then 0x1E else 0
    let known := (partGet s p).st ≠ .none ∧ x.st ≠ .none
    let stopped := fun (u : State) => (ctxGet u ctx).st = .stopping ∧ (ctxGet u ctx).stop = some .urgent ∧
      (ctxGet u ctx).faulting = true ∧ (ctxGet u ctx).fault.cause = 0xA ∧ (ctxGet u ctx).fault.source = 6 ∧
      (ctxGet u ctx).image = .none ∧ countsOne s u 0x2C04 5 64 ∧ countsOne s u 0x2C04 6 32
    (1 ≤ create → create ≤ 6 → fails (.ctxCreate ctx d) create) ∧
    (0x1D ≤ create → ∃ u : State, exec (.ctxCreate ctx d) s = .next u ∧ u.dict.result = (0x23, [BitVec.ofNat 8 create, 0]) ∧
      u.work.ctxs = s.work.ctxs ∧ ∃ r, sfind u.work.rejects p = some r ∧ r.source = 2 ∧ r.reason = create ∧ r.slot = 0xFF) ∧
    (create = 0 → ∃ u : State, exec (.ctxCreate ctx d) s = .next u ∧ u.dict.result = (0, []) ∧
      ctxGet u ctx = { st := .idle, desc := ctxDesc d, prio := field d 13 1 } ∧ (∀ c, c ≠ ctx → ctxGet u c = ctxGet s c) ∧
      u.work.parts = s.work.parts ∧ u.host = s.host) ∧
    (∀ i ∈ [Instr.ctxDestroy ctx, .urgentStop ctx, .ctxPreempt ctx, .setPriority ctx 0],
      ((partGet s p).st = .none → fails i 1) ∧ ((partGet s p).st ≠ .none → x.st = .none → fails i 4)) ∧
    (known → ctxHolds s ctx = true → x.st ≠ .faulted → x.faulting = false → ∃ u : State, exec (.ctxDestroy ctx) s = .next u ∧
      u.dict.result = (0, []) ∧ stopped u ∧ (ctxGet u ctx).destroying = true) ∧
    (known → ctxHolds s ctx = false → ∃ u : State, exec (.ctxDestroy ctx) s = .next u ∧ u.dict.result = (0, []) ∧ ctxGet u ctx = {} ∧
      ringGet u ctx = {} ∧ ∀ c, ∀ e ∈ (coreGet u c).xlat, e.ctx ≠ ctx) ∧
    (known → x.st ≠ .faulted → x.faulting = false → ∃ u : State, exec (.urgentStop ctx) s = .next u ∧ u.dict.result = (0, []) ∧ stopped u) ∧
    (known → ∀ n, n < 8 → ∃ u : State, exec (.setPriority ctx n) s = .next u ∧ u.dict.result = (0, []) ∧ ctxGet u ctx = { x with prio := n } ∧
      (∀ c, c ≠ ctx → ctxGet u c = ctxGet s c) ∧ u.cores = s.cores)) ∧
  (∀ (p : Nat) (s : State),
    let x := partGet s p
    let quiet := x.st = .active ∧ x.retainIdleUs ≠ 0 ∧
      (∀ c ∈ partCtxs s p, (ctxGet s c).st ≠ .ready ∧ (ctxGet s c).st ≠ .running ∧ (ctxGet s c).st ≠ .stopping) ∧
      ∀ y ∈ x.sections, s.ret.get y = .active ∧ sectionIdle s y = true
    (quiet → ∃ u : State, exec (.retainIdleExpiry p) s = .next u ∧ countsOne s u 0x2C04 8 64 ∧ (∀ y ∈ x.sections, u.ret.get y = .entering) ∧
      u.work = s.work) ∧
    (¬ quiet → exec (.retainIdleExpiry p) s = .next s))

/-- R467 to R475, R478, R481, R482, R484: switching. A preemption counts, and stops the context as its partition's mode says, a context without a
running kernel only itself; one of a context that does not run, or that stops already, changes nothing. A slice that ends preempts
where another may run. A tile-level stop whose grace has passed becomes an instruction-level one. A save
leaves the context READY with its image, and a restore RUNNING without one. The first fault of a context writes its record, halts its
ring and stops it urgently; a later one is only counted; and the stop ends with the context FAULTED, its launch gone. -/
def Obligations.SwitchingAndFaults : Prop :=
  (∀ (c : Nat) (s : State),
    let x := ctxGet s c
    let instr := (partGet s (ctxPart c)).preempt = 1
    let kernel := (x.launch.map (·.running)).getD false = true
    let kind : StopKind := if ¬ kernel then .contextOnly else if instr then .instruction else .tile
    (x.st ≠ .running ∨ x.stop.isSome = true → preempt c s = s) ∧
    (x.st = .running → x.stop = none → ∃ v, ctxGet v c = { x with st := .stopping, stop := some kind } ∧
      (if instr then countsOne s v 0x2C04 3 64 else countsOne s v 0x2C04 2 64) ∧ (∀ d, d ≠ c → ctxGet v d = ctxGet s d) ∧
      v.cores = s.cores ∧ v.host = s.host ∧
      preempt c s = (if kind = .tile then v else if kind = .instruction then plbSuspend c (stopCores c v) else plbSuspend c v)) ∧
    (c < 1024 → (partGet s (ctxPart c)).st ≠ .none → x.st ≠ .none →
      exec (.ctxPreempt c) s = .next (finish 0 [] (preempt c s))) ∧
    (x.stop = some .tile → ∃ v : State, exec (.tbGraceExpiry c) s = .next (plbSuspend c (stopCores c v)) ∧
      ctxGet v c = { x with stop := some .instruction } ∧ countsOne s v 0x2C04 4 64) ∧
    (x.stop ≠ some .tile → exec (.tbGraceExpiry c) s = .next s)) ∧
  (∀ (p : Nat) (s : State),
    let x := partGet s p
    (x.running = none → exec (.sliceExpiry p) s = .next s) ∧
    (∀ c, x.running = some c →
      (x.policy = 0 → (∃ d, d / 16 = p ∧ (ctxGet s d).st = .ready) → exec (.sliceExpiry p) s = .next (preempt c s)) ∧
      (x.policy = 1 → (∃ d, d / 16 = p ∧ (ctxGet s d).st = .ready ∧ (ctxGet s c).prio ≤ (ctxGet s d).prio) →
        exec (.sliceExpiry p) s = .next (preempt c s)) ∧
      ((∀ d, d / 16 = p → (ctxGet s d).st ≠ .ready) ∨ (x.policy ≠ 0 ∧ x.policy ≠ 1) → exec (.sliceExpiry p) s = .next s))) ∧
  (∀ (c : Nat) (s : State),
    let x := ctxGet s c
    let p := ctxPart c
    let kind := imageKind x.stop
    let t := flushL1s p (if kind = .tile then plbSuspend c s else s)
    let stops := x.st = .stopping ∧ ctxHolds s c = true ∧ saveReady s c = true
    (¬ stops → exec (.saveComplete c) s = .next s) ∧
    (stops →
      match saveError t (saveSectors (ctxGet t c).desc (coresOf t p).length kind) with
      | some e => exec (.saveComplete c) s = .next (saveFault c e.2 t)
      | none => ∃ v : State, exec (.saveComplete c) s = .next (leave c v) ∧ (ctxGet v c).st = .ready ∧ (ctxGet v c).stop = none ∧
          (ctxGet v c).image = kind) ∧
    (let l := saveSectors x.desc (coresOf s p).length x.image
     let ready := x.restoring = true ∧ x.st = .ready ∧ ctxHolds s c = true ∧ sectionsActive s p = true ∧
       ((x.launch.map (·.running)).getD false = true → (schedGet s c).running = true)
     (¬ ready → exec (.restoreComplete c) s = .next s) ∧
     (∀ e, ready → saveError s l = some e → exec (.restoreComplete c) s = .next (saveFault c e.2 s)) ∧
     (ready → saveError s l = none → (∀ a ∈ l, localPoison s a 64 = false) →
       ∃ v : State, exec (.restoreComplete c) s = .next (idleCheck c (ringGo c v)) ∧
         ((∀ a, a < 4 → (arrayGet s a).queue = []) →
           ctxGet v c = { x with st := .running, image := .none, saved := [], savedInj := [], restoring := false } ∧
           ∀ k n, (slotAt s k n).ctx = c → (slotAt s k n).exc = none → (sfind (coreGet s k).slots n).isSome = true →
             (slotAt v k n).stopped = false)))) ∧
  (∀ (c cause code core slot source address pc : Nat) (s : State), 1 ≤ cause → cause ≤ 0xB → source ≤ 7 →
    let x := ctxGet s c
    let i := Instr.contextFault c cause code core slot source address pc
    (x.st = .none → exec i s = .next s) ∧
    (x.st ≠ .none → (x.st = .faulted ∨ x.faulting = true) → ∃ u : State, exec i s = .next u ∧
      ctxGet u c = { x with fault := { x.fault with suppressed := min (x.fault.suppressed + 1) 65535 } } ∧ u.host = s.host ∧
      u.cores = s.cores) ∧
    (x.st ≠ .none → x.st ≠ .faulted → x.faulting = false → ∃ u : State, exec i s = .next u ∧
      ctxGet u c = { x with
        st := .stopping
        stop := some .urgent
        faulting := true
        image := .none
        restoring := false
        fault := { cause := cause, code := code % 256, core := core % 65536, slot := slot % 256, source := source, suppressed := 0,
                   address := address, timeNs := time s, pc := pc, valid := true } } ∧
      countsOne s u 0x2C04 5 64 ∧ countsOne s u 0x2C04 6 32 ∧ ((ringGet s c).st = .enabled → (ringGet s c).disabling = false → (ringGet u c).st = .halted) ∧
      (∀ k n, (slotAt s k n).ctx = c → (sfind (coreGet s k).slots n).isSome = true → (slotAt u k n).stopped = true) ∧
      u.uc = s.uc ∧ u.hbm = s.hbm)) ∧
  (∀ (c : Nat) (s : State),
    ((ctxGet s c).stop ≠ some .urgent → exec (.urgentStopComplete c) s = .next s) ∧
    ((ctxGet s c).stop = some .urgent → ∃ v : State, exec (.urgentStopComplete c) s = .next (schedule (ctxPart c) (destroyStep (ctxPart c) v)) ∧
      ((ctxGet v c).st = .faulted ∨ (ctxGet v c).st = .none) ∧ (ctxGet v c).launch = none ∧ (ctxGet v c).image = .none ∧
      (ctxHolds s c = true → (partGet v (ctxPart c)).running = none)))

/-- R490 to R492, R496, R497, R500 to R504: what Askar measures and logs. A sample sets the readings of its sensors, and one that is not valid
is counted; the power samples enter the reports of the device, the rails and the partitions; records that wait for flash are copied
in order; a read of LOG_RECORDS gives up to 16 records from where the session asks; a notice that is due is given once; and
the fan's duty follows the hottest sensor while Askar serves.

R491: a report's averages are those of its last samples, and each peak is at least the present average of its window (whose
samples are 10 µs apart). -/
def Obligations.AskarMeasures : Prop :=
  (
    (∀ (s : State),
      (∀ i t, ∃ u : State, exec (.sensorSample .thermal i [some t]) s = .next u ∧ sfind u.askar.temps i = some t ∧
        (∀ j, j ≠ i → sfind u.askar.temps j = sfind s.askar.temps j) ∧ u.askar.volts = s.askar.volts ∧ u.cores = s.cores) ∧
      (∀ i, ∃ u : State, exec (.sensorSample .thermal i [none]) s = .next u ∧ sfind u.askar.temps i = none ∧ countsOne s u 0x2D08 4 32 ∧
        ∀ j, j ≠ i → sfind u.askar.temps j = sfind s.askar.temps j) ∧
      (∀ i v, 0 ≤ v → ∃ u : State, exec (.sensorSample .voltage i [some v]) s = .next u ∧ sfind u.askar.volts i = some v.toNat ∧
        u.askar.temps = s.askar.temps ∧ u.askar.currs = s.askar.currs ∧ u.dict = s.dict) ∧
      (∀ i v, 0 ≤ v → ∃ u : State, exec (.sensorSample .current i [some v]) s = .next u ∧ sfind u.askar.currs i = some v.toNat ∧
        u.askar.temps = s.askar.temps ∧ u.askar.volts = s.askar.volts ∧ u.dict = s.dict) ∧
      (∀ i, ∃ u : State, exec (.sensorSample .current i [none]) s = .next u ∧ sfind u.askar.currs i = none ∧
        (s.part.variant = .qx4 → i = 175 → u.dict = s.dict) ∧ (s.part.variant ≠ .qx4 ∨ i ≠ 175 → countsOne s u 0x2D08 4 32)) ∧
      (∀ ent rails secs, ∃ u : State, exec (.powerSample ent rails secs) s = .next u ∧ u.uc.reqCount = [] ∧ u.uc.slices = s.uc.slices ∧
        u.cores = s.cores ∧ u.askar.temps = s.askar.temps ∧
        (∀ i, i < ent.length → sget {} u.askar.pwr i = pushSample (ent.getD i 0) (sget {} s.askar.pwr i)) ∧
        (∀ i, ent.length ≤ i → sget {} u.askar.pwr i = sget {} s.askar.pwr i) ∧
        (∀ i, i < rails.length → sget {} u.askar.pwrRail i = pushSample (rails.getD i 0) (sget {} s.askar.pwrRail i)) ∧
        ∀ p, p < 64 → s.uc.reqCount = [] → sget {} u.askar.pwrPart p =
          pushSample ((partGet s p).sections.map fun k => secs.getD k 0).sum (sget {} s.askar.pwrPart p)) ∧
      (∃ u : State, exec .logPersist s = .next u ∧ u.askar.toFlash = [] ∧ u.askar.log = s.askar.log ∧
        (s.askar.flash.length + s.askar.toFlash.length ≤ 521216 → u.askar.flash = s.askar.flash ++ s.askar.toFlash) ∧
        (s.askar.flash.length ≤ 521216 → u.askar.flash.length ≤ 521216)) ∧
      (∀ n x, findSession s n = some x → ∃ u : State, ∃ l, exec (.logRecords n) s = .next u ∧ u.dict.result = (0, (l.map logBytes).flatten) ∧
        l.length ≤ 16 ∧ onlyResult s u ∧ (x.logSource ≠ 0 → l = (s.askar.flash.drop x.logFrom).take 16) ∧
        (x.logSource = 0 → ∀ a r b, s.askar.log = a ++ r :: b → r.seq = x.logFrom → (∀ q ∈ a, q.seq ≠ x.logFrom) →
          l = (r :: b).take 16)) ∧
      (∀ n, findSession s n = none → ∃ u : State, exec (.logRecords n) s = .next u ∧ u.dict.result = (0x17, []) ∧ onlyResult s u) ∧
      (∀ id, (wmGet s id).due = false → exec (.wmNotice id) s = .next s) ∧
      (∀ id, (wmGet s id).due = true → ∃ u : State, exec (.wmNotice id) s = .next u ∧
        wmGet u id = { wmGet s id with due := false, lastNotice := some (time s) } ∧ u.cores = s.cores) ∧
      (s.askar.run ≠ .serving → exec .fanUpdate s = .next s) ∧
      (∀ t, s.askar.run = .serving → hottest s = some t →
        let low := num s 0x2D2C 2 600
        let high := num s 0x2D2C 3 900
        let duty := num s 0x2D2C 4 3000
        ∃ u : State, exec .fanUpdate s = .next u ∧ { u with askar := { u.askar with fanDuty := s.askar.fanDuty } } = s ∧
          (t ≤ low → u.askar.fanDuty = duty) ∧ (low < t → (high : Int) ≤ t → u.askar.fanDuty = 10000) ∧
          (low < t → t < high → duty ≤ 10000 → duty ≤ u.askar.fanDuty ∧ u.askar.fanDuty ≤ 10000 ∧
            u.askar.fanDuty = duty + (10000 - duty) * (t - low).toNat / (high - low))) ∧
      (s.askar.run = .serving → hottest s = none → ∃ u : State, exec .fanUpdate s = .next u ∧ u.askar.fanDuty ≤ 10000 ∧ u.dict = s.dict))) ∧
  (
    ∀ (v : Nat) (e : PwrEntity),
      let l := v :: e.samples
      let r := (pushSample v e).report
      e.samples.length < 6100000 →
      (pushSample v e).samples = l ∧ r.avg1ms = (l.take 100).sum / (l.take 100).length ∧
        r.avg1s = (l.take 100000).sum / (l.take 100000).length ∧ r.avg60s = (l.take 6000000).sum / (l.take 6000000).length ∧
        (∀ w, (w = 10 → (l.take w).sum / (l.take w).length ≤ r.peak100us) ∧ (w = 100 → (l.take w).sum / (l.take w).length ≤ r.peak1ms) ∧
          (w = 1000 → (l.take w).sum / (l.take w).length ≤ r.peak10ms) ∧ (w = 100000 → (l.take w).sum / (l.take w).length ≤ r.peak1s)) ∧
        ∀ w, w = 10 → w ≤ l.length → ∃ i, i + w ≤ l.length ∧ r.peak100us = ((l.drop i).take w).sum / w)

/-- R69, R496, R503, R507 to R511, R580: firmware and Askar's restarts. A segment that continues the staged bytes is added, one that does not discards
them; verify judges the staged image, activate restarts Askar into it as a trial, commit makes it active and raises the
rollback counter, and a trial that is aborted, times out or meets the watchdog goes back to the previous slot with
TRIAL_FAILED. Each command answers STATE_CONFLICT in another state. Each restart is counted with its cause; the third by
watchdog within 60 s boots the other slot, and three more lead to recovery. When Askar serves again the hardware event queue is
moved to the log.

R505, R507, R514, R520, R551: ASKAR_BOOT boots the active slot's image where it is valid, else the other's, and start-up goes on to
POWER_UP; a key record that no longer verifies is treated as absent. With flash that is not supported, in DECOMMISSIONED or with no valid image
start-up ends in FAILED with its reason. -/
def Obligations.FirmwareAndRestarts : Prop :=
  (
    ∀ (s : State),
      let f := s.askar.fw
      let other := 1 - f.active
      let img := fwSlot f other
      let fw := fun (i : Instr) (st : FwState) => ∃ u : State, exec i s = .next u ∧ u.dict.result = (0, []) ∧ u.askar.fw.st = st ∧
        u.askar.fw.active = f.active ∧ u.askar.fw.rollback = f.rollback ∧ fwSlot u.askar.fw f.active = fwSlot f f.active ∧ u.cores = s.cores ∧ u.uc = s.uc
      let failsWith := fun (i : Instr) (n : Nat) => ∃ u : State, exec i s = .next u ∧ u.dict.result = (0x23, [BitVec.ofNat 8 n, 0]) ∧
        u.askar.fw = { f with reason := n } ∧ u.cores = s.cores
      let stopsFor := fun (u : State) (cause : Nat) (run : AskarRun) => u.askar.run = run ∧ u.askar.lastRestart = cause ∧
        countsOne s u 0x2D00 3 32 ∧ u.askar.alerts.testBit 5 = true ∧ u.askar.timeNs = s.askar.timeNs ∧ u.cores = s.cores
      let trialOver := fun (i : Instr) => ∃ u : State, exec i s = .next u ∧ stopsFor u 4 .updating ∧ u.askar.fw.st = .idle ∧
        u.askar.fw.running = f.active ∧ u.askar.fw.reason = 4 ∧ u.askar.alerts.testBit 4 = true
      f.active < 2 →
      (∀ off d last, f.st = .trial → ∃ u : State, exec (.fwImage off d last) s = .next u ∧ u.dict.result = (0x19, []) ∧ onlyResult s u) ∧
      (∀ off d last, f.st ≠ .trial →
        let cur := if off = 0 then [] else img
        (off ≠ cur.length → ∃ u : State, exec (.fwImage off d last) s = .next u ∧ u.dict.result = (0x1A, []) ∧ u.askar.fw.st = .idle ∧
          fwSlot u.askar.fw other = [] ∧ fwSlot u.askar.fw f.active = fwSlot f f.active) ∧
        (off = cur.length → off + d.length ≤ 16777216 → fw (.fwImage off d last) (if last = true then .staged else .idle) ∧
          ∃ u : State, exec (.fwImage off d last) s = .next u ∧ fwSlot u.askar.fw other = cur ++ d)) ∧
      (f.st ≠ .staged → failsWith .fwVerify 5) ∧
      (f.st = .staged → (imageReason s.part f.rollback img = 0 → fw .fwVerify .verified) ∧
        (∀ n, imageReason s.part f.rollback img = n → n ≠ 0 → failsWith .fwVerify n)) ∧
      (f.st ≠ .verified → failsWith .fwActivate 5) ∧
      (f.st = .verified → ∃ u : State, exec .fwActivate s = .next u ∧ u.dict.result = (0, []) ∧ stopsFor u 2 .updating ∧ u.askar.fw.st = .trial ∧
        u.askar.fw.running = other ∧ u.askar.fw.active = f.active) ∧
      (f.st ≠ .trial → failsWith .fwCommit 5 ∧ exec .fwTrialTimeout s = .next s) ∧
      (f.st = .trial → ∃ u : State, exec .fwCommit s = .next u ∧ u.dict.result = (0, []) ∧ u.askar.fw.st = .idle ∧ u.askar.fw.active = f.running ∧
        u.askar.fw.rollback = max f.rollback (field (fwSlot f f.running) 7 1)) ∧
      (f.st = .idle → failsWith .fwAbort 5) ∧
      (f.st = .staged ∨ f.st = .verified → fw .fwAbort .idle ∧ ∃ u : State, exec .fwAbort s = .next u ∧ fwSlot u.askar.fw other = []) ∧
      (f.st = .trial → trialOver .fwAbort ∧ trialOver .fwTrialTimeout ∧ trialOver .watchdog) ∧
      (let recent := (time s :: s.askar.watchdogs).filter fun t => decide (time s < t + 60000000000)
       f.st ≠ .trial →
        (recent.length < 3 → ∃ u : State, exec .watchdog s = .next u ∧ stopsFor u 1 .restarting ∧ u.askar.fw = f ∧ u.askar.watchdogs = recent) ∧
        (3 ≤ recent.length → s.askar.otherTried = false → ∃ u : State, exec .watchdog s = .next u ∧ stopsFor u 1 .restarting ∧
          u.askar.fw.running = 1 - f.running ∧ u.askar.otherTried = true) ∧
        (3 ≤ recent.length → s.askar.otherTried = true → ∃ u : State, exec .watchdog s = .next u ∧ u.askar.run = .recovery ∧
          u.power.ready = .failed)) ∧
      (∃ u : State, exec .askarRestart s = .next u ∧ u.dict.result = (0, []) ∧ stopsFor u 3 .restarting ∧ u.askar.fw = f) ∧
      (readyCode s.power.ready ≤ 1 → exec .askarOnlyReset s = .next s) ∧
      (2 ≤ readyCode s.power.ready → ∃ u : State, exec .askarOnlyReset s = .next u ∧ stopsFor u 5 .restarting ∧ u.askar.fw = f) ∧
      (s.askar.run = .serving ∨ s.askar.run = .recovery → exec .askarServing s = .next s) ∧
      (s.askar.run = .restarting ∨ s.askar.run = .updating → ∃ u : State, exec .askarServing s = .next u ∧ u.askar.run = .serving ∧
        u.askar.hwQueue = [] ∧ (s.askar.log.length + s.askar.hwQueue.length ≤ 4096 →
          u.askar.log.map (fun r => (r.time, r.body)) = s.askar.log.map (fun r => (r.time, r.body)) ++ s.askar.hwQueue))) ∧
  (
    ∀ (s : State),
      let f := s.askar.fw
      let valid := fun k => imageReason s.part f.rollback (fwSlot f k) = 0
      let boots := fun k => ∃ u : State, exec .askarBoot s = .next u ∧ u.power.ready = .powerUp ∧ u.power.readyReason = 0 ∧ u.askar.run = .serving ∧
        u.askar.fw.running = k ∧ u.askar.fw.active = f.active ∧ u.askar.fw.st = .idle ∧
        u.askar.sec.owner = s.askar.sec.owner.filter (ownerRecOk s.part) ∧
        u.askar.sec.expert = s.askar.sec.expert.filter (expertRecOk u.askar.sec.owner) ∧ u.cores = s.cores
      let fails := fun n => ∃ u : State, exec .askarBoot s = .next u ∧ u.power.ready = .failed ∧ u.power.readyReason = n ∧ u.cores = s.cores
      (s.power.ready ≠ .askarBoot → exec .askarBoot s = .next s) ∧
      (s.power.ready = .askarBoot →
        (f.flashOk = false → fails 2) ∧
        (f.flashOk = true → s.askar.sec.lc = .decommissioned → fails 3) ∧
        (f.flashOk = true → s.askar.sec.lc ≠ .decommissioned →
          (valid f.active → boots f.active) ∧ (¬ valid f.active → valid (1 - f.active) → boots (1 - f.active)) ∧
          (¬ valid f.active → ¬ valid (1 - f.active) → fails 1 ∧ ∃ u : State, exec .askarBoot s = .next u ∧ u.askar.run = .recovery))))

/-- R514 to R520: signed provisioning. A record that Askar accepts is bound to this device, to the object and to the unused nonce of the
last 60 s, its fields fit, its signature verifies under the key of its SIGNER, and that role may sign it. An accepted record uses
up the nonce and installs the key, writes the sealed slot or makes the life-cycle transition; one that is not accepted
answers AUTH_FAILED and changes nothing. -/
def Obligations.SignedRecords : Prop :=
  (∀ (s : State) (r p : List Byte) (kind idx sub : Nat), provCheck s r kind idx sub = some p →
    field r 0 4 = 0x56525050 ∧ field r 4 2 = 1 ∧ field r 6 1 = kind ∧ field r 8 8 = s.part.serial ∧ field r 48 2 = idx ∧ field r 50 1 = sub ∧
    r.length = 288 + field r 52 4 ∧ field r 52 4 ≤ 16384 ∧
    (∃ n, s.askar.sec.nonce = some n ∧ n.used = false ∧ time s < n.issuedAt + 60000000000 ∧ slice r 16 32 = n.value) ∧
    (field r 7 1 = 0 → Config.rootVerify s.part.rootHash (Config.sha384 (signedPart r)) (signatureOf r) = true) ∧
    (field r 7 1 = 1 → ∃ k, s.askar.sec.owner = some k ∧ Config.ecdsaVerify (recordKey k) (Config.sha384 (signedPart r)) (signatureOf r) = true) ∧
    (field r 7 1 = 2 → ∃ k, s.askar.sec.expert = some k ∧ Config.ecdsaVerify (recordKey k) (Config.sha384 (signedPart r)) (signatureOf r) = true) ∧
    field r 7 1 ≤ 2 ∧
    (kind = 1 → field r 7 1 = 1 ∧ s.askar.sec.lc ≠ .decommissioned) ∧
    (kind = 4 → field r 7 1 = 1 ∧ s.askar.sec.lc = .deployed ∧ 1 ≤ field r 56 4 ∧ field r 56 4 ≤ 604800) ∧
    (kind = 3 → field r 7 1 ≤ 1 ∧ (field r 7 1 = 0 → s.askar.sec.lc = .blank ∨ s.askar.sec.lc = .provisioned ∨ s.askar.sec.lc = .rma) ∧
      (field r 7 1 = 1 → s.askar.sec.lc ≠ .decommissioned)) ∧
    (field r 51 1 = 0 → p = slice r 192 (field r 52 4))) ∧
  (∀ (s : State) (r : List Byte),
    let c := s.askar.sec
    let denied := fun (u : State) => u.dict.result = (0x24, []) ∧ onlyResult s u
    let used := fun (u : State) => u.askar.sec.nonce = c.nonce.map fun n => { n with used := true }
    (∃ u : State, ∃ v, exec .provNonce s = .next u ∧ u.dict.result = (0, v) ∧ v.length = 32 ∧
      u.askar.sec = { c with nonce := some { value := v, issuedAt := time s, used := false } } ∧ u.freeCtr = s.freeCtr + 1 ∧ u.cores = s.cores) ∧
    (∃ u : State, exec (.keyUpdate r) s = .next u ∧ match provCheck s r 3 0x2E03 3 with
      | none => denied u
      | some p => (p.length ≠ 96 → denied u) ∧ (p.length = 96 → u.dict.result = (0, []) ∧ used u ∧
          u.askar.sec.owner = (if field r 7 1 = 0 then some r else c.owner) ∧
          u.askar.sec.expert = (if field r 7 1 = 0 then c.expert else some r) ∧
          u.askar.sec.sealed = c.sealed ∧ u.askar.sec.lc = c.lc ∧ u.cores = s.cores)) ∧
    (∀ k, ∃ u : State, exec (.sealWrite k r) s = .next u ∧ match provCheck s r 1 0x2E04 (k + 1) with
      | none => denied u
      | some p => u.dict.result = (0, []) ∧ used u ∧ sfind u.askar.sec.sealed k = (if p = [] then none else some p) ∧
          (∀ j, j ≠ k → sfind u.askar.sec.sealed j = sfind c.sealed j) ∧ u.askar.sec.owner = c.owner ∧ u.askar.sec.lc = c.lc ∧
          u.cores = s.cores) ∧
    (∃ u : State, exec (.lcRequest r) s = .next u ∧ match provCheck s r 2 0x2E02 1 with
      | none => denied u
      | some p => ∀ t, p = leBytes 1 (lcCode t) →
          (lcSigners c.lc t = [] → u.dict.result = (0x23, leBytes 2 1) ∧ onlyResult s u) ∧
          (lcSigners c.lc t ≠ [] → c.entriesLeft ≤ 1 → t ≠ .decommissioned → u.dict.result = (0x23, leBytes 2 2) ∧ onlyResult s u) ∧
          (lcSigners c.lc t ≠ [] → 1 < c.entriesLeft ∨ t = .decommissioned → u.dict.result = (0, []) ∧ used u ∧
            u.askar.sec.lc = t ∧ u.askar.sec.entriesLeft = c.entriesLeft - 1 ∧ u.askar.sec.sealed = [] ∧ u.dict.sessions = [] ∧
            u.carrak.craze = none ∧ u.carrak.crazeGrant = none ∧ u.askar.sec.owner = c.owner ∧ u.askar.sec.tamperCount = c.tamperCount ∧
            (t ≠ .decommissioned → u.cores = s.cores ∧ u.work = s.work) ∧
            (c.lc = .blank ∨ c.lc = .rma → num u 0x6E00 1 0 = 0)))) ∧
  ∀ a b, lcSigners a b ≠ [] ↔
    (a, b) ∈ [(LcState.blank, LcState.provisioned), (.provisioned, .deployed), (.deployed, .service), (.service, .deployed), (.deployed, .rma),
      (.service, .rma), (.rma, .provisioned)] ∨ (b = .decommissioned ∧ a ≠ .decommissioned)

/-- R521, R522, R581: tamper. An armed source wipes the sealed region and the Craze grant, sets its latch and counts; TAMPER_ACTION 1 also
stops compute. Masked sources do nothing. The open lid is source 3.

R524: attestation. A 32-byte challenge starts a report; the report repeats it beside the serial number, the life-cycle state, the
rollback counter, the tamper count and FEATURE_SET, and carries a signature of 96 bytes. -/
def Obligations.TamperAndAttestation : Prop :=
  (
    ∀ (s : State) (m : Nat), m < 16 →
      let armed := (List.range 4).filter fun b => m.testBit b && !(num s 0x6E00 1 0).testBit b
      (armed = [] → exec (.tamperEvent m) s = .next s) ∧
      (armed ≠ [] → ∃ u : State, exec (.tamperEvent m) s = .next u ∧ u.askar.sec.sealed = [] ∧ u.carrak.crazeGrant = none ∧
        u.askar.sec.tamperCount = min (s.askar.sec.tamperCount + armed.length) (2 ^ 32 - 1) ∧
        (∀ b, u.askar.sec.tamperLatch.testBit b = (s.askar.sec.tamperLatch.testBit b || decide (b ∈ armed))) ∧
        u.askar.alerts.testBit 1 = true ∧ u.askar.sec.lc = s.askar.sec.lc ∧ u.askar.sec.owner = s.askar.sec.owner ∧
        (num s 0x6E00 2 0 = 1 → u.askar.sec.tamperStop = true ∧
          ∀ c, (ctxGet s c).st ≠ .none → (ctxGet s c).st ≠ .faulted → (ctxGet s c).faulting = false → s.work.ctxs.any (·.1 == c) = true →
            (ctxGet u c).fault.cause = 0xA ∧ (ctxGet u c).fault.valid = true) ∧
        (num s 0x6E00 2 0 ≠ 1 → u.cores = s.cores ∧ u.work = s.work ∧ u.askar.sec.tamperStop = s.askar.sec.tamperStop)) ∧
      exec .tamperLoopOpen s = exec (.tamperEvent 8) s) ∧
  (
    ∀ (s : State) (c : List Byte),
      let x := s.askar.sec
      let replies := fun n => ∃ u : State, exec (.attestNonce c) s = .next u ∧ u.dict.result = (n, []) ∧ onlyResult s u
      (x.lc = .decommissioned → replies 0x12) ∧
      (x.lc ≠ .decommissioned → c.length ≠ 32 → replies 0x15) ∧
      (x.lc ≠ .decommissioned → c.length = 32 → x.attestBusy = true → replies 0x19) ∧
      (x.lc ≠ .decommissioned → c.length = 32 → x.attestBusy = false → ∃ u : State, exec (.attestNonce c) s = .next u ∧ u.dict.result = (0, []) ∧
        u.askar.sec = { x with challenge := c, attestBusy := true } ∧ u.cores = s.cores) ∧
      (x.attestBusy = false → exec .attestReport s = .next s) ∧
      (x.attestBusy = true → x.challenge.length = 32 → ∃ u : State, exec .attestReport s = .next u ∧ u.askar.sec.attestBusy = false ∧
        u.askar.sec.report.length = 928 ∧ u.askar.sec.report.take 32 = x.challenge ∧
        (s.part.serial < 2 ^ 64 → field u.askar.sec.report 32 8 = s.part.serial) ∧
        field u.askar.sec.report 40 1 = lcCode x.lc ∧ (x.tamperCount < 2 ^ 32 → field u.askar.sec.report 44 4 = x.tamperCount) ∧
        { u with askar := { u.askar with sec := x } } = s))

/-- R527, R528: rails. A rail that had come into range and is judged out of range reads FAULT, with the effect of its row: C-die n,
stack pair n, the whole device, or the host link and the ports. A rail that comes back into range reads IN_RANGE, and nothing else changes.
(A B-die that is lost already stays lost.)

R530 to R533: domains. The lowest domain that waits on a rail in range starts its ramp where none is in progress and no short is being
detected; when its ramp is done it is ON, or with its whole C-die is gated off where the C-die is out of service. Detection pauses
every ramp on its rail, and a false alarm lets them go on.

R531 to R534: a domain that does not come up in time is LATCHED_SLOW, one whose short is confirmed LATCHED_SHORT. Each latch counts
and takes its unit out of service. DOMAIN_CLEAR queues a latched domain again, and fails with NOT_LATCHED on another and with NO_DOMAIN where
the part has none. -/
def Obligations.RailsAndDomains : Prop :=
  (
    ∀ (s : State) (r : Nat), r < 16 →
      (∃ u : State, exec (.railInRange r) s = .next u ∧ railGet u r = .inRange ∧ (∀ q, q ≠ r → railGet u q = railGet s q) ∧
        { u with power := { u.power with rails := s.power.rails } } = s) ∧
      (railGet s r ≠ .inRange → exec (.railOutOfRange r) s = .next s) ∧
      (railGet s r = .inRange → ∃ u : State, exec (.railOutOfRange r) s = .next u ∧ railGet u r = .fault ∧
        (∀ q, q ≠ r → railGet u q = railGet s q) ∧
        (r < 8 → isOut u (r % 4) = true) ∧
        (8 ≤ r → r < 12 → s.helda.lost.contains (r - 8) = false → isOut u (r - 8) = true ∧ isOut u (r - 4) = true ∧
          u.helda.lost.contains (r - 8) = true) ∧
        (12 ≤ r → r < 15 → u.power.ready = .failed ∧ (s.power.ready ≠ .failed → u.power.readyReason = 4) ∧ u.power.oos = s.power.oos ∧
          u.power.pins.pwrGood = (s.power.pins.pwrGood && r == 14) ∧ u.cores = s.cores ∧ u.work = s.work) ∧
        (r = 15 → u.host.linkUp = false ∧ (s.host.linkUp = false → ∀ p, p < 24 →
          (portGet s p).st = .training ∨ (portGet s p).st = .hello ∨ (portGet s p).st = .active ∨ (portGet s p).st = .retrain →
          (portGet u p).st = .down ∧ (portGet u p).reason = 1)))) ∧
  (
    ∀ (s : State) (r d : Nat), r < 16 → domExists s d = true →
      let l := railDomains s r
      let same := fun (u : State) (x : Nat) => domGet u x = domGet s x
      ((∃ x ∈ l, inRamp (domGet s x) = true ∨ (domGet s x).detecting = true) ∨ railGet s r ≠ .inRange ∨ (∀ x ∈ l, (domGet s x).st ≠ .queued) →
        exec (.rampStart r) s = .next s) ∧
      (∀ x, (∀ y ∈ l, inRamp (domGet s y) = false ∧ (domGet s y).detecting = false) → railGet s r = .inRange → x ∈ l →
        (domGet s x).st = .queued → (∀ y ∈ l, (domGet s y).st = .queued → x ≤ y) →
        ∃ u : State, exec (.rampStart r) s = .next u ∧ domGet u x = { st := .ramping } ∧ (∀ y, y ≠ x → same u y) ∧
          { u with power := { u.power with domains := s.power.domains } } = s) ∧
      ((domGet s d).st ≠ .ramping → exec (.rampDone d) s = .next s ∧ exec (.latchedSlow d) s = .next s) ∧
      ((domGet s d).st = .ramping → ∃ u : State, exec (.rampDone d) s = .next u ∧
        { u with power := { u.power with domains := s.power.domains } } = s ∧
        ((domGet s d).gateAfter = false → domGet u d = { domGet s d with st := .on } ∧ ∀ x, x ≠ d → same u x) ∧
        ((domGet s d).gateAfter = true → d < 144 → ∀ i, i < 36 →
          let x := 36 * (d / 36) + i
          (x = d ∨ latched s x = false → domGet u x = {}) ∧ (x ≠ d → latched s x = true → same u x))) ∧
      ((domGet s d).st ≠ .on → inRamp (domGet s d) = false → exec (.shortDetect d) s = .next s) ∧
      ((domGet s d).st = .on ∨ inRamp (domGet s d) = true → ∃ u : State, exec (.shortDetect d) s = .next u ∧ (domGet u d).detecting = true ∧
        (∀ x, x ∈ railDomains s (rampRail d) → (domGet u x).st = if (domGet s x).st = .ramping then .paused else (domGet s x).st) ∧
        (∀ x, x ∉ railDomains s (rampRail d) → same u x) ∧ { u with power := { u.power with domains := s.power.domains } } = s) ∧
      ((domGet s d).detecting = false → exec (.shortClear d) s = .next s ∧ exec (.shortConfirm d) s = .next s) ∧
      ((domGet s d).detecting = true → ∃ u : State, exec (.shortClear d) s = .next u ∧ (domGet u d).detecting = false ∧
        (∀ x, x ∈ railDomains s (rampRail d) → (domGet u x).st =
          if (domGet s x).st = .paused ∧ ∀ y ∈ railDomains s (rampRail d), y ≠ d → (domGet s y).detecting = false then .ramping
          else (domGet s x).st) ∧
        (∀ x, x ∉ railDomains s (rampRail d) → same u x) ∧ { u with power := { u.power with domains := s.power.domains } } = s)) ∧
  (
    ∀ (s : State) (d : Nat),
      let latches := fun (i : Instr) (st : DomainState) => ∃ u : State, exec i s = .next u ∧ domGet u d = { st := st } ∧ countsOne s u 0x2F09 1 32 ∧
        (d < 144 → isOut u (d / 36) = true) ∧
        (144 ≤ d → d < 172 → ((d - 144) % 7 = 0 ∨ (d - 144) % 7 = 1 ∨ (d - 144) % 7 = 6) → s.helda.lost.contains ((d - 144) / 7) = false →
          isOut u ((d - 144) / 7) = true ∧ isOut u (4 + (d - 144) / 7) = true) ∧
        (144 ≤ d → d < 172 → ((d - 144) % 7 = 3 ∨ (d - 144) % 7 = 4) → isOut u (8 + 2 * ((d - 144) / 7) + ((d - 144) % 7 - 3)) = true) ∧
        (d = 172 ∨ d = 173 → ∀ c, c / 8 = d - 172 → c ∈ u.power.ccOut) ∧
        (d = 174 → u.host.linkUp = false) ∧
        (d = 175 → u.helda.siteP.st = 4)
      (domExists s d = true → (domGet s d).st = .ramping → latches (.latchedSlow d) .latchedSlow) ∧
      (domExists s d = true → (domGet s d).detecting = true → latches (.shortConfirm d) .latchedShort) ∧
      (d < 176 →
        let fails := fun n => ∃ u : State, exec (.domainClear d) s = .next u ∧ u.dict.result = (0x23, leBytes 2 n) ∧ onlyResult s u
        (d = 175 → s.part.variant = .qx4 → fails 2) ∧
        (d < 175 ∨ s.part.variant ≠ .qx4 → latched s d = false → fails 1) ∧
        (d < 175 ∨ s.part.variant ≠ .qx4 → latched s d = true → ∃ u : State, exec (.domainClear d) s = .next u ∧ u.dict.result = (0, []) ∧
          domGet u d = { st := .queued } ∧ (∀ x, x ≠ d → domGet u x = domGet s x) ∧ u.power.oos = s.power.oos ∧ u.cores = s.cores)))

/-- R537, R538: a period of the arbiter. The burst store gains what was left of the budget and stays between 0 and its capacity; every
agent is granted at least its safe power and at most its maximum; and together the grants do not exceed what is available.

R539 to R543: ceilings, clamps and the vertical throttle. A ceiling moves by 25 MHz between 600 and 1,600 MHz; a clamp that is set
asserts THROTTLE_REQ_N and counts; a clamp that is released, while Askar serves, leaves the pin to the other causes; the throttle level of
C-die n follows the hottest sensor of B-die n with its hysteresis.

R544, R547, R550: a sensor at TRIP_T gates off every domain that is not latched, loses what HBM held, deasserts PWR_GOOD, asserts THROTTLE_REQ_N
and ends in FAILED, once until reset. A PLL that loses lock counts; a core's island stops and goes on at relock, another island's unit goes
out of service. The reference: absent for 1 ms it ends in FAILED; its return is seen. -/
def Obligations.PowerAndClocks : Prop :=
  (
    ∀ (s : State) (avg : Nat), pBudget s ≤ pPeak s → ((powerAgents s).map (agentSafe s)).sum ≤ pBudget s →
      (∀ a ∈ powerAgents s, agentSafe s a ≤ agentMax s a) →
      ∃ u : State, exec (.arbiterPeriod avg) s = .next u ∧
        (u.power.store : Int) = min (max 0 ((s.power.store : Int) + ((pBudget s : Int) - avg) * 100)) (((pPeak s : Int) - pBudget s) * 10000) ∧
        u.power.grants.map (·.1) = powerAgents s ∧
        (∀ e ∈ u.power.grants, agentSafe s e.1 ≤ e.2 ∧ e.2 ≤ agentMax s e.1 ∧ e.2 ≤ max (agentSafe s e.1) (agentDemand s e.1)) ∧
        (u.power.grants.map (·.2)).sum ≤ (if (pPeak s - pBudget s) * 100 ≤ u.power.store then pPeak s else pBudget s) ∧
        { u with power := { u.power with store := s.power.store, grants := s.power.grants } } = s) ∧
  (
    ∀ (s : State) (n : Nat),
      let x := cdieGet s n
      let others := fun (u : State) => (∀ k, k ≠ n → cdieGet u k = cdieGet s k) ∧ u.cores = s.cores ∧ u.uc = s.uc
      let hot := ((s.askar.temps.filter fun e => decide (128 ≤ e.1) && (e.1 - 128) / 16 == n).map (·.2)).max?
      let s1 : Int := num s 0x2F03 3 950
      let s2 : Int := num s 0x2F03 4 1000
      let h : Int := num s 0x2F03 5 30
      (n < 4 →
        (∃ u : State, exec (.clockCeilingStep n true) s = .next u ∧ (cdieGet u n).ceilingMhz = min 1600 (x.ceilingMhz + 25) ∧
          (cdieGet u n).clamp = x.clamp ∧ (cdieGet u n).vtLevel = x.vtLevel ∧ others u) ∧
        (∃ u : State, exec (.clockCeilingStep n false) s = .next u ∧ (cdieGet u n).ceilingMhz = max 600 (x.ceilingMhz - 25) ∧
          (cdieGet u n).clamp = x.clamp ∧ (cdieGet u n).vtLevel = x.vtLevel ∧ others u) ∧
        (x.clamp = true → exec (.clampSet n) s = .next s) ∧
        (x.clamp = false → ∃ u : State, exec (.clampSet n) s = .next u ∧ (cdieGet u n).clamp = true ∧ (cdieGet u n).ceilingMhz = x.ceilingMhz ∧
          cdieLimit u n ≤ 600 ∧ u.power.pins.throttleReq = true ∧ countsOne s u 0x2F04 9 32 ∧ others u) ∧
        (∃ u : State, exec (.clampRelease n) s = .next u ∧ (cdieGet u n).clamp = false ∧ (cdieGet u n).ceilingMhz = x.ceilingMhz ∧
          u.power.ccClamp = s.power.ccClamp ∧ others u ∧
          (s.askar.run = .serving → s.power.tripped = false → s.power.ccClamp = false → (∀ e ∈ s.power.cdie, e.1 ≠ n → e.2.clamp = false) →
            keysRise s.power.cdie = true → u.power.pins.throttleReq = false) ∧
          (s.power.tripped = true ∨ s.power.ccClamp = true ∨ (∃ k, k ≠ n ∧ (cdieGet s k).clamp = true) → u.power.pins.throttleReq = true)) ∧
        (hot = none → exec (.vtLevelChange n) s = .next s) ∧
        (∀ t, hot = some t → ∃ u : State, exec (.vtLevelChange n) s = .next u ∧ (cdieGet u n).clamp = x.clamp ∧
          (cdieGet u n).ceilingMhz = x.ceilingMhz ∧ others u ∧
          (s2 ≤ t ∨ (x.vtLevel = 2 ∧ s2 - h ≤ t) → (cdieGet u n).vtLevel = 2 ∧ cdieLimit u n ≤ 600) ∧
          (t < s2 → (x.vtLevel ≠ 2 ∨ t < s2 - h) → s1 ≤ t ∨ (x.vtLevel ≠ 0 ∧ s1 - h ≤ t) → (cdieGet u n).vtLevel = 1 ∧ cdieLimit u n ≤ 1200) ∧
          (t < s2 → (x.vtLevel ≠ 2 ∨ t < s2 - h) → t < s1 → (x.vtLevel = 0 ∨ t < s1 - h) → (cdieGet u n).vtLevel = 0))) ∧
      (s.power.ccClamp = true → exec (.clampSet 4) s = .next s) ∧
      (s.power.ccClamp = false → ∃ u : State, exec (.clampSet 4) s = .next u ∧ u.power.ccClamp = true ∧ u.power.pins.throttleReq = true ∧
        countsOne s u 0x2F04 9 32 ∧ u.power.cdie = s.power.cdie) ∧
      (∃ u : State, exec (.clampRelease 4) s = .next u ∧ u.power.ccClamp = false ∧ u.power.cdie = s.power.cdie ∧ u.cores = s.cores)) ∧
  (
    ∀ (s : State),
      (∀ i, i < 224 →
        (s.power.tripped = true → exec (.thermalTrip i) s = .next s) ∧
        (s.power.tripped = false → ∃ u : State, exec (.thermalTrip i) s = .next u ∧ u.power.tripped = true ∧
          u.power.tripCount = min (s.power.tripCount + 1) (2 ^ 32 - 1) ∧
          (∀ d, (latched s d = false → domGet u d = {}) ∧ (latched s d = true → domGet u d = domGet s d)) ∧
          u.hbm.cells = [] ∧ u.power.pins.pwrGood = false ∧ u.power.pins.throttleReq = true ∧ u.askar.alerts.testBit 2 = true ∧
          u.power.ready = .failed ∧ (s.power.ready ≠ .failed → u.power.readyReason = 7) ∧ u.cores = s.cores ∧ u.work = s.work)) ∧
      (∀ i, islandExists s i = true → ∃ u : State, exec (.pllUnlock i) s = .next u ∧ countsOne s u 0x2F0C 1 32) ∧
      (∀ c, c < 4608 → (∃ u : State, exec (.pllUnlock (.core c)) s = .next u ∧ coreRuns u c = false ∧ u.cores = s.cores ∧ u.power.oos = s.power.oos ∧
          ∀ k, k ≠ c → coreRuns u k = coreRuns s k) ∧
        (∃ u : State, exec (.pllRelock c) s = .next u ∧ c ∉ u.power.coreStopped ∧ (∀ k, k ≠ c → (k ∈ u.power.coreStopped ↔ k ∈ s.power.coreStopped)) ∧
          { u with power := { u.power with coreStopped := s.power.coreStopped } } = s)) ∧
      (∀ c, c < 16 → ∃ u : State, exec (.pllUnlock (.cc c)) s = .next u ∧ c ∈ u.power.ccOut ∧ u.power.oos = s.power.oos ∧ u.power.ready = s.power.ready) ∧
      (∀ n, n < 4 → (∃ u : State, exec (.pllUnlock (.lath n)) s = .next u ∧ isOut u n = true ∧
          ∀ i, i < 36 → latched s (36 * n + i) = false → domGet u (36 * n + i) = {}) ∧
        (s.helda.lost.contains n = false → (∃ u : State, exec (.pllUnlock (.scrim n)) s = .next u ∧ isOut u n = true ∧ isOut u (4 + n) = true) ∧
          ∃ u : State, exec (.pllUnlock (.uc n)) s = .next u ∧ isOut u n = true ∧ isOut u (4 + n) = true)) ∧
      (∀ k, k < 8 → ∃ u : State, exec (.pllUnlock (.hbm k)) s = .next u ∧ isOut u (8 + k) = true) ∧
      (∃ u : State, exec (.pllUnlock .iod) s = .next u ∧ u.power.ready = .failed ∧ (s.power.ready ≠ .failed → u.power.readyReason = 6)) ∧
      (∀ p, p < 24 → (portGet s p).st = .active → ∃ u : State, exec (.pllUnlock (.carrak p)) s = .next u ∧ (portGet u p).st = .retrain) ∧
      (∀ j, j < 8 → ∀ e, e / 2 = j → (endGet s e).st = .active → ∃ u : State, exec (.pllUnlock (.helda j)) s = .next u ∧ (endGet u e).st = .retrain) ∧
      (∃ u : State, exec .refclkLoss s = .next u ∧ u.power.refclk = false ∧ u.power.refclkOnOsc = true ∧
        { u with power := { u.power with refclk := s.power.refclk, refclkOnOsc := s.power.refclkOnOsc } } = s) ∧
      (s.power.refclk = true → exec .refclkLost s = .next s) ∧
      (s.power.refclk = false → ∃ u : State, exec .refclkLost s = .next u ∧ u.power.ready = .failed ∧
        (s.power.ready ≠ .failed → u.power.readyReason = 5) ∧ u.power.pins.pwrGood = false ∧ u.cores = s.cores) ∧
      (∃ u : State, exec .refclkReturn s = .next u ∧ u.power.refclk = true ∧ u.power.refclkOnOsc = false ∧
        { u with power := { u.power with refclk := s.power.refclk, refclkOnOsc := s.power.refclkOnOsc } } = s))

/-- R518, R527, R548, R551, R583: power-on and package reset. Both clear the dies, memory, the links, the host port and every session, sample the
straps and begin start-up; fuses and flash are kept. Power-on also clears the rest; a package reset keeps the time base, the log and
the sealed region, and a rail that is in range.

R549: DIE_RESET. It answers SECTIONS_IN_USE or STATE_CONFLICT and changes nothing where a section of the C-die belongs to a partition or
the pair's home is in use; a target that does not train or calibrate answers NOT_RECOVERED and is out of service; otherwise the target's cores are
reset, memory and the other dies keep what they hold, and its OUT_OF_SERVICE bits clear.

R567, R568: EI_RUN. It is locked in DEPLOYED without a grant and in DECOMMISSIONED, and triple tag errors are for BLANK and RMA alone; a target
that is not there answers NO_TARGET, a kind that the unit does not list KIND_INVALID. What it injects waits in the target until it is detected;
poison is stored at once. -/
def Obligations.ResetsAndInjection : Prop :=
  (
    ∀ (s : State) (node pid : Nat) (test : Bool), node < 8 → pid < 16 →
      let cleared := fun (u : State) (cause : Nat) => u.cores = [] ∧ u.lath = {} ∧ u.ret = {} ∧ u.uc = {} ∧ u.work = {} ∧ u.errs = {} ∧
        u.hbm.cells = [] ∧ u.helda = {} ∧ u.carrak.ports = [] ∧ u.host.linkUp = false ∧ u.host.rings = [] ∧ u.dict.sessions = [] ∧
        u.power.ready = .askarBoot ∧ u.power.oos = 0 ∧ u.power.domains = [] ∧ u.power.pins.pwrGood = false ∧ u.power.store = 5000000000 ∧
        u.power.resetCause = cause ∧ u.power.testEn = test ∧ u.power.nodeId = node ∧ u.power.strapI3c = pid ∧
        u.power.tripCount = s.power.tripCount ∧ u.hbm.ppr = s.hbm.ppr ∧ u.part = s.part ∧ u.pending = s.pending ∧
        u.askar.run = .restarting ∧ u.askar.fw.active = s.askar.fw.active ∧ fwSlot u.askar.fw = fwSlot s.askar.fw ∧
        u.askar.fw.rollback = s.askar.fw.rollback ∧ u.askar.fw.st = .idle ∧ u.askar.sec.lc = s.askar.sec.lc ∧
        u.askar.sec.entriesLeft = s.askar.sec.entriesLeft ∧ u.askar.sec.owner = s.askar.sec.owner ∧ u.askar.sec.expert = s.askar.sec.expert ∧
        u.askar.sec.tamperCount = s.askar.sec.tamperCount ∧ u.askar.sec.tamperStop = false
      (∃ u : State, exec (.powerOn node pid test) s = .next u ∧ cleared u 0 ∧ u.askar.timeNs = 0 ∧ u.askar.log = [] ∧ u.askar.sec.sealed = [] ∧
        u.askar.flash = s.askar.flash ∧ railGet u 13 = .inRange ∧ ∀ r, r ≠ 13 → railGet u r = .off) ∧
      (∃ u : State, exec (.packageReset node pid test) s = .next u ∧ cleared u 1 ∧ u.askar.timeNs = s.askar.timeNs ∧
        u.askar.sec.sealed = s.askar.sec.sealed ∧ u.askar.temps = s.askar.temps ∧
        (s.work.ctxs = [] → u.askar.log = s.askar.log ∧ u.askar.toFlash = s.askar.toFlash ∧ u.askar.flash = s.askar.flash) ∧
        (keysRise s.power.rails = true → ∀ r, railGet u r = if railGet s r = .inRange then .inRange else .off)) ∧
      (s.host.perstHigh = true → exec .perstNDeassert s = .next s) ∧
      (s.host.perstHigh = false → ∃ u : State, exec .perstNDeassert s = .next u ∧ u.host.perstHigh = true ∧ u.power.perstAt = time s ∧
        { u with host := s.host, power := { u.power with perstAt := s.power.perstAt } } = s)) ∧
  (
    ∀ (s : State) (t : Nat) (good : Bool), t < 8 →
      let n := t % 4
      let used := ∃ e ∈ s.work.parts, e.2.st ≠ .none ∧ ∃ x ∈ e.2.sections, x / 36 = n
      let fails := fun k => ∃ u : State, exec (.dieReset t good) s = .next u ∧ u.dict.result = (0x23, leBytes 2 k) ∧ onlyResult s u
      let conflict := t < 4 ∧ (homeGet s n).st ≠ .offline ∧ (homeGet s n).st ≠ .lost
      let kept := fun (u : State) => (∀ c, coreDie c ≠ n → coreGet u c = coreGet s c) ∧ (∀ c, coreDie c = n → coreGet u c = {}) ∧
        u.hbm.cells = s.hbm.cells ∧ u.hbm.redirect = s.hbm.redirect ∧ (∀ b, homeGet u b = homeGet s b) ∧
        (∀ k, k / 64 ≠ n ∨ 4 ≤ t → sliceGet u k = sliceGet s k) ∧ u.work.parts = s.work.parts
      (used → fails 1) ∧
      (¬ used → conflict → fails 2) ∧
      (¬ used → ¬ conflict → good = false → ∃ u : State, exec (.dieReset t good) s = .next u ∧ u.dict.result = (0x23, leBytes 2 3) ∧
        isOut u n = true ∧ (t < 4 → isOut u (4 + n) = true) ∧ kept u) ∧
      (¬ used → ¬ conflict → good = true → 4 ≤ t ∨ featuresOk s n = true → ∃ u : State, exec (.dieReset t good) s = .next u ∧ u.dict.result = (2, []) ∧
        isOut u n = false ∧ (t < 4 → isOut u (4 + n) = false ∧ isOut u (8 + 2 * n) = false ∧ isOut u (9 + 2 * n) = false ∧
          u.helda.lost.contains n = false) ∧
        (∀ b, b < 17 → b ≠ n → (t < 4 → b ≠ 4 + n ∧ b ≠ 8 + 2 * n ∧ b ≠ 9 + 2 * n) → isOut u b = isOut s b) ∧ kept u)) ∧
  (
    ∀ (s : State) (k kind addr n : Nat), k < 6 → kind < 4 → 1 ≤ n → n < 256 →
      let lc := s.askar.sec.lc
      let lockedOut := (lc = .deployed ∧ s.carrak.crazeGrant = none) ∨ lc = .decommissioned ∨ (kind = 3 ∧ lc ≠ .blank ∧ lc ≠ .rma)
      let there := ∀ a ∈ eiTargets k addr n, eiTarget s k a = true
      let fails := fun c => ∃ u : State, exec (.eiRun k kind addr n) s = .next u ∧ u.dict.result = (0x23, leBytes 2 c) ∧ onlyResult s u
      (lockedOut → fails 1) ∧
      (¬ lockedOut → ¬ there → fails 2) ∧
      (¬ lockedOut → there → kindListed k kind = false → fails 3) ∧
      (¬ lockedOut → there → kindListed k kind = true → ∃ u : State, exec (.eiRun k kind addr n) s = .next u ∧ u.dict.result = (0, []) ∧
        u.work = s.work ∧ u.power = s.power ∧ u.askar = s.askar ∧
        (k = 1 ∨ k = 5 → u.errs.planted = s.errs.planted ∧ u.cores = s.cores ∧
          u.errs.injects = s.errs.injects ++ [{ unit := k, target := if k = 1 then addr % 65536 else addr, kind := kind, left := n }]) ∧
        (k ≠ 1 → k ≠ 5 → kind ≠ 2 → u.errs.injects = s.errs.injects ∧ u.cores = s.cores ∧ u.hbm = s.hbm ∧
          u.errs.planted = s.errs.planted ++ (eiTargets k addr n).map fun a => (k, plantKey k a, kind)) ∧
        (kind = 2 → u.errs = s.errs ∧ (k = 4 → s.hbm.redirect = [] → ∀ i, i < n →
            (1024 * rowKey (hbmPlace (64 * (addr / 64 + i))) + 64 * (addr / 64 + i) % 1024) / 64 ∈ u.hbm.poison) ∧
          (k = 0 → ∀ i, i < n → (addr + 64 * i) % 2 ^ 20 / 64 ∈ (coreGet u ((addr + 64 * i) % 2 ^ 40 / 2 ^ 20)).poison))))

/-- R528, R544, R550 to R552: the stages of start-up. Each stage's command acts in its own state alone: POWER_UP waits for rails and
temperature, queues the domains and goes on once none waits or ramps; HBM_TRAIN takes out the stacks that fail and starts the Helda links; HELDA_TRAIN
computes FEATURE_SET; CONTROL_BOOT starts the ports and asserts PWR_GOOD; HOST_UP zeroes the device. Start-up ends in READY, in READY_DEGRADED
with the first cause, or in FAILED with the reason. -/
def Obligations.StartUpStages : Prop :=
  ∀ (s : State) (bad : List Nat),
    let st := s.power.ready
    let cold := railMissing s = false ∧ tooHot s = false
    let l := allDomains s
    let ends := fun (i : Instr) (r : ReadyState) (n : Nat) => ∃ u : State, exec i s = .next u ∧ u.power.ready = r ∧ u.power.readyReason = n ∧
      u.cores = s.cores ∧ u.work = s.work ∧ u.power.oos = s.power.oos
    (st ≠ .powerUp ∨ ¬ cold → exec .powerUp s = .next s) ∧
    (st = .powerUp → cold → (∀ d ∈ l, (domGet s d).st = .off) → ∃ u : State, exec .powerUp s = .next u ∧ (∀ d ∈ l, domGet u d = { st := .queued }) ∧
      { u with power := { u.power with domains := s.power.domains } } = s) ∧
    (st = .powerUp → cold → (∃ d ∈ l, (domGet s d).st = .queued ∨ inRamp (domGet s d) = true) → exec .powerUp s = .next s) ∧
    (st = .powerUp → cold → (∃ d ∈ l, (domGet s d).st ≠ .off) → (∀ d ∈ l, (domGet s d).st ≠ .queued ∧ inRamp (domGet s d) = false) →
      ends .powerUp .hbmTrain 0) ∧
    (st = .powerUp → railMissing s = true → ends .railWaitExpiry .failed 4) ∧
    (st ≠ .powerUp ∨ railMissing s = false → exec .railWaitExpiry s = .next s) ∧
    (st = .powerUp → tooHot s = true → ends .hotAtStart .failed 8) ∧
    (st ≠ .powerUp ∨ tooHot s = false → exec .hotAtStart s = .next s) ∧
    ((∀ k ∈ bad, k < 8) → (st ≠ .hbmTrain → exec (.hbmTrain bad) s = .next s) ∧
      (st = .hbmTrain → ∃ u : State, exec (.hbmTrain bad) s = .next u ∧ u.power.ready = .heldaTrain ∧
        (∀ k, k < 8 → isOut u (8 + k) = (isOut s (8 + k) || bad.contains k)) ∧ (∀ e, endOk s e = true → (endGet u e).st = .training) ∧
        (∀ k ∈ u.hbm.ppr, k ∈ s.hbm.ppr) ∧ u.hbm.cells = s.hbm.cells ∧ u.cores = s.cores)) ∧
    (st ≠ .heldaTrain → exec .heldaTrain s = .next s) ∧
    (st = .heldaTrain → ∃ u : State, exec .heldaTrain s = .next u ∧ u.power.ready = .controlBoot ∧ u.helda.featureSet = commonFeatures s ∧
      (lostDies { s with power := { s.power with ready := .controlBoot } } = [] → u.power.oos = s.power.oos ∧ u.cores = s.cores)) ∧
    (st ≠ .controlBoot → exec .controlBoot s = .next s) ∧
    (st = .controlBoot → ∃ u : State, exec .controlBoot s = .next u ∧ u.power.pins.pwrGood = true ∧ u.power.ready = .controlBoot ∧
      (∀ p, p < 24 → portGone s p = false → portDark s p = false → (portGet u p).st = .training) ∧
      (∀ p, portGone s p = true ∨ portDark s p = true → portGet u p = portGet s p) ∧ u.cores = s.cores) ∧
    ((∀ n ∈ bad, n < 4) →
      (st ≠ .controlBoot ∨ s.power.pins.pwrGood = false ∨ s.host.perstHigh = false → exec (.hostUp bad) s = .next s) ∧
      (st = .controlBoot → s.power.pins.pwrGood = true → s.host.perstHigh = true → ∃ u : State, exec (.hostUp bad) s = .next u ∧
        u.power.ready = .hostUp ∧ (∀ n ∈ bad, isOut u n = true) ∧
        (bad = [] → u.uc.slices = [] ∧ u.uc.cc = [] ∧ (∀ c, c < 4608 → coreGet u c = {}) ∧ (∀ n, n < 4 → 4 ≤ sget 4 u.lath.p n ∧ sget 4 u.lath.p n ≤ 8) ∧
          u.power.oos = s.power.oos))) ∧
    (st ≠ .hostUp → exec .startupEnd s = .next s) ∧
    (st = .hostUp →
      let noPair := (∀ n, n < 4 → isOut s n = true) ∨ (∀ n, n < 4 → isOut s (4 + n) = true)
      let noIod := latched s 174 = true ∨ (latched s 172 = true ∧ latched s 173 = true)
      (noPair → ends .startupEnd .failed 9) ∧ (¬ noPair → noIod → ends .startupEnd .failed 0xA) ∧
      (¬ noPair → ¬ noIod → s.power.oos ≠ 0 → ends .startupEnd .degraded s.power.startCause) ∧
      (s.power.oos = 0 → ¬ noIod → ends .startupEnd .ready 0)) ∧
    (readyCode st = 0 ∨ 7 ≤ readyCode st → exec .stageTimeout s = .next s) ∧
    (1 ≤ readyCode st → readyCode st ≤ 6 → ends .stageTimeout .failed (0x100 + readyCode st))

/-- R64, R65, R78: the dictionary reads from the message of every request exactly the fields it was made of, finds no ground to ignore
it, and finds a message-format fault where, and only where, R65 and R67 name one. -/
def Obligations.RequestMessages : Prop :=
  ∀ (op : Nat) (r : Req), op < 128 → reqFits r →
    header (reqBytes op r) = reqHeader op r ∧ (reqBytes op r).length = 16 + r.payload.length ∧ ignoredMsg (reqBytes op r) = none ∧
    (badMessage (header (reqBytes op r)) r.payload.length = false ↔ goodReq op r)

/-- R48 to R51, R62, R67: opening and closing. OPEN gives the next session ID while the endpoint has room, and answers SESSION_LIMIT otherwise; CLOSE ends the
session; a request that names no live session of its endpoint answers NO_SESSION. A malformed request answers BAD_MESSAGE.

R62, R63, R66, R69, R70: a request in a live session. It runs once: its final response is stored, and a repeat of the
same tag and opcode is answered from it without running again. While a command of the session runs, its repeat answers
IN_PROGRESS and another request BUSY; POLL answers for the command that its tag names. -/
def Obligations.Sessions : Prop :=
  (
    (∀ (s : State) (op : Nat) (ep : Endpoint) (r : Req), 1 ≤ op → op ≤ 8 → reqFits r → servesNow s ep →
      let ends := fun (n : Nat) => ∃ u : State, exec (reqCmd op ep r) s = .next u ∧ u.dict.result = (n, []) ∧ u.dict.sessions = s.dict.sessions ∧
        u.cores = s.cores ∧ u.work = s.work ∧ u.power = s.power ∧ u.dict.nums = s.dict.nums
      let room := (s.dict.sessions.filter fun x => sameEp x.ep ep).length < sessionLimit ep
      (¬ goodReq op r → ends 0x16) ∧
      (goodReq op r → op = 1 → ¬ room → ends 0x18) ∧
      (goodReq op r → op = 1 → room → findSession s s.dict.nextId = none → ∃ u : State, exec (reqCmd op ep r) s = .next u ∧ u.dict.result = (0, []) ∧
        u.dict.sessions = s.dict.sessions ++ [{ id := s.dict.nextId, ep := ep, lastAt := time s }] ∧
        u.dict.nextId = (if s.dict.nextId ≥ 0xFFFE then 1 else s.dict.nextId + 1) ∧ u.cores = s.cores ∧ u.work = s.work ∧
        ∀ m, ep = .pf m → (mailboxGet u m).rsp = dictMsg 1 (reqFlags r) 0 s.dict.nextId r.tag r.index r.sub [] ∧
          (mailboxGet u m).rspReady = true ∧ (mailboxGet u m).reqPending = false) ∧
      (goodReq op r → 2 ≤ op → r.session ≠ 0xFFFF → (∀ x, findSession s r.session = some x → sameEp x.ep ep = false) → ends 0x17) ∧
      (goodReq op r → r.session = 0xFFFF → 2 ≤ op → (op ≠ 3 ∨ r.index < 0x1000 ∨ 0x100F < r.index) → ends 0x17)) ∧
    ∀ (s : State) (ep : Endpoint) (r : Req) (x : Session), goodReq 2 r → servesNow s ep → r.session ≠ 0xFFFF →
      findSession s r.session = some x → sameEp x.ep ep = true →
      ∃ u : State, exec (.close ep r) s = .next u ∧ u.dict.result = (0, []) ∧ findSession u r.session = none ∧
        (∀ n, n ≠ r.session → findSession u n = findSession s n) ∧ (∀ k, x.running = some k → k ∈ u.dict.orphans) ∧ u.cores = s.cores ∧ u.work = s.work) ∧
  (
    ∀ (s : State) (op : Nat) (ep : Endpoint) (r : Req) (x : Session), goodReq op r → 3 ≤ op → servesNow s ep → r.session ≠ 0xFFFF →
      findSession s r.session = some x → sameEp x.ep ep = true →
      let t := touched s r.session
      let answers := fun (n : Nat) (b : List Byte) => ∃ u : State, exec (reqCmd op ep r) s = .next u ∧ u.dict.result = (n, b) ∧ u.cores = s.cores ∧
        u.work = s.work ∧ u.power = s.power ∧ u.uc = s.uc ∧ u.dict.nums = s.dict.nums ∧
        findSession u r.session = some { x with lastAt := time s }
      (∀ k, op ≠ 7 → x.running = some k → answers (if k.tag = r.tag ∧ k.opcode = op then 2 else 0x19) []) ∧
      (∀ l, op ≠ 7 → x.running = none → x.last = some l → l.tag = r.tag → l.opcode = op → answers l.status l.payload) ∧
      (op ≠ 7 → x.running = none → (∀ l, x.last = some l → l.tag ≠ r.tag ∨ l.opcode ≠ op) →
        let e := execReq (whoOf t ep x.id) (reqHeader op r) t
        ∃ u : State, exec (reqCmd op ep r) s = .next u ∧ u.dict.result = e.2.dict.result ∧
          (e.2.dict.result.1 ≠ 2 → ∀ y, findSession e.2 r.session = some y → ∃ z, findSession u r.session = some z ∧
            z = { y with last := z.last } ∧ (z.last.map fun l => (l.tag, l.opcode, l.status, l.payload)) =
              some (r.tag, op, e.2.dict.result.1, e.2.dict.result.2))) ∧
      (∀ k, op = 7 → x.running = some k → answers (if k.tag = r.tag then 2 else 0x16) []) ∧
      (∀ l, op = 7 → x.running = none → x.last = some l → l.cmd = true → l.tag = r.tag → answers l.status l.payload) ∧
      (op = 7 → x.running = none → (∀ l, x.last = some l → l.cmd = false ∨ l.tag ≠ r.tag) → answers 0x16 []))

/-- R46, R65, R66, R68, R69: what READ, READ_SEG and ENUMERATE give. READ of one subindex gives the subindex's bytes; a
write-only one answers 0x12, a subindex that is not there 0x11, and an object that the session cannot reach the status of its refusal.
ENUMERATE gives the next index and its highest subindex.

R45, R46, R57 to R59, R63, R67: writes. A value out of its range takes the nearest bound, one between steps the step below, a NaN the default;
a 0 that means never stays 0. Segments of a BLOB are staged in order, one out of order drops them, and the last one writes the whole. What the object or a field refuses is refused whole, a CMD object whose command runs is BUSY; a
write of CLAMP_HYST, for one, keeps the clamped value and, where that differs, answers CLAMPED and leaves a clamp record. -/
def Obligations.DictionaryValues : Prop :=
  (
    ∀ (s : State) (w : Who) (h : Header),
      let one := bit h.flags 0 = false ∧ bit h.flags 2 = false
      (∀ n, objFails s w h.index = some n → (readReq w h s).dict.result = (n, []) ∧ (readSegReq w h s).2.dict.result = (n, []) ∧
        onlyResult s (readReq w h s)) ∧
      (objFails s w h.index = none → one → objOf s h.index h.sub = none → h.sub ≠ 0 → (readReq w h s).dict.result = (0x11, []) ∧
        onlyResult s (readReq w h s)) ∧
      (objFails s w h.index = none → one → objOf s h.index h.sub = none → h.sub = 0 →
        (readReq w h s).dict.result = (0, leBytes 1 (highSub s h.index))) ∧
      (∀ o, objFails s w h.index = none → one → objOf s h.index h.sub = some o → o.acc = 2 → (readReq w h s).dict.result = (0x12, [])) ∧
      (∀ o, objFails s w h.index = none → one → objOf s h.index h.sub = some o → o.acc ≠ 2 →
        (readSub w h.index h.sub o s).1.length ≤ 1024 → (readReq w h s).dict.result = (0, (readSub w h.index h.sub o s).1)) ∧
      (∀ o, objFails s w h.index = none → bit h.flags 0 = false → objOf s h.index h.sub = some o → o.acc ≠ 2 → o.ty = 11 →
        let b := (readSub w h.index h.sub o s).1
        let off := field h.payload 0 4
        (b.length < off → (readSegReq w h s).2.dict.result = (0x1A, [])) ∧
        (off ≤ b.length → (readSegReq w h s).2.dict.result = (0, leBytes 4 off ++ (b.drop off).take 1020) ∧
          ((readSegReq w h s).1 = true ↔ b.length ≤ off + 1020))) ∧
      (nextIdx s w h.index = none → (enumReq w h s).dict.result = (0x10, [])) ∧
      (∀ i, nextIdx s w h.index = some i → (enumReq w h s).dict.result = (0, leBytes 2 i ++ leBytes 1 (highSub s i) ++ [0]) ∧
        onlyResult s (enumReq w h s))) ∧
  (
    (∀ mn mx step v, mn ≤ mx → 0 < step → mn % step = 0 →
      let c := clampU mn mx step 0 0 v
      (v < mn → c = mn) ∧ (mx < v → c = mx / step * step) ∧ (mn ≤ v → v ≤ mx → c = v / step * step) ∧ mn ≤ c ∧ c ≤ mx ∧ c % step = 0) ∧
    (∀ mn mx step v, 0 < mn → clampU 0 mx step 0 mn 0 = 0 ∧ (0 < v → v < mn → step = 1 → mn ≤ mx → clampU 0 mx step 0 mn v = mn)) ∧
    (∀ step v, 0 < step → 600 ≤ v → v ≤ 1600 → clampU 600 1600 step 600 0 v = v - (v - 600) % step) ∧
    (∀ mn mx v, mn < 2 ^ 32 → mx < 2 ^ 32 → v < 2 ^ 32 → (BitVec.ofNat 32 mn).toInt ≤ (BitVec.ofNat 32 mx).toInt →
      let z := (BitVec.ofNat 32 v).toInt
      (z < (BitVec.ofNat 32 mn).toInt → clampI mn mx 1 v = mn) ∧ ((BitVec.ofNat 32 mx).toInt < z → clampI mn mx 1 v = mx) ∧
      ((BitVec.ofNat 32 mn).toInt ≤ z → z ≤ (BitVec.ofNat 32 mx).toInt → clampI mn mx 1 v = v)) ∧
    (∀ mn mx dflt v, 0x7F800000 < v % 2 ^ 31 → clampF mn mx dflt v = dflt) ∧
    (∀ (s : State) (w : Who) (idx sub : Nat) (whole : Bool) (b : List Byte) (r : Running),
      (∀ n, objFails s w idx = some n → (writeReq w idx sub whole b r s).dict.result = (n, []) ∧ onlyResult s (writeReq w idx sub whole b r s)) ∧
      (∀ n, objFails s w idx = none → fieldFails s w idx sub b = some n → (writeReq w idx sub false b r s).dict.result = (n, []) ∧
        onlyResult s (writeReq w idx sub false b r s)) ∧
      (∀ o, objFails s w idx = none → fieldFails s w idx sub b = none → objOf s idx sub = some o → o.acc = 4 → (sfind s.dict.busy idx).isSome = true →
        (writeReq w idx sub false b r s).dict.result = (0x19, []) ∧ onlyResult s (writeReq w idx sub false b r s))) ∧
    (∀ (s : State) (w : Who) (idx sub off : Nat) (last : Bool) (d : List Byte) (r : Running) (x : Session) (o : Obj), objFails s w idx = none →
      findSession s w.sid = some x → objOf s idx sub = some o → o.acc ≠ 0 → o.acc ≠ 5 → o.ty = 11 → idx ≠ 0x2D31 →
      (∀ g, x.staging = some g → g.index = idx ∧ g.sub = sub) →
      let cur := (x.staging.map (·.bytes)).getD []
      let t := writeSegReq w idx sub false last off d r s
      (off ≠ cur.length → t.dict.result = (0x1A, []) ∧ findSession t w.sid = some { x with staging := none } ∧ t.cores = s.cores) ∧
      (off = cur.length → o.mx < off + d.length → t.dict.result = (0x15, []) ∧ findSession t w.sid = some { x with staging := none }) ∧
      (off = cur.length → off + d.length ≤ o.mx → last = false → t.dict.result = (0, []) ∧
        findSession t w.sid = some { x with staging := some { index := idx, sub := sub, bytes := cur ++ d, at_ := time s } } ∧ t.cores = s.cores) ∧
      (off = cur.length → off + d.length ≤ o.mx → last = true → t = writeFields w idx [(sub, cur ++ d)] r (unstage w.sid s))) ∧
    ∀ (s : State) (w : Who) (r : Running) (v : Nat), objFails s w 0x2F03 = none → v < 65536 →
      let a := min (max v 10) 100
      let t := writeReq w 0x2F03 2 false (leBytes 2 v) r s
      num t 0x2F03 2 30 = a ∧ t.cores = s.cores ∧ t.work = s.work ∧
      (a = v → t.dict.result = (0, []) ∧ t.dict.clampRecs = s.dict.clampRecs) ∧
      (a ≠ v → t.dict.result.1 = 1 ∧ t.dict.clampTotal = min (s.dict.clampTotal + 1) (2 ^ 32 - 1) ∧
        ∃ b, t.dict.clampRecs = ((w.sid, b) :: s.dict.clampRecs).take 16 ∧ field b 4 2 = 0x2F03 ∧ field b 16 8 = v ∧ field b 24 8 = a))

/-- R51, R62, R72 to R75, R78: transports. A doorbell is ignored while a request is pending, waits where Askar has not taken it up, and otherwise brings the
mailbox's message; the control cores' mailbox, a frame, a private write and a DICT message each bring the same request to their
endpoint; frames for others are ignored, those of another protocol counted. A response goes back the way its request came. A
request to a device that cannot be reached answers REMOTE_LOST. -/
def Obligations.Transports : Prop :=
  (∀ (s : State) (ep : Endpoint) (k : Nat) (taken : Bool), mailboxKey ep = some k → epExists ep = true →
    let x := mailboxGet s k
    (x.reqPending = true → ∃ u : State, exec (.mbxDoorbell ep taken) s = .next u ∧ countsOne s u 0x1030 5 32 ∧ u.dict.mailboxes = s.dict.mailboxes ∧
      u.dict.waiting = s.dict.waiting ∧ u.cores = s.cores) ∧
    (x.reqPending = false → taken = false → s.askar.run = .serving → ∃ u : State, exec (.mbxDoorbell ep taken) s = .next u ∧
      mailboxGet u k = { x with reqPending := true } ∧ u.dict.waiting = s.dict.waiting ++ [⟨ep, 0, false, mailboxMsg s k⟩] ∧
      u.cores = s.cores ∧ u.work = s.work) ∧
    (∀ op r, 1 ≤ op → op ≤ 8 → x.reqPending = false → taken = true → mailboxMsg s k = reqBytes op r →
      exec (.mbxDoorbell ep taken) s = exec (reqCmd op ep r) (setMailbox k { x with reqPending := true } s))) ∧
  (∀ (s : State) (op : Nat) (r : Req), 1 ≤ op → op ≤ 8 →
    exec (.ccMailboxDoorbell (reqBytes op r)) s = exec (reqCmd op .cc r) s ∧
    (goodReq op r → servesNow s .cc → ∃ u : State, ∃ b, exec (.ccMailboxDoorbell (reqBytes op r)) s = .next u ∧ ⟨.cc, 0, b⟩ ∈ u.dict.out) ∧
    (s.dict.i3c.dynAddr = none → exec (.i3cPrivateWrite (reqBytes op r)) s = .next s) ∧
    (s.dict.i3c.dynAddr ≠ none → exec (.i3cPrivateWrite (reqBytes op r)) s = exec (reqCmd op .i3c r) s) ∧
    (s.dict.i3c.dynAddr ≠ none → goodReq op r → servesNow s .i3c →
      ∃ u : State, ∃ b, exec (.i3cPrivateWrite (reqBytes op r)) s = .next u ∧ u.dict.i3c.response = some b) ∧
    ∀ d, d < 256 → s.carrak.remoteReqs = [] → exec (.dict false d (reqBytes op r)) s = exec (reqCmd op (.carrak d) r) s) ∧
  (∀ (s : State) (f : T1sFrame),
    let all := f.dst = 2 ^ 48 - 1
    let ours := f.etherType = 0x88B5 ∧ (all ∨ f.dst = 2 ^ 41 + s.part.serial % 2 ^ 40)
    (¬ ours → exec (.t1sFrame f) s = .next s) ∧
    (ours → f.protoId ≠ 0xB1A5 → ∃ u : State, exec (.t1sFrame f) s = .next u ∧ countsOne s u 0x1030 4 32 ∧ u.dict.sessions = s.dict.sessions ∧ u.cores = s.cores) ∧
    (∀ op r, ours → f.protoId = 0xB1A5 → goodReq op r → f.body = reqBytes op r →
      (all → (op ≠ 3 ∨ r.session ≠ 0xFFFF) → exec (.t1sFrame f) s = .next s) ∧
      (¬ all ∨ (op = 3 ∧ r.session = 0xFFFF) → servesNow s .t1s → ∃ u : State, ∃ b, exec (.t1sFrame f) s = .next u ∧ ⟨.t1s, f.src, b⟩ ∈ u.dict.out))) ∧
  (∀ (s : State),
    (s.dict.i3c.response = none → exec .i3cPrivateRead s = .next s) ∧
    (∀ b, s.dict.i3c.response = some b → ∃ u : State, exec .i3cPrivateRead s = .next u ∧ u.dict.i3c = { s.dict.i3c with response := none } ∧
      u.dict.out = s.dict.out ++ [⟨.i3c, 0, b⟩] ∧ u.cores = s.cores) ∧
    (∀ c, ∃ u : State, exec (.i3cCcc c) s = .next u ∧ { u with dict := { u.dict with i3c := s.dict.i3c } } = s ∧
      u.dict.i3c.dynAddr = (match c with
        | .assignAddress a => some a
        | .resetAddress => none
        | _ => s.dict.i3c.dynAddr) ∧
      u.dict.i3c.ibiEnabled = (match c with
        | .enableIbi => true
        | .disableIbi => false
        | _ => s.dict.i3c.ibiEnabled)) ∧
    (∃ u : State, exec .i3cTargetReset s = .next u ∧ u.dict.sessions = s.dict.sessions.filter (fun x => decide (x.ep ≠ .i3c)) ∧
      u.dict.nums = s.dict.nums ∧ u.cores = s.cores) ∧
    (∃ u : State, exec .t1sLinkDown s = .next u ∧ u.dict.sessions = s.dict.sessions.filter (fun x => decide (x.ep ≠ .t1s)) ∧
      u.dict.nums = s.dict.nums ∧ u.cores = s.cores)) ∧
  ∀ (s : State) (d : Nat) (b : List Byte), d < 256 → 16 ≤ b.length →
    (canReach s d = false → ∃ u : State, exec (.dict true d b) s = .next u ∧ (∀ q ∈ u.carrak.remoteReqs, q.device ≠ d) ∧
      (∀ x ∈ u.dict.sessions, x.ep ≠ .carrak d) ∧
      ⟨.cc, 0, dictMsg (field b 1 1) (field b 2 1) 0x22 (field b 4 2) (field b 6 2) (field b 8 2) (field b 10 1) []⟩ ∈ u.dict.out) ∧
    (canReach s d = true → ∃ v : State, exec (.dict true d b) s = .next (linkSend none (ctlPkt s d 1 false b) v) ∧
      v.carrak.remoteReqs = s.carrak.remoteReqs ++ [{ device := d, head := b.take 16 }] ∧
      { v with carrak := { v.carrak with remoteReqs := s.carrak.remoteReqs } } = s) ∧
    ∀ q, s.carrak.remoteReqs = [q] → q.device = d → field q.head 6 2 = field b 6 2 → field b 1 1 = 128 + field q.head 1 1 →
      ∃ u : State, exec (.dict false d b) s = .next u ∧ u.carrak.remoteReqs = [] ∧ u.dict.out = s.dict.out ++ [⟨.cc, 0, b⟩] ∧ u.dict.sessions = s.dict.sessions

/-- R51, R53, R54, R63, R69, R70, R98: what passes in a session. A command that has come to its end leaves its final
response with the session, or a record where the session has ended; an idle session ends; staged segments and nonces expire. EXPERT_AUTH raises
the level for a good signature over an unused nonce of the last 60 s; three failures in a row end the session and lock its
endpoint out for 10 s. FREQ_FINE_STEP back at 0 rounds every request down to the grid. -/
def Obligations.SessionsAndExpertLevel : Prop :=
  ∀ (s : State) (n : Nat),
    let gone := fun (u : State) => (∀ m, findSession u m = if m = n then none else findSession s m) ∧ u.dict.nums = s.dict.nums ∧ u.cores = s.cores
    (∃ u : State, exec (.sessionIdleTimeout n) s = .next u ∧ gone u) ∧
    (∀ x, findSession s n = some x →
      let becomes := fun (i : Instr) (y : Session) => ∃ u : State, exec i s = .next u ∧ findSession u n = some y ∧
        (∀ m, m ≠ n → findSession u m = findSession s m) ∧ u.cores = s.cores ∧ u.work = s.work ∧ u.askar = s.askar
      let spent := x.nonce.map fun (c : Nonce) => { c with used := true }
      (∀ k, x.running = some k → cmdOver s k.index = true → ∃ u : State, ∃ y, exec (.commandFinish n) s = .next u ∧ findSession u n = some y ∧
        y = { x with running := none, last := y.last } ∧
        (y.last.map fun l => (l.tag, l.opcode, l.cmd, l.status, l.payload)) = some (k.tag, k.opcode, true, k.status, k.payload) ∧
        sfind u.dict.busy k.index = none ∧ (∀ m, m ≠ n → findSession u m = findSession s m) ∧ u.cores = s.cores) ∧
      becomes (.segStageExpiry n) { x with staging := none } ∧
      becomes (.nonceExpiry (some n)) { x with nonce := spent } ∧
      (∃ v, v.length = 32 ∧ becomes (.expertNonce n) { x with nonce := some { value := v, issuedAt := time s, used := false } } ∧
        ∃ u : State, exec (.expertNonce n) s = .next u ∧ u.dict.result = (0, v)) ∧
      (∀ v, becomes (.expertLock n v) (if v = 0 then x else { x with level := 0 })) ∧
      ∀ sig,
        let locked := ∃ t, sfind s.dict.lockouts (epGroup x.ep) = some t ∧ time s < t
        let check := expertVerify s (Config.sha384 (unlockMsg ((x.nonce.map (·.value)).getD []) n s.part.serial)) sig
        let denies := ∃ u : State, exec (.expertAuth n sig) s = .next u ∧ u.dict.result = (0x24, []) ∧ onlyResult s u
        let good := check = some true ∧ ∃ c, x.nonce = some c ∧ c.used = false ∧ time s < c.issuedAt + 60000000000
        ((isVf x.ep).isSome = true ∨ locked → denies) ∧
        (check = none → denies) ∧
        (isVf x.ep = none → ¬ locked → good → becomes (.expertAuth n sig) { x with level := 1, fails := 0, nonce := spent } ∧
          ∃ u : State, exec (.expertAuth n sig) s = .next u ∧ u.dict.result = (0, [])) ∧
        (isVf x.ep = none → ¬ locked → check ≠ none → ¬ good → ∃ u : State, exec (.expertAuth n sig) s = .next u ∧ u.dict.result = (0x24, []) ∧
          (x.fails < 2 → findSession u n = some { x with fails := x.fails + 1, nonce := spent }) ∧
          (2 ≤ x.fails → findSession u n = none ∧ sfind u.dict.lockouts (epGroup x.ep) = some (time s + 10000000000)))) ∧
    (findSession s n = none → (∀ i ∈ [Instr.expertNonce n, .expertAuth n [], .expertLock n 1], ∃ u : State, exec i s = .next u ∧ u.dict.result = (0x17, []) ∧ onlyResult s u) ∧
      (∀ k, s.dict.orphans = [k] → k.session = n → cmdOver s k.index = true → ∃ u : State, exec (.commandFinish n) s = .next u ∧
        u.dict.orphans = [] ∧ sfind u.dict.busy k.index = none ∧ (s.askar.run = .serving → ∃ r ∈ u.askar.log, r.body.index = k.index ∧ r.body.sev = 1) ∧ u.cores = s.cores) ∧
      (s.dict.orphans = [] → exec (.commandFinish n) s = .next s)) ∧
    (∃ u : State, exec (.nonceExpiry none) s = .next u ∧ u.askar.sec.nonce = (s.askar.sec.nonce.map fun (c : Nonce) => { c with used := true }) ∧ u.dict = s.dict) ∧
    (∀ ep, ∃ u : State, exec (.authLockoutEnd ep) s = .next u ∧ sfind u.dict.lockouts (epGroup ep) = none ∧
      (∀ g, g ≠ epGroup ep → sfind u.dict.lockouts g = sfind s.dict.lockouts g) ∧ u.dict.sessions = s.dict.sessions ∧ u.cores = s.cores) ∧
    ∀ v, ∃ u : State, exec (.freqFineStep v) s = .next u ∧ u.dict.result = (0, []) ∧ num u 0x6001 1 0 = min v 1 ∧
      (∀ i, i < 144 →
        let f := num s 0x2001 (i + 1) 1450
        num u 0x2001 (i + 1) 1450 = if num s 0x6001 1 0 = 1 ∧ v = 0 then f - (f - 600) % 25 else f) ∧ u.cores = s.cores

/-- Every command of the device runs: the commands that a state accepts (well formed, and fitting the units of the part) are exactly those that
answer a next state; none ends in a fault, and what is not accepted is refused as ill formed. -/
def Obligations.EveryCommandRuns : Prop :=
  ∀ (i : Instr) (s : State), (accepts s i = true ↔ ∃ t, exec i s = .next t) ∧
    (accepts s i = false → exec i s = .refused .illFormed) ∧ ∀ f, exec i s ≠ .fault f

/-- A step takes the command at the front of the queue and runs it on the state with the queue's rest. With no command waiting a tick of the
reference passes (the model's choice, assumption 3): the time base advances by 10 ns and the running Lath schedules by 16 cycles, unless VDD_AON has not
come into range. -/
def Obligations.StepTakesTheFront : Prop :=
  (∀ (c : Instr) (t : List Instr) (s : State), s.pending = c :: t → step s = exec c { s with pending := t }) ∧
  (∀ (s : State), s.pending = [] → step s = .next (idleTick s) ∧ (railGet s 13 ≠ .inRange → step s = .next s) ∧
    (railGet s 13 = .inRange → s.dict.waiting = [] → ∃ u : State, step s = .next u ∧ time u = (time s + 10) % 2 ^ 64 ∧
      (∀ e ∈ u.lath.scheds, ∃ d ∈ s.lath.scheds, e.1 = d.1 ∧ e.2 = (if d.2.running then { d.2 with k := d.2.k + 16 } else d.2)) ∧
      u.lath.scheds.length = s.lath.scheds.length ∧ u.cores = s.cores ∧ u.work = s.work ∧ u.dict = s.dict ∧ u.power = s.power))

/-- R48, R80, R81, R289, R518, R537, R540, R548: what reset leaves. No command waits; READY_STATE is RESET, nothing is out of service; every thread-group slot
is FREE, every section active, every line invalid, every register 0; the burst store is full; no session lives and the first session ID is 1; no partition
and no context exists; memory lists nothing. (Where the spec states no reset value, zero is the model's choice: assumption 12.)

R22: the skip map after reset is legal. (Its values are the model's choice: the spec gives none, assumption 6.) -/
def Obligations.AfterReset : Prop :=
  (
    let s := State.reset
    s.pending = [] ∧ s.power.ready = .reset ∧ s.power.oos = 0 ∧ s.power.pins = { pwrGood := false, throttleReq := false } ∧
    (∀ c t, (slotAt s c t).st = .free ∧ (∀ r, sRead (slotAt s c t) r = 0) ∧ ∀ r l, vRead (slotAt s c t) r l = 0) ∧
    (∀ x, s.ret.get x = .active) ∧ (∀ k line, findWay (sliceGet s k).c line = none) ∧ s.hbm.cells = [] ∧
    s.power.store = (2100000 - 1600000) * 10000 ∧ s.dict.sessions = [] ∧ s.dict.nextId = 1 ∧
    (∀ p, (partGet s p).st = .none) ∧ (∀ c, (ctxGet s c).st = .none ∧ (ringGet s c).st = .disabled) ∧
    (∀ r, railGet s r = .off) ∧ (∀ d, (domGet s d).st = .off) ∧ (∀ p, (portGet s p).st ≠ .active) ∧ s.host.linkUp = false ∧
    s.askar.sec.lc = .blank ∧ s.askar.sec.entriesLeft = 64 ∧ s.askar.log = [] ∧ s.errs.recs = []) ∧
  (
    skipLegal State.reset)

/-- R22, R80: what is fused stays. No step changes the part's identity, so that its skip map stays legal: the two disabled columns of a row are
in increasing order and not adjacent. And every step takes exactly the front of the queue. -/
def Obligations.FusesStay : Prop :=
  ∀ (s u : State), step s = .next u →
    u.part = s.part ∧ u.pending = s.pending.tail ∧ (skipLegal s → skipLegal u)
end

