-- ==== Sys2Proof/Laws/Store.lean ====
section
/-! SUPPORT. The laws of sparse stores and of byte memories: what a read answers after a write, and that every operation
keeps the canonical form. -/
namespace Sys2Proof.Machine

variable {α : Type}

/-- Read after write: the key written answers the new value, every other key what it answered before. -/
@[simp] theorem sget_sput (d : α) (m : SMap α) (k k' : Nat) (v : α) :
    sget d (sput m k v) k' = if k = k' then v else sget d m k' := by
  induction m with
  | nil => simp [sput, sget]
  | cons e t ih =>
    obtain ⟨a, b⟩ := e
    simp only [sput]
    split
    · simp [sget]
    · split
      · rename_i h; subst h; simp only [sget]; split <;> rfl
      · simp only [sget, ih]
        split
        · rename_i h1 h2 h3; subst h3; simp [Ne.symm, h2]
        · rfl

/-- The same for the search that says whether a key is listed. -/
@[simp] theorem sfind_sput (m : SMap α) (k k' : Nat) (v : α) :
    sfind (sput m k v) k' = if k = k' then some v else sfind m k' := by
  induction m with
  | nil => simp [sput, sfind]
  | cons e t ih =>
    obtain ⟨a, b⟩ := e
    simp only [sput]
    split
    · simp [sfind]
    · split
      · rename_i h; subst h; simp only [sfind]; split <;> rfl
      · simp only [sfind, ih]
        split
        · rename_i h1 h2 h3; subst h3; simp [h2]
        · rfl

/-- A key that is dropped answers the default, every other key what it answered before. -/
@[simp] theorem sget_sdel (d : α) (m : SMap α) (k k' : Nat) :
    sget d (sdel m k) k' = if k = k' then d else sget d m k' := by
  induction m with
  | nil => simp [sdel, sget]
  | cons e t ih =>
    obtain ⟨a, b⟩ := e
    by_cases h : a = k
    · have e : sdel ((a, b) :: t) k = sdel t k := by simp [sdel, h]
      rw [e, ih]
      simp only [sget]
      split
      · rfl
      · rename_i hne; rw [if_neg (by omega)]
    · have e : sdel ((a, b) :: t) k = (a, b) :: sdel t k := by simp [sdel, h]
      rw [e]
      simp only [sget, ih]
      split
      · rename_i he; rw [if_neg (by omega)]
      · rfl

theorem keysRiseFrom_mono {lo lo' : Nat} (h : lo' ≤ lo) : ∀ {m : SMap α}, keysRiseFrom lo m = true → keysRiseFrom lo' m = true
  | [], _ => rfl
  | (k, v) :: t, hm => by simp only [keysRiseFrom, Bool.and_eq_true, decide_eq_true_eq] at *; exact ⟨by omega, hm.2⟩

theorem keysRiseFrom_sput {lo k : Nat} (v : α) (hk : lo ≤ k) :
    ∀ {m : SMap α}, keysRiseFrom lo m = true → keysRiseFrom lo (sput m k v) = true
  | [], _ => by simp [sput, keysRiseFrom, hk]
  | (a, b) :: t, hm => by
    simp only [keysRiseFrom, Bool.and_eq_true, decide_eq_true_eq] at hm
    simp only [sput]
    split
    · simp only [keysRiseFrom, Bool.and_eq_true, decide_eq_true_eq]
      exact ⟨hk, by omega, hm.2⟩
    · split
      · rename_i h; subst h
        simp only [keysRiseFrom, Bool.and_eq_true, decide_eq_true_eq]; exact ⟨hk, hm.2⟩
      · simp only [keysRiseFrom, Bool.and_eq_true, decide_eq_true_eq]
        exact ⟨hm.1, keysRiseFrom_sput v (by omega) hm.2⟩

theorem keysRiseFrom_filter (p : Nat × α → Bool) :
    ∀ {lo : Nat} {m : SMap α}, keysRiseFrom lo m = true → keysRiseFrom lo (m.filter p) = true
  | _, [], _ => rfl
  | lo, (a, b) :: t, hm => by
    simp only [keysRiseFrom, Bool.and_eq_true, decide_eq_true_eq] at hm
    simp only [List.filter_cons]
    split
    · simp only [keysRiseFrom, Bool.and_eq_true, decide_eq_true_eq]; exact ⟨hm.1, keysRiseFrom_filter p hm.2⟩
    · exact keysRiseFrom_mono (by omega) (keysRiseFrom_filter p hm.2)

/-- A write keeps the keys of a store in order. -/
theorem keysRise_sput {m : SMap α} (k : Nat) (v : α) (h : keysRise m = true) : keysRise (sput m k v) = true :=
  keysRiseFrom_sput v (Nat.zero_le k) h

/-- Dropping a key keeps them in order. -/
theorem keysRise_sdel {m : SMap α} (k : Nat) (h : keysRise m = true) : keysRise (sdel m k) = true :=
  keysRiseFrom_filter _ h

theorem all_sput (p : Nat × α → Bool) (k : Nat) (v : α) (hp : p (k, v) = true) :
    ∀ {m : SMap α}, m.all p = true → (sput m k v).all p = true
  | [], _ => by simp [sput, hp]
  | (a, b) :: t, hm => by
    simp only [List.all_cons, Bool.and_eq_true] at hm
    simp only [sput]
    split
    · simp [hp, hm.1, hm.2]
    · split
      · simp [hp, hm.2]
      · simp [hm.1, all_sput p k v hp hm.2]

/-- A write of one byte keeps the canonical form of a memory. -/
theorem memWrite_wf {m : Memory} (a : Nat) (b : Byte) (h : Memory.wf m = true) : Memory.wf (memWrite m a b) = true := by
  simp only [Memory.wf, Bool.and_eq_true] at *
  unfold memWrite
  split
  · exact ⟨keysRise_sdel a h.1, by
      simp only [List.all_eq_true] at *; intro x hx; exact h.2 x (List.mem_of_mem_filter hx)⟩
  · rename_i hb
    exact ⟨keysRise_sput a b h.1, all_sput _ a b (by simpa using hb) h.2⟩

/-- So does a write of a run of bytes. -/
theorem memWriteN_wf (l : List Byte) : ∀ {m : Memory} (a : Nat), Memory.wf m = true → Memory.wf (memWriteN m a l) = true := by
  induction l with
  | nil => intro m a h; exact h
  | cons b t ih => intro m a h; exact ih (a + 1) (memWrite_wf a b h)

/-- So does a write under byte enables. -/
theorem memWriteMasked_wf (l : List (Bool × Byte)) :
    ∀ {m : Memory} (a : Nat), Memory.wf m = true → Memory.wf (memWriteMasked m a l) = true := by
  induction l with
  | nil => intro m a h; exact h
  | cons e t ih =>
    intro m a h
    obtain ⟨en, b⟩ := e
    simp only [memWriteMasked]
    cases en
    · simpa using ih (a + 1) h
    · simpa using ih (a + 1) (memWrite_wf a b h)

/-- The empty memory has the canonical form. -/
theorem memory_nil_wf : Memory.wf ([] : Memory) = true := rfl

/-- A byte read after a write of one byte. -/
@[simp] theorem memRead_memWrite (m : Memory) (a a' : Nat) (b : Byte) :
    memRead (memWrite m a b) a' = if a = a' then b else memRead m a' := by
  unfold memRead memWrite
  split
  · rename_i h; subst h; simp
  · simp

/-- A byte outside a run that is written reads as before. -/
theorem memRead_memWriteN_out (l : List Byte) :
    ∀ (m : Memory) (a a' : Nat), a' < a ∨ a + l.length ≤ a' → memRead (memWriteN m a l) a' = memRead m a' := by
  induction l with
  | nil => intro m a a' _; rfl
  | cons b t ih =>
    intro m a a' h
    simp only [List.length_cons] at h
    simp only [memWriteN]
    rw [ih _ _ _ (by omega), memRead_memWrite, if_neg (by omega)]

/-- A byte inside it reads as the byte written there. -/
theorem memRead_memWriteN_in (l : List Byte) :
    ∀ (m : Memory) (a i : Nat) (h : i < l.length), memRead (memWriteN m a l) (a + i) = l[i] := by
  induction l with
  | nil => intro m a i h; exact absurd h (by simp)
  | cons b t ih =>
    intro m a i h
    simp only [memWriteN]
    cases i with
    | zero => rw [Nat.add_zero, memRead_memWriteN_out t _ _ _ (Or.inl (by omega))]; simp
    | succ j =>
      have := ih (memWrite m a b) (a + 1) j (by simpa using h)
      rw [show a + (j + 1) = a + 1 + j by omega, this]; rfl

/-- A run that was written reads back. -/
theorem memReadN_memWriteN (l : List Byte) (m : Memory) (a : Nat) : memReadN (memWriteN m a l) a l.length = l := by
  have key : ∀ (n i : Nat), i + n = l.length → memReadN (memWriteN m a l) (a + i) n = l.drop i := by
    intro n
    induction n with
    | zero => intro i h; rw [List.drop_eq_nil_of_le (by omega)]; rfl
    | succ k ih =>
      intro i h
      have hi : i < l.length := by omega
      simp only [memReadN]
      rw [memRead_memWriteN_in l m a i hi, show a + i + 1 = a + (i + 1) by omega, ih (i + 1) (by omega), ← List.drop_eq_getElem_cons hi]
  simpa using key l.length 0 (by omega)

/-- Little-endian bytes of a number give it back, up to their width (R6). -/
theorem leNat_leBytes : ∀ (n v : Nat), leNat (leBytes n v) = v % 256 ^ n
  | 0, v => by simp [leBytes, leNat, Nat.mod_one]
  | n + 1, v => by
    simp only [leBytes, leNat, leNat_leBytes n, BitVec.toNat_ofNat]
    rw [show (256 : Nat) ^ (n + 1) = 256 * 256 ^ n from Nat.pow_succ', Nat.mod_mul]

@[simp] theorem leBytes_length : ∀ (n v : Nat), (leBytes n v).length = n
  | 0, _ => rfl
  | n + 1, v => by simp [leBytes, leBytes_length n]

end Sys2Proof.Machine
end

