-- ==== Sys2Proof/Laws/State.lean ====
section
/-! SUPPORT. What each named update of the state leaves as it was, field by field, and what reading back answers. -/
namespace Sys2Proof.Machine

/-! ### setNum -/

section
variable (idx sub v : Nat) (s : State)
@[simp] theorem setNum_pending : (setNum idx sub v s).pending = s.pending := rfl
@[simp] theorem setNum_cores : (setNum idx sub v s).cores = s.cores := rfl
@[simp] theorem setNum_lath : (setNum idx sub v s).lath = s.lath := rfl
@[simp] theorem setNum_ret : (setNum idx sub v s).ret = s.ret := rfl
@[simp] theorem setNum_scrim : (setNum idx sub v s).scrim = s.scrim := rfl
@[simp] theorem setNum_uc : (setNum idx sub v s).uc = s.uc := rfl
@[simp] theorem setNum_hbm : (setNum idx sub v s).hbm = s.hbm := rfl
@[simp] theorem setNum_helda : (setNum idx sub v s).helda = s.helda := rfl
@[simp] theorem setNum_carrak : (setNum idx sub v s).carrak = s.carrak := rfl
@[simp] theorem setNum_host : (setNum idx sub v s).host = s.host := rfl
@[simp] theorem setNum_work : (setNum idx sub v s).work = s.work := rfl
@[simp] theorem setNum_askar : (setNum idx sub v s).askar = s.askar := rfl
@[simp] theorem setNum_power : (setNum idx sub v s).power = s.power := rfl
@[simp] theorem setNum_errs : (setNum idx sub v s).errs = s.errs := rfl
@[simp] theorem setNum_part : (setNum idx sub v s).part = s.part := rfl
@[simp] theorem setNum_freeCtr : (setNum idx sub v s).freeCtr = s.freeCtr := rfl
@[simp] theorem setNum_dict_sessions : (setNum idx sub v s).dict.sessions = s.dict.sessions := rfl
@[simp] theorem setNum_dict_nextId : (setNum idx sub v s).dict.nextId = s.dict.nextId := rfl
@[simp] theorem setNum_dict_lockouts : (setNum idx sub v s).dict.lockouts = s.dict.lockouts := rfl
@[simp] theorem setNum_dict_clampSeq : (setNum idx sub v s).dict.clampSeq = s.dict.clampSeq := rfl
@[simp] theorem setNum_dict_clampTotal : (setNum idx sub v s).dict.clampTotal = s.dict.clampTotal := rfl
@[simp] theorem setNum_dict_clampRecs : (setNum idx sub v s).dict.clampRecs = s.dict.clampRecs := rfl
@[simp] theorem setNum_dict_mailboxes : (setNum idx sub v s).dict.mailboxes = s.dict.mailboxes := rfl
@[simp] theorem setNum_dict_waiting : (setNum idx sub v s).dict.waiting = s.dict.waiting := rfl
@[simp] theorem setNum_dict_i3c : (setNum idx sub v s).dict.i3c = s.dict.i3c := rfl
@[simp] theorem setNum_dict_out : (setNum idx sub v s).dict.out = s.dict.out := rfl
@[simp] theorem setNum_dict_ignLogged : (setNum idx sub v s).dict.ignLogged = s.dict.ignLogged := rfl
@[simp] theorem setNum_dict_orphans : (setNum idx sub v s).dict.orphans = s.dict.orphans := rfl
@[simp] theorem setNum_dict_busy : (setNum idx sub v s).dict.busy = s.dict.busy := rfl
@[simp] theorem setNum_dict_result : (setNum idx sub v s).dict.result = s.dict.result := rfl
end

/-! ### setCore -/

section
variable (c : Nat) (x : Core) (s : State)
@[simp] theorem setCore_pending : (setCore c x s).pending = s.pending := rfl
@[simp] theorem setCore_lath : (setCore c x s).lath = s.lath := rfl
@[simp] theorem setCore_ret : (setCore c x s).ret = s.ret := rfl
@[simp] theorem setCore_scrim : (setCore c x s).scrim = s.scrim := rfl
@[simp] theorem setCore_uc : (setCore c x s).uc = s.uc := rfl
@[simp] theorem setCore_hbm : (setCore c x s).hbm = s.hbm := rfl
@[simp] theorem setCore_helda : (setCore c x s).helda = s.helda := rfl
@[simp] theorem setCore_carrak : (setCore c x s).carrak = s.carrak := rfl
@[simp] theorem setCore_host : (setCore c x s).host = s.host := rfl
@[simp] theorem setCore_work : (setCore c x s).work = s.work := rfl
@[simp] theorem setCore_dict : (setCore c x s).dict = s.dict := rfl
@[simp] theorem setCore_askar : (setCore c x s).askar = s.askar := rfl
@[simp] theorem setCore_power : (setCore c x s).power = s.power := rfl
@[simp] theorem setCore_errs : (setCore c x s).errs = s.errs := rfl
@[simp] theorem setCore_part : (setCore c x s).part = s.part := rfl
@[simp] theorem setCore_freeCtr : (setCore c x s).freeCtr = s.freeCtr := rfl
end

/-! ### setCtx -/

section
variable (c : Nat) (x : Ctx) (s : State)
@[simp] theorem setCtx_pending : (setCtx c x s).pending = s.pending := rfl
@[simp] theorem setCtx_cores : (setCtx c x s).cores = s.cores := rfl
@[simp] theorem setCtx_lath : (setCtx c x s).lath = s.lath := rfl
@[simp] theorem setCtx_ret : (setCtx c x s).ret = s.ret := rfl
@[simp] theorem setCtx_scrim : (setCtx c x s).scrim = s.scrim := rfl
@[simp] theorem setCtx_uc : (setCtx c x s).uc = s.uc := rfl
@[simp] theorem setCtx_hbm : (setCtx c x s).hbm = s.hbm := rfl
@[simp] theorem setCtx_helda : (setCtx c x s).helda = s.helda := rfl
@[simp] theorem setCtx_carrak : (setCtx c x s).carrak = s.carrak := rfl
@[simp] theorem setCtx_host : (setCtx c x s).host = s.host := rfl
@[simp] theorem setCtx_dict : (setCtx c x s).dict = s.dict := rfl
@[simp] theorem setCtx_askar : (setCtx c x s).askar = s.askar := rfl
@[simp] theorem setCtx_power : (setCtx c x s).power = s.power := rfl
@[simp] theorem setCtx_errs : (setCtx c x s).errs = s.errs := rfl
@[simp] theorem setCtx_part : (setCtx c x s).part = s.part := rfl
@[simp] theorem setCtx_freeCtr : (setCtx c x s).freeCtr = s.freeCtr := rfl
@[simp] theorem setCtx_work_parts : (setCtx c x s).work.parts = s.work.parts := rfl
@[simp] theorem setCtx_work_arrays : (setCtx c x s).work.arrays = s.work.arrays := rfl
@[simp] theorem setCtx_work_rejects : (setCtx c x s).work.rejects = s.work.rejects := rfl
end

/-! ### setPart -/

section
variable (p : Nat) (x : Partition) (s : State)
@[simp] theorem setPart_pending : (setPart p x s).pending = s.pending := rfl
@[simp] theorem setPart_cores : (setPart p x s).cores = s.cores := rfl
@[simp] theorem setPart_lath : (setPart p x s).lath = s.lath := rfl
@[simp] theorem setPart_ret : (setPart p x s).ret = s.ret := rfl
@[simp] theorem setPart_scrim : (setPart p x s).scrim = s.scrim := rfl
@[simp] theorem setPart_uc : (setPart p x s).uc = s.uc := rfl
@[simp] theorem setPart_hbm : (setPart p x s).hbm = s.hbm := rfl
@[simp] theorem setPart_helda : (setPart p x s).helda = s.helda := rfl
@[simp] theorem setPart_carrak : (setPart p x s).carrak = s.carrak := rfl
@[simp] theorem setPart_host : (setPart p x s).host = s.host := rfl
@[simp] theorem setPart_dict : (setPart p x s).dict = s.dict := rfl
@[simp] theorem setPart_askar : (setPart p x s).askar = s.askar := rfl
@[simp] theorem setPart_power : (setPart p x s).power = s.power := rfl
@[simp] theorem setPart_errs : (setPart p x s).errs = s.errs := rfl
@[simp] theorem setPart_part : (setPart p x s).part = s.part := rfl
@[simp] theorem setPart_freeCtr : (setPart p x s).freeCtr = s.freeCtr := rfl
@[simp] theorem setPart_work_ctxs : (setPart p x s).work.ctxs = s.work.ctxs := rfl
@[simp] theorem setPart_work_arrays : (setPart p x s).work.arrays = s.work.arrays := rfl
@[simp] theorem setPart_work_rejects : (setPart p x s).work.rejects = s.work.rejects := rfl
end

/-! ### setMsix -/

section
variable (fn : Fn) (v : Nat) (e : MsixEntry) (s : State)
@[simp] theorem setMsix_pending : (setMsix fn v e s).pending = s.pending := rfl
@[simp] theorem setMsix_cores : (setMsix fn v e s).cores = s.cores := rfl
@[simp] theorem setMsix_lath : (setMsix fn v e s).lath = s.lath := rfl
@[simp] theorem setMsix_ret : (setMsix fn v e s).ret = s.ret := rfl
@[simp] theorem setMsix_scrim : (setMsix fn v e s).scrim = s.scrim := rfl
@[simp] theorem setMsix_uc : (setMsix fn v e s).uc = s.uc := rfl
@[simp] theorem setMsix_hbm : (setMsix fn v e s).hbm = s.hbm := rfl
@[simp] theorem setMsix_helda : (setMsix fn v e s).helda = s.helda := rfl
@[simp] theorem setMsix_carrak : (setMsix fn v e s).carrak = s.carrak := rfl
@[simp] theorem setMsix_work : (setMsix fn v e s).work = s.work := rfl
@[simp] theorem setMsix_dict : (setMsix fn v e s).dict = s.dict := rfl
@[simp] theorem setMsix_askar : (setMsix fn v e s).askar = s.askar := rfl
@[simp] theorem setMsix_power : (setMsix fn v e s).power = s.power := rfl
@[simp] theorem setMsix_errs : (setMsix fn v e s).errs = s.errs := rfl
@[simp] theorem setMsix_part : (setMsix fn v e s).part = s.part := rfl
@[simp] theorem setMsix_freeCtr : (setMsix fn v e s).freeCtr = s.freeCtr := rfl
@[simp] theorem setMsix_host_linkUp : (setMsix fn v e s).host.linkUp = s.host.linkUp := rfl
@[simp] theorem setMsix_host_gen : (setMsix fn v e s).host.gen = s.host.gen := rfl
@[simp] theorem setMsix_host_width : (setMsix fn v e s).host.width = s.host.width := rfl
@[simp] theorem setMsix_host_flit : (setMsix fn v e s).host.flit = s.host.flit := rfl
@[simp] theorem setMsix_host_cxlActive : (setMsix fn v e s).host.cxlActive = s.host.cxlActive := rfl
@[simp] theorem setMsix_host_cxlLatched : (setMsix fn v e s).host.cxlLatched = s.host.cxlLatched := rfl
@[simp] theorem setMsix_host_perstHigh : (setMsix fn v e s).host.perstHigh = s.host.perstHigh := rfl
@[simp] theorem setMsix_host_d3hot : (setMsix fn v e s).host.d3hot = s.host.d3hot := rfl
@[simp] theorem setMsix_host_vfEnable : (setMsix fn v e s).host.vfEnable = s.host.vfEnable := rfl
@[simp] theorem setMsix_host_vfBar2Bytes : (setMsix fn v e s).host.vfBar2Bytes = s.host.vfBar2Bytes := rfl
@[simp] theorem setMsix_host_pfBar2Bytes : (setMsix fn v e s).host.pfBar2Bytes = s.host.pfBar2Bytes := rfl
@[simp] theorem setMsix_host_vfMap : (setMsix fn v e s).host.vfMap = s.host.vfMap := rfl
@[simp] theorem setMsix_host_rings : (setMsix fn v e s).host.rings = s.host.rings := rfl
@[simp] theorem setMsix_host_reqs : (setMsix fn v e s).host.reqs = s.host.reqs := rfl
@[simp] theorem setMsix_host_nextTag : (setMsix fn v e s).host.nextTag = s.host.nextTag := rfl
@[simp] theorem setMsix_host_out : (setMsix fn v e s).host.out = s.host.out := rfl
@[simp] theorem setMsix_host_bi : (setMsix fn v e s).host.bi = s.host.bi := rfl
@[simp] theorem setMsix_host_agent20 : (setMsix fn v e s).host.agent20 = s.host.agent20 := rfl
@[simp] theorem setMsix_host_cxlWait : (setMsix fn v e s).host.cxlWait = s.host.cxlWait := rfl
end

/-! ### hostSend -/

section
variable (m : HostOut) (s : State)
@[simp] theorem hostSend_pending : (hostSend m s).pending = s.pending := rfl
@[simp] theorem hostSend_cores : (hostSend m s).cores = s.cores := rfl
@[simp] theorem hostSend_lath : (hostSend m s).lath = s.lath := rfl
@[simp] theorem hostSend_ret : (hostSend m s).ret = s.ret := rfl
@[simp] theorem hostSend_scrim : (hostSend m s).scrim = s.scrim := rfl
@[simp] theorem hostSend_uc : (hostSend m s).uc = s.uc := rfl
@[simp] theorem hostSend_hbm : (hostSend m s).hbm = s.hbm := rfl
@[simp] theorem hostSend_helda : (hostSend m s).helda = s.helda := rfl
@[simp] theorem hostSend_carrak : (hostSend m s).carrak = s.carrak := rfl
@[simp] theorem hostSend_work : (hostSend m s).work = s.work := rfl
@[simp] theorem hostSend_dict : (hostSend m s).dict = s.dict := rfl
@[simp] theorem hostSend_askar : (hostSend m s).askar = s.askar := rfl
@[simp] theorem hostSend_power : (hostSend m s).power = s.power := rfl
@[simp] theorem hostSend_errs : (hostSend m s).errs = s.errs := rfl
@[simp] theorem hostSend_part : (hostSend m s).part = s.part := rfl
@[simp] theorem hostSend_freeCtr : (hostSend m s).freeCtr = s.freeCtr := rfl
@[simp] theorem hostSend_host_linkUp : (hostSend m s).host.linkUp = s.host.linkUp := rfl
@[simp] theorem hostSend_host_gen : (hostSend m s).host.gen = s.host.gen := rfl
@[simp] theorem hostSend_host_width : (hostSend m s).host.width = s.host.width := rfl
@[simp] theorem hostSend_host_flit : (hostSend m s).host.flit = s.host.flit := rfl
@[simp] theorem hostSend_host_cxlActive : (hostSend m s).host.cxlActive = s.host.cxlActive := rfl
@[simp] theorem hostSend_host_cxlLatched : (hostSend m s).host.cxlLatched = s.host.cxlLatched := rfl
@[simp] theorem hostSend_host_perstHigh : (hostSend m s).host.perstHigh = s.host.perstHigh := rfl
@[simp] theorem hostSend_host_d3hot : (hostSend m s).host.d3hot = s.host.d3hot := rfl
@[simp] theorem hostSend_host_vfEnable : (hostSend m s).host.vfEnable = s.host.vfEnable := rfl
@[simp] theorem hostSend_host_vfBar2Bytes : (hostSend m s).host.vfBar2Bytes = s.host.vfBar2Bytes := rfl
@[simp] theorem hostSend_host_pfBar2Bytes : (hostSend m s).host.pfBar2Bytes = s.host.pfBar2Bytes := rfl
@[simp] theorem hostSend_host_vfMap : (hostSend m s).host.vfMap = s.host.vfMap := rfl
@[simp] theorem hostSend_host_rings : (hostSend m s).host.rings = s.host.rings := rfl
@[simp] theorem hostSend_host_msix : (hostSend m s).host.msix = s.host.msix := rfl
@[simp] theorem hostSend_host_reqs : (hostSend m s).host.reqs = s.host.reqs := rfl
@[simp] theorem hostSend_host_nextTag : (hostSend m s).host.nextTag = s.host.nextTag := rfl
@[simp] theorem hostSend_host_bi : (hostSend m s).host.bi = s.host.bi := rfl
@[simp] theorem hostSend_host_agent20 : (hostSend m s).host.agent20 = s.host.agent20 := rfl
@[simp] theorem hostSend_host_cxlWait : (hostSend m s).host.cxlWait = s.host.cxlWait := rfl
end

/-! ### setWm -/

section
variable (id : Nat) (w : Wm) (s : State)
@[simp] theorem setWm_pending : (setWm id w s).pending = s.pending := rfl
@[simp] theorem setWm_cores : (setWm id w s).cores = s.cores := rfl
@[simp] theorem setWm_lath : (setWm id w s).lath = s.lath := rfl
@[simp] theorem setWm_ret : (setWm id w s).ret = s.ret := rfl
@[simp] theorem setWm_scrim : (setWm id w s).scrim = s.scrim := rfl
@[simp] theorem setWm_uc : (setWm id w s).uc = s.uc := rfl
@[simp] theorem setWm_hbm : (setWm id w s).hbm = s.hbm := rfl
@[simp] theorem setWm_helda : (setWm id w s).helda = s.helda := rfl
@[simp] theorem setWm_carrak : (setWm id w s).carrak = s.carrak := rfl
@[simp] theorem setWm_host : (setWm id w s).host = s.host := rfl
@[simp] theorem setWm_work : (setWm id w s).work = s.work := rfl
@[simp] theorem setWm_dict : (setWm id w s).dict = s.dict := rfl
@[simp] theorem setWm_power : (setWm id w s).power = s.power := rfl
@[simp] theorem setWm_errs : (setWm id w s).errs = s.errs := rfl
@[simp] theorem setWm_part : (setWm id w s).part = s.part := rfl
@[simp] theorem setWm_freeCtr : (setWm id w s).freeCtr = s.freeCtr := rfl
@[simp] theorem setWm_askar_run : (setWm id w s).askar.run = s.askar.run := rfl
@[simp] theorem setWm_askar_timeNs : (setWm id w s).askar.timeNs = s.askar.timeNs := rfl
@[simp] theorem setWm_askar_nextSeq : (setWm id w s).askar.nextSeq = s.askar.nextSeq := rfl
@[simp] theorem setWm_askar_log : (setWm id w s).askar.log = s.askar.log := rfl
@[simp] theorem setWm_askar_hwQueue : (setWm id w s).askar.hwQueue = s.askar.hwQueue := rfl
@[simp] theorem setWm_askar_flash : (setWm id w s).askar.flash = s.askar.flash := rfl
@[simp] theorem setWm_askar_toFlash : (setWm id w s).askar.toFlash = s.askar.toFlash := rfl
@[simp] theorem setWm_askar_alerts : (setWm id w s).askar.alerts = s.askar.alerts := rfl
@[simp] theorem setWm_askar_alertPin : (setWm id w s).askar.alertPin = s.askar.alertPin := rfl
@[simp] theorem setWm_askar_temps : (setWm id w s).askar.temps = s.askar.temps := rfl
@[simp] theorem setWm_askar_volts : (setWm id w s).askar.volts = s.askar.volts := rfl
@[simp] theorem setWm_askar_currs : (setWm id w s).askar.currs = s.askar.currs := rfl
@[simp] theorem setWm_askar_pwr : (setWm id w s).askar.pwr = s.askar.pwr := rfl
@[simp] theorem setWm_askar_pwrRail : (setWm id w s).askar.pwrRail = s.askar.pwrRail := rfl
@[simp] theorem setWm_askar_pwrPart : (setWm id w s).askar.pwrPart = s.askar.pwrPart := rfl
@[simp] theorem setWm_askar_fanDuty : (setWm id w s).askar.fanDuty = s.askar.fanDuty := rfl
@[simp] theorem setWm_askar_fw : (setWm id w s).askar.fw = s.askar.fw := rfl
@[simp] theorem setWm_askar_lastRestart : (setWm id w s).askar.lastRestart = s.askar.lastRestart := rfl
@[simp] theorem setWm_askar_watchdogs : (setWm id w s).askar.watchdogs = s.askar.watchdogs := rfl
@[simp] theorem setWm_askar_otherTried : (setWm id w s).askar.otherTried = s.askar.otherTried := rfl
@[simp] theorem setWm_askar_bootCount : (setWm id w s).askar.bootCount = s.askar.bootCount := rfl
@[simp] theorem setWm_askar_sec : (setWm id w s).askar.sec = s.askar.sec := rfl
end

/-! ### finish -/

section
variable (status : Nat) (payload : List Byte) (s : State)
@[simp] theorem finish_pending : (finish status payload s).pending = s.pending := rfl
@[simp] theorem finish_cores : (finish status payload s).cores = s.cores := rfl
@[simp] theorem finish_lath : (finish status payload s).lath = s.lath := rfl
@[simp] theorem finish_ret : (finish status payload s).ret = s.ret := rfl
@[simp] theorem finish_scrim : (finish status payload s).scrim = s.scrim := rfl
@[simp] theorem finish_uc : (finish status payload s).uc = s.uc := rfl
@[simp] theorem finish_hbm : (finish status payload s).hbm = s.hbm := rfl
@[simp] theorem finish_helda : (finish status payload s).helda = s.helda := rfl
@[simp] theorem finish_carrak : (finish status payload s).carrak = s.carrak := rfl
@[simp] theorem finish_host : (finish status payload s).host = s.host := rfl
@[simp] theorem finish_work : (finish status payload s).work = s.work := rfl
@[simp] theorem finish_askar : (finish status payload s).askar = s.askar := rfl
@[simp] theorem finish_power : (finish status payload s).power = s.power := rfl
@[simp] theorem finish_errs : (finish status payload s).errs = s.errs := rfl
@[simp] theorem finish_part : (finish status payload s).part = s.part := rfl
@[simp] theorem finish_freeCtr : (finish status payload s).freeCtr = s.freeCtr := rfl
@[simp] theorem finish_dict_sessions : (finish status payload s).dict.sessions = s.dict.sessions := rfl
@[simp] theorem finish_dict_nextId : (finish status payload s).dict.nextId = s.dict.nextId := rfl
@[simp] theorem finish_dict_lockouts : (finish status payload s).dict.lockouts = s.dict.lockouts := rfl
@[simp] theorem finish_dict_clampSeq : (finish status payload s).dict.clampSeq = s.dict.clampSeq := rfl
@[simp] theorem finish_dict_clampTotal : (finish status payload s).dict.clampTotal = s.dict.clampTotal := rfl
@[simp] theorem finish_dict_clampRecs : (finish status payload s).dict.clampRecs = s.dict.clampRecs := rfl
@[simp] theorem finish_dict_nums : (finish status payload s).dict.nums = s.dict.nums := rfl
@[simp] theorem finish_dict_mailboxes : (finish status payload s).dict.mailboxes = s.dict.mailboxes := rfl
@[simp] theorem finish_dict_waiting : (finish status payload s).dict.waiting = s.dict.waiting := rfl
@[simp] theorem finish_dict_i3c : (finish status payload s).dict.i3c = s.dict.i3c := rfl
@[simp] theorem finish_dict_out : (finish status payload s).dict.out = s.dict.out := rfl
@[simp] theorem finish_dict_ignLogged : (finish status payload s).dict.ignLogged = s.dict.ignLogged := rfl
@[simp] theorem finish_dict_orphans : (finish status payload s).dict.orphans = s.dict.orphans := rfl
@[simp] theorem finish_dict_busy : (finish status payload s).dict.busy = s.dict.busy := rfl
end

/-! ### modSession -/

section
variable (sid : Nat) (f : Session → Session) (s : State)
@[simp] theorem modSession_pending : (modSession sid f s).pending = s.pending := rfl
@[simp] theorem modSession_cores : (modSession sid f s).cores = s.cores := rfl
@[simp] theorem modSession_lath : (modSession sid f s).lath = s.lath := rfl
@[simp] theorem modSession_ret : (modSession sid f s).ret = s.ret := rfl
@[simp] theorem modSession_scrim : (modSession sid f s).scrim = s.scrim := rfl
@[simp] theorem modSession_uc : (modSession sid f s).uc = s.uc := rfl
@[simp] theorem modSession_hbm : (modSession sid f s).hbm = s.hbm := rfl
@[simp] theorem modSession_helda : (modSession sid f s).helda = s.helda := rfl
@[simp] theorem modSession_carrak : (modSession sid f s).carrak = s.carrak := rfl
@[simp] theorem modSession_host : (modSession sid f s).host = s.host := rfl
@[simp] theorem modSession_work : (modSession sid f s).work = s.work := rfl
@[simp] theorem modSession_askar : (modSession sid f s).askar = s.askar := rfl
@[simp] theorem modSession_power : (modSession sid f s).power = s.power := rfl
@[simp] theorem modSession_errs : (modSession sid f s).errs = s.errs := rfl
@[simp] theorem modSession_part : (modSession sid f s).part = s.part := rfl
@[simp] theorem modSession_freeCtr : (modSession sid f s).freeCtr = s.freeCtr := rfl
@[simp] theorem modSession_dict_nextId : (modSession sid f s).dict.nextId = s.dict.nextId := rfl
@[simp] theorem modSession_dict_lockouts : (modSession sid f s).dict.lockouts = s.dict.lockouts := rfl
@[simp] theorem modSession_dict_clampSeq : (modSession sid f s).dict.clampSeq = s.dict.clampSeq := rfl
@[simp] theorem modSession_dict_clampTotal : (modSession sid f s).dict.clampTotal = s.dict.clampTotal := rfl
@[simp] theorem modSession_dict_clampRecs : (modSession sid f s).dict.clampRecs = s.dict.clampRecs := rfl
@[simp] theorem modSession_dict_nums : (modSession sid f s).dict.nums = s.dict.nums := rfl
@[simp] theorem modSession_dict_mailboxes : (modSession sid f s).dict.mailboxes = s.dict.mailboxes := rfl
@[simp] theorem modSession_dict_waiting : (modSession sid f s).dict.waiting = s.dict.waiting := rfl
@[simp] theorem modSession_dict_i3c : (modSession sid f s).dict.i3c = s.dict.i3c := rfl
@[simp] theorem modSession_dict_out : (modSession sid f s).dict.out = s.dict.out := rfl
@[simp] theorem modSession_dict_ignLogged : (modSession sid f s).dict.ignLogged = s.dict.ignLogged := rfl
@[simp] theorem modSession_dict_orphans : (modSession sid f s).dict.orphans = s.dict.orphans := rfl
@[simp] theorem modSession_dict_busy : (modSession sid f s).dict.busy = s.dict.busy := rfl
@[simp] theorem modSession_dict_result : (modSession sid f s).dict.result = s.dict.result := rfl
end

/-! ### setMailbox -/

section
variable (k : Nat) (x : Mailbox) (s : State)
@[simp] theorem setMailbox_pending : (setMailbox k x s).pending = s.pending := rfl
@[simp] theorem setMailbox_cores : (setMailbox k x s).cores = s.cores := rfl
@[simp] theorem setMailbox_lath : (setMailbox k x s).lath = s.lath := rfl
@[simp] theorem setMailbox_ret : (setMailbox k x s).ret = s.ret := rfl
@[simp] theorem setMailbox_scrim : (setMailbox k x s).scrim = s.scrim := rfl
@[simp] theorem setMailbox_uc : (setMailbox k x s).uc = s.uc := rfl
@[simp] theorem setMailbox_hbm : (setMailbox k x s).hbm = s.hbm := rfl
@[simp] theorem setMailbox_helda : (setMailbox k x s).helda = s.helda := rfl
@[simp] theorem setMailbox_carrak : (setMailbox k x s).carrak = s.carrak := rfl
@[simp] theorem setMailbox_host : (setMailbox k x s).host = s.host := rfl
@[simp] theorem setMailbox_work : (setMailbox k x s).work = s.work := rfl
@[simp] theorem setMailbox_askar : (setMailbox k x s).askar = s.askar := rfl
@[simp] theorem setMailbox_power : (setMailbox k x s).power = s.power := rfl
@[simp] theorem setMailbox_errs : (setMailbox k x s).errs = s.errs := rfl
@[simp] theorem setMailbox_part : (setMailbox k x s).part = s.part := rfl
@[simp] theorem setMailbox_freeCtr : (setMailbox k x s).freeCtr = s.freeCtr := rfl
@[simp] theorem setMailbox_dict_sessions : (setMailbox k x s).dict.sessions = s.dict.sessions := rfl
@[simp] theorem setMailbox_dict_nextId : (setMailbox k x s).dict.nextId = s.dict.nextId := rfl
@[simp] theorem setMailbox_dict_lockouts : (setMailbox k x s).dict.lockouts = s.dict.lockouts := rfl
@[simp] theorem setMailbox_dict_clampSeq : (setMailbox k x s).dict.clampSeq = s.dict.clampSeq := rfl
@[simp] theorem setMailbox_dict_clampTotal : (setMailbox k x s).dict.clampTotal = s.dict.clampTotal := rfl
@[simp] theorem setMailbox_dict_clampRecs : (setMailbox k x s).dict.clampRecs = s.dict.clampRecs := rfl
@[simp] theorem setMailbox_dict_nums : (setMailbox k x s).dict.nums = s.dict.nums := rfl
@[simp] theorem setMailbox_dict_waiting : (setMailbox k x s).dict.waiting = s.dict.waiting := rfl
@[simp] theorem setMailbox_dict_i3c : (setMailbox k x s).dict.i3c = s.dict.i3c := rfl
@[simp] theorem setMailbox_dict_out : (setMailbox k x s).dict.out = s.dict.out := rfl
@[simp] theorem setMailbox_dict_ignLogged : (setMailbox k x s).dict.ignLogged = s.dict.ignLogged := rfl
@[simp] theorem setMailbox_dict_orphans : (setMailbox k x s).dict.orphans = s.dict.orphans := rfl
@[simp] theorem setMailbox_dict_busy : (setMailbox k x s).dict.busy = s.dict.busy := rfl
@[simp] theorem setMailbox_dict_result : (setMailbox k x s).dict.result = s.dict.result := rfl
end

/-! ### setChan -/

section
variable (k : Nat) (c : HbmChan) (s : State)
@[simp] theorem setChan_pending : (setChan k c s).pending = s.pending := rfl
@[simp] theorem setChan_cores : (setChan k c s).cores = s.cores := rfl
@[simp] theorem setChan_lath : (setChan k c s).lath = s.lath := rfl
@[simp] theorem setChan_ret : (setChan k c s).ret = s.ret := rfl
@[simp] theorem setChan_scrim : (setChan k c s).scrim = s.scrim := rfl
@[simp] theorem setChan_uc : (setChan k c s).uc = s.uc := rfl
@[simp] theorem setChan_helda : (setChan k c s).helda = s.helda := rfl
@[simp] theorem setChan_carrak : (setChan k c s).carrak = s.carrak := rfl
@[simp] theorem setChan_host : (setChan k c s).host = s.host := rfl
@[simp] theorem setChan_work : (setChan k c s).work = s.work := rfl
@[simp] theorem setChan_dict : (setChan k c s).dict = s.dict := rfl
@[simp] theorem setChan_askar : (setChan k c s).askar = s.askar := rfl
@[simp] theorem setChan_power : (setChan k c s).power = s.power := rfl
@[simp] theorem setChan_errs : (setChan k c s).errs = s.errs := rfl
@[simp] theorem setChan_part : (setChan k c s).part = s.part := rfl
@[simp] theorem setChan_freeCtr : (setChan k c s).freeCtr = s.freeCtr := rfl
@[simp] theorem setChan_hbm_cells : (setChan k c s).hbm.cells = s.hbm.cells := rfl
@[simp] theorem setChan_hbm_poison : (setChan k c s).hbm.poison = s.hbm.poison := rfl
@[simp] theorem setChan_hbm_stackOf : (setChan k c s).hbm.stackOf = s.hbm.stackOf := rfl
@[simp] theorem setChan_hbm_redirect : (setChan k c s).hbm.redirect = s.hbm.redirect := rfl
@[simp] theorem setChan_hbm_ppr : (setChan k c s).hbm.ppr = s.hbm.ppr := rfl
@[simp] theorem setChan_hbm_ceTimes : (setChan k c s).hbm.ceTimes = s.hbm.ceTimes := rfl
@[simp] theorem setChan_hbm_res : (setChan k c s).hbm.res = s.hbm.res := rfl
@[simp] theorem setChan_hbm_buckets : (setChan k c s).hbm.buckets = s.hbm.buckets := rfl
@[simp] theorem setChan_hbm_nextSeq : (setChan k c s).hbm.nextSeq = s.hbm.nextSeq := rfl
end

/-! ### setStack -/

section
variable (k : Nat) (x : Stack) (s : State)
@[simp] theorem setStack_pending : (setStack k x s).pending = s.pending := rfl
@[simp] theorem setStack_cores : (setStack k x s).cores = s.cores := rfl
@[simp] theorem setStack_lath : (setStack k x s).lath = s.lath := rfl
@[simp] theorem setStack_ret : (setStack k x s).ret = s.ret := rfl
@[simp] theorem setStack_scrim : (setStack k x s).scrim = s.scrim := rfl
@[simp] theorem setStack_uc : (setStack k x s).uc = s.uc := rfl
@[simp] theorem setStack_helda : (setStack k x s).helda = s.helda := rfl
@[simp] theorem setStack_carrak : (setStack k x s).carrak = s.carrak := rfl
@[simp] theorem setStack_host : (setStack k x s).host = s.host := rfl
@[simp] theorem setStack_work : (setStack k x s).work = s.work := rfl
@[simp] theorem setStack_dict : (setStack k x s).dict = s.dict := rfl
@[simp] theorem setStack_askar : (setStack k x s).askar = s.askar := rfl
@[simp] theorem setStack_power : (setStack k x s).power = s.power := rfl
@[simp] theorem setStack_errs : (setStack k x s).errs = s.errs := rfl
@[simp] theorem setStack_part : (setStack k x s).part = s.part := rfl
@[simp] theorem setStack_freeCtr : (setStack k x s).freeCtr = s.freeCtr := rfl
@[simp] theorem setStack_hbm_cells : (setStack k x s).hbm.cells = s.hbm.cells := rfl
@[simp] theorem setStack_hbm_poison : (setStack k x s).hbm.poison = s.hbm.poison := rfl
@[simp] theorem setStack_hbm_chans : (setStack k x s).hbm.chans = s.hbm.chans := rfl
@[simp] theorem setStack_hbm_redirect : (setStack k x s).hbm.redirect = s.hbm.redirect := rfl
@[simp] theorem setStack_hbm_ppr : (setStack k x s).hbm.ppr = s.hbm.ppr := rfl
@[simp] theorem setStack_hbm_ceTimes : (setStack k x s).hbm.ceTimes = s.hbm.ceTimes := rfl
@[simp] theorem setStack_hbm_res : (setStack k x s).hbm.res = s.hbm.res := rfl
@[simp] theorem setStack_hbm_buckets : (setStack k x s).hbm.buckets = s.hbm.buckets := rfl
@[simp] theorem setStack_hbm_nextSeq : (setStack k x s).hbm.nextSeq = s.hbm.nextSeq := rfl
end

/-! ### setPort -/

section
variable (p : Nat) (x : Port) (s : State)
@[simp] theorem setPort_pending : (setPort p x s).pending = s.pending := rfl
@[simp] theorem setPort_cores : (setPort p x s).cores = s.cores := rfl
@[simp] theorem setPort_lath : (setPort p x s).lath = s.lath := rfl
@[simp] theorem setPort_ret : (setPort p x s).ret = s.ret := rfl
@[simp] theorem setPort_scrim : (setPort p x s).scrim = s.scrim := rfl
@[simp] theorem setPort_uc : (setPort p x s).uc = s.uc := rfl
@[simp] theorem setPort_hbm : (setPort p x s).hbm = s.hbm := rfl
@[simp] theorem setPort_helda : (setPort p x s).helda = s.helda := rfl
@[simp] theorem setPort_host : (setPort p x s).host = s.host := rfl
@[simp] theorem setPort_work : (setPort p x s).work = s.work := rfl
@[simp] theorem setPort_dict : (setPort p x s).dict = s.dict := rfl
@[simp] theorem setPort_askar : (setPort p x s).askar = s.askar := rfl
@[simp] theorem setPort_power : (setPort p x s).power = s.power := rfl
@[simp] theorem setPort_errs : (setPort p x s).errs = s.errs := rfl
@[simp] theorem setPort_part : (setPort p x s).part = s.part := rfl
@[simp] theorem setPort_freeCtr : (setPort p x s).freeCtr = s.freeCtr := rfl
@[simp] theorem setPort_carrak_idState : (setPort p x s).carrak.idState = s.carrak.idState := rfl
@[simp] theorem setPort_carrak_deviceId : (setPort p x s).carrak.deviceId = s.carrak.deviceId := rfl
@[simp] theorem setPort_carrak_reclaim : (setPort p x s).carrak.reclaim = s.carrak.reclaim := rfl
@[simp] theorem setPort_carrak_bootCount : (setPort p x s).carrak.bootCount = s.carrak.bootCount := rfl
@[simp] theorem setPort_carrak_lsaSeq : (setPort p x s).carrak.lsaSeq = s.carrak.lsaSeq := rfl
@[simp] theorem setPort_carrak_lsas : (setPort p x s).carrak.lsas = s.carrak.lsas := rfl
@[simp] theorem setPort_carrak_routes : (setPort p x s).carrak.routes = s.carrak.routes := rfl
@[simp] theorem setPort_carrak_stale : (setPort p x s).carrak.stale = s.carrak.stale := rfl
@[simp] theorem setPort_carrak_unreachable : (setPort p x s).carrak.unreachable = s.carrak.unreachable := rfl
@[simp] theorem setPort_carrak_craze : (setPort p x s).carrak.craze = s.carrak.craze := rfl
@[simp] theorem setPort_carrak_crazeGrant : (setPort p x s).carrak.crazeGrant = s.carrak.crazeGrant := rfl
@[simp] theorem setPort_carrak_crazeBytes : (setPort p x s).carrak.crazeBytes = s.carrak.crazeBytes := rfl
@[simp] theorem setPort_carrak_remoteReqs : (setPort p x s).carrak.remoteReqs = s.carrak.remoteReqs := rfl
@[simp] theorem setPort_carrak_out : (setPort p x s).carrak.out = s.carrak.out := rfl
@[simp] theorem setPort_carrak_nonce : (setPort p x s).carrak.nonce = s.carrak.nonce := rfl
@[simp] theorem setPort_carrak_lossSeen : (setPort p x s).carrak.lossSeen = s.carrak.lossSeen := rfl
@[simp] theorem setPort_carrak_delivered : (setPort p x s).carrak.delivered = s.carrak.delivered := rfl
end

/-! ### linkOut -/

section
variable (m : LinkOut) (s : State)
@[simp] theorem linkOut_pending : (linkOut m s).pending = s.pending := rfl
@[simp] theorem linkOut_cores : (linkOut m s).cores = s.cores := rfl
@[simp] theorem linkOut_lath : (linkOut m s).lath = s.lath := rfl
@[simp] theorem linkOut_ret : (linkOut m s).ret = s.ret := rfl
@[simp] theorem linkOut_scrim : (linkOut m s).scrim = s.scrim := rfl
@[simp] theorem linkOut_uc : (linkOut m s).uc = s.uc := rfl
@[simp] theorem linkOut_hbm : (linkOut m s).hbm = s.hbm := rfl
@[simp] theorem linkOut_helda : (linkOut m s).helda = s.helda := rfl
@[simp] theorem linkOut_host : (linkOut m s).host = s.host := rfl
@[simp] theorem linkOut_work : (linkOut m s).work = s.work := rfl
@[simp] theorem linkOut_dict : (linkOut m s).dict = s.dict := rfl
@[simp] theorem linkOut_askar : (linkOut m s).askar = s.askar := rfl
@[simp] theorem linkOut_power : (linkOut m s).power = s.power := rfl
@[simp] theorem linkOut_errs : (linkOut m s).errs = s.errs := rfl
@[simp] theorem linkOut_part : (linkOut m s).part = s.part := rfl
@[simp] theorem linkOut_freeCtr : (linkOut m s).freeCtr = s.freeCtr := rfl
@[simp] theorem linkOut_carrak_ports : (linkOut m s).carrak.ports = s.carrak.ports := rfl
@[simp] theorem linkOut_carrak_idState : (linkOut m s).carrak.idState = s.carrak.idState := rfl
@[simp] theorem linkOut_carrak_deviceId : (linkOut m s).carrak.deviceId = s.carrak.deviceId := rfl
@[simp] theorem linkOut_carrak_reclaim : (linkOut m s).carrak.reclaim = s.carrak.reclaim := rfl
@[simp] theorem linkOut_carrak_bootCount : (linkOut m s).carrak.bootCount = s.carrak.bootCount := rfl
@[simp] theorem linkOut_carrak_lsaSeq : (linkOut m s).carrak.lsaSeq = s.carrak.lsaSeq := rfl
@[simp] theorem linkOut_carrak_lsas : (linkOut m s).carrak.lsas = s.carrak.lsas := rfl
@[simp] theorem linkOut_carrak_routes : (linkOut m s).carrak.routes = s.carrak.routes := rfl
@[simp] theorem linkOut_carrak_stale : (linkOut m s).carrak.stale = s.carrak.stale := rfl
@[simp] theorem linkOut_carrak_unreachable : (linkOut m s).carrak.unreachable = s.carrak.unreachable := rfl
@[simp] theorem linkOut_carrak_craze : (linkOut m s).carrak.craze = s.carrak.craze := rfl
@[simp] theorem linkOut_carrak_crazeGrant : (linkOut m s).carrak.crazeGrant = s.carrak.crazeGrant := rfl
@[simp] theorem linkOut_carrak_crazeBytes : (linkOut m s).carrak.crazeBytes = s.carrak.crazeBytes := rfl
@[simp] theorem linkOut_carrak_remoteReqs : (linkOut m s).carrak.remoteReqs = s.carrak.remoteReqs := rfl
@[simp] theorem linkOut_carrak_nonce : (linkOut m s).carrak.nonce = s.carrak.nonce := rfl
@[simp] theorem linkOut_carrak_lossSeen : (linkOut m s).carrak.lossSeen = s.carrak.lossSeen := rfl
@[simp] theorem linkOut_carrak_delivered : (linkOut m s).carrak.delivered = s.carrak.delivered := rfl
end

/-! ### setSlice -/

section
variable (k : Nat) (x : Slice) (s : State)
@[simp] theorem setSlice_pending : (setSlice k x s).pending = s.pending := rfl
@[simp] theorem setSlice_cores : (setSlice k x s).cores = s.cores := rfl
@[simp] theorem setSlice_lath : (setSlice k x s).lath = s.lath := rfl
@[simp] theorem setSlice_ret : (setSlice k x s).ret = s.ret := rfl
@[simp] theorem setSlice_scrim : (setSlice k x s).scrim = s.scrim := rfl
@[simp] theorem setSlice_hbm : (setSlice k x s).hbm = s.hbm := rfl
@[simp] theorem setSlice_helda : (setSlice k x s).helda = s.helda := rfl
@[simp] theorem setSlice_carrak : (setSlice k x s).carrak = s.carrak := rfl
@[simp] theorem setSlice_host : (setSlice k x s).host = s.host := rfl
@[simp] theorem setSlice_work : (setSlice k x s).work = s.work := rfl
@[simp] theorem setSlice_dict : (setSlice k x s).dict = s.dict := rfl
@[simp] theorem setSlice_askar : (setSlice k x s).askar = s.askar := rfl
@[simp] theorem setSlice_power : (setSlice k x s).power = s.power := rfl
@[simp] theorem setSlice_errs : (setSlice k x s).errs = s.errs := rfl
@[simp] theorem setSlice_part : (setSlice k x s).part = s.part := rfl
@[simp] theorem setSlice_freeCtr : (setSlice k x s).freeCtr = s.freeCtr := rfl
@[simp] theorem setSlice_uc_cc : (setSlice k x s).uc.cc = s.uc.cc := rfl
@[simp] theorem setSlice_uc_homes : (setSlice k x s).uc.homes = s.uc.homes := rfl
@[simp] theorem setSlice_uc_remoteEpochs : (setSlice k x s).uc.remoteEpochs = s.uc.remoteEpochs := rfl
@[simp] theorem setSlice_uc_once : (setSlice k x s).uc.once = s.uc.once := rfl
@[simp] theorem setSlice_uc_sent : (setSlice k x s).uc.sent = s.uc.sent := rfl
@[simp] theorem setSlice_uc_replies : (setSlice k x s).uc.replies = s.uc.replies := rfl
@[simp] theorem setSlice_uc_nextTxn : (setSlice k x s).uc.nextTxn = s.uc.nextTxn := rfl
@[simp] theorem setSlice_uc_reqCount : (setSlice k x s).uc.reqCount = s.uc.reqCount := rfl
@[simp] theorem setSlice_uc_flushing : (setSlice k x s).uc.flushing = s.uc.flushing := rfl
@[simp] theorem setSlice_uc_scrubbed : (setSlice k x s).uc.scrubbed = s.uc.scrubbed := rfl
end

/-! ### setHome -/

section
variable (b : Nat) (h : HomeDie) (s : State)
@[simp] theorem setHome_pending : (setHome b h s).pending = s.pending := rfl
@[simp] theorem setHome_cores : (setHome b h s).cores = s.cores := rfl
@[simp] theorem setHome_lath : (setHome b h s).lath = s.lath := rfl
@[simp] theorem setHome_ret : (setHome b h s).ret = s.ret := rfl
@[simp] theorem setHome_scrim : (setHome b h s).scrim = s.scrim := rfl
@[simp] theorem setHome_hbm : (setHome b h s).hbm = s.hbm := rfl
@[simp] theorem setHome_helda : (setHome b h s).helda = s.helda := rfl
@[simp] theorem setHome_carrak : (setHome b h s).carrak = s.carrak := rfl
@[simp] theorem setHome_host : (setHome b h s).host = s.host := rfl
@[simp] theorem setHome_work : (setHome b h s).work = s.work := rfl
@[simp] theorem setHome_dict : (setHome b h s).dict = s.dict := rfl
@[simp] theorem setHome_askar : (setHome b h s).askar = s.askar := rfl
@[simp] theorem setHome_power : (setHome b h s).power = s.power := rfl
@[simp] theorem setHome_errs : (setHome b h s).errs = s.errs := rfl
@[simp] theorem setHome_part : (setHome b h s).part = s.part := rfl
@[simp] theorem setHome_freeCtr : (setHome b h s).freeCtr = s.freeCtr := rfl
@[simp] theorem setHome_uc_slices : (setHome b h s).uc.slices = s.uc.slices := rfl
@[simp] theorem setHome_uc_cc : (setHome b h s).uc.cc = s.uc.cc := rfl
@[simp] theorem setHome_uc_remoteEpochs : (setHome b h s).uc.remoteEpochs = s.uc.remoteEpochs := rfl
@[simp] theorem setHome_uc_once : (setHome b h s).uc.once = s.uc.once := rfl
@[simp] theorem setHome_uc_sent : (setHome b h s).uc.sent = s.uc.sent := rfl
@[simp] theorem setHome_uc_replies : (setHome b h s).uc.replies = s.uc.replies := rfl
@[simp] theorem setHome_uc_nextTxn : (setHome b h s).uc.nextTxn = s.uc.nextTxn := rfl
@[simp] theorem setHome_uc_reqCount : (setHome b h s).uc.reqCount = s.uc.reqCount := rfl
@[simp] theorem setHome_uc_flushing : (setHome b h s).uc.flushing = s.uc.flushing := rfl
@[simp] theorem setHome_uc_scrubbed : (setHome b h s).uc.scrubbed = s.uc.scrubbed := rfl
end

/-! ### setAgent20 -/

section
variable (l : Nat) (x : Agent20) (s : State)
@[simp] theorem setAgent20_pending : (setAgent20 l x s).pending = s.pending := rfl
@[simp] theorem setAgent20_cores : (setAgent20 l x s).cores = s.cores := rfl
@[simp] theorem setAgent20_lath : (setAgent20 l x s).lath = s.lath := rfl
@[simp] theorem setAgent20_ret : (setAgent20 l x s).ret = s.ret := rfl
@[simp] theorem setAgent20_scrim : (setAgent20 l x s).scrim = s.scrim := rfl
@[simp] theorem setAgent20_uc : (setAgent20 l x s).uc = s.uc := rfl
@[simp] theorem setAgent20_hbm : (setAgent20 l x s).hbm = s.hbm := rfl
@[simp] theorem setAgent20_helda : (setAgent20 l x s).helda = s.helda := rfl
@[simp] theorem setAgent20_carrak : (setAgent20 l x s).carrak = s.carrak := rfl
@[simp] theorem setAgent20_work : (setAgent20 l x s).work = s.work := rfl
@[simp] theorem setAgent20_dict : (setAgent20 l x s).dict = s.dict := rfl
@[simp] theorem setAgent20_askar : (setAgent20 l x s).askar = s.askar := rfl
@[simp] theorem setAgent20_power : (setAgent20 l x s).power = s.power := rfl
@[simp] theorem setAgent20_errs : (setAgent20 l x s).errs = s.errs := rfl
@[simp] theorem setAgent20_part : (setAgent20 l x s).part = s.part := rfl
@[simp] theorem setAgent20_freeCtr : (setAgent20 l x s).freeCtr = s.freeCtr := rfl
@[simp] theorem setAgent20_host_linkUp : (setAgent20 l x s).host.linkUp = s.host.linkUp := rfl
@[simp] theorem setAgent20_host_gen : (setAgent20 l x s).host.gen = s.host.gen := rfl
@[simp] theorem setAgent20_host_width : (setAgent20 l x s).host.width = s.host.width := rfl
@[simp] theorem setAgent20_host_flit : (setAgent20 l x s).host.flit = s.host.flit := rfl
@[simp] theorem setAgent20_host_cxlActive : (setAgent20 l x s).host.cxlActive = s.host.cxlActive := rfl
@[simp] theorem setAgent20_host_cxlLatched : (setAgent20 l x s).host.cxlLatched = s.host.cxlLatched := rfl
@[simp] theorem setAgent20_host_perstHigh : (setAgent20 l x s).host.perstHigh = s.host.perstHigh := rfl
@[simp] theorem setAgent20_host_d3hot : (setAgent20 l x s).host.d3hot = s.host.d3hot := rfl
@[simp] theorem setAgent20_host_vfEnable : (setAgent20 l x s).host.vfEnable = s.host.vfEnable := rfl
@[simp] theorem setAgent20_host_vfBar2Bytes : (setAgent20 l x s).host.vfBar2Bytes = s.host.vfBar2Bytes := rfl
@[simp] theorem setAgent20_host_pfBar2Bytes : (setAgent20 l x s).host.pfBar2Bytes = s.host.pfBar2Bytes := rfl
@[simp] theorem setAgent20_host_vfMap : (setAgent20 l x s).host.vfMap = s.host.vfMap := rfl
@[simp] theorem setAgent20_host_rings : (setAgent20 l x s).host.rings = s.host.rings := rfl
@[simp] theorem setAgent20_host_msix : (setAgent20 l x s).host.msix = s.host.msix := rfl
@[simp] theorem setAgent20_host_reqs : (setAgent20 l x s).host.reqs = s.host.reqs := rfl
@[simp] theorem setAgent20_host_nextTag : (setAgent20 l x s).host.nextTag = s.host.nextTag := rfl
@[simp] theorem setAgent20_host_out : (setAgent20 l x s).host.out = s.host.out := rfl
@[simp] theorem setAgent20_host_bi : (setAgent20 l x s).host.bi = s.host.bi := rfl
@[simp] theorem setAgent20_host_cxlWait : (setAgent20 l x s).host.cxlWait = s.host.cxlWait := rfl
end

/-! ### received -/

section
variable (op : BOp) (m : BMsg) (s : State)
@[simp] theorem received_pending : (received op m s).pending = s.pending := rfl
@[simp] theorem received_cores : (received op m s).cores = s.cores := rfl
@[simp] theorem received_lath : (received op m s).lath = s.lath := rfl
@[simp] theorem received_ret : (received op m s).ret = s.ret := rfl
@[simp] theorem received_scrim : (received op m s).scrim = s.scrim := rfl
@[simp] theorem received_hbm : (received op m s).hbm = s.hbm := rfl
@[simp] theorem received_helda : (received op m s).helda = s.helda := rfl
@[simp] theorem received_carrak : (received op m s).carrak = s.carrak := rfl
@[simp] theorem received_host : (received op m s).host = s.host := rfl
@[simp] theorem received_work : (received op m s).work = s.work := rfl
@[simp] theorem received_dict : (received op m s).dict = s.dict := rfl
@[simp] theorem received_askar : (received op m s).askar = s.askar := rfl
@[simp] theorem received_power : (received op m s).power = s.power := rfl
@[simp] theorem received_errs : (received op m s).errs = s.errs := rfl
@[simp] theorem received_part : (received op m s).part = s.part := rfl
@[simp] theorem received_freeCtr : (received op m s).freeCtr = s.freeCtr := rfl
@[simp] theorem received_uc_slices : (received op m s).uc.slices = s.uc.slices := rfl
@[simp] theorem received_uc_cc : (received op m s).uc.cc = s.uc.cc := rfl
@[simp] theorem received_uc_homes : (received op m s).uc.homes = s.uc.homes := rfl
@[simp] theorem received_uc_remoteEpochs : (received op m s).uc.remoteEpochs = s.uc.remoteEpochs := rfl
@[simp] theorem received_uc_once : (received op m s).uc.once = s.uc.once := rfl
@[simp] theorem received_uc_replies : (received op m s).uc.replies = s.uc.replies := rfl
@[simp] theorem received_uc_nextTxn : (received op m s).uc.nextTxn = s.uc.nextTxn := rfl
@[simp] theorem received_uc_reqCount : (received op m s).uc.reqCount = s.uc.reqCount := rfl
@[simp] theorem received_uc_flushing : (received op m s).uc.flushing = s.uc.flushing := rfl
@[simp] theorem received_uc_scrubbed : (received op m s).uc.scrubbed = s.uc.scrubbed := rfl
end

/-! ### reply -/

section
variable (a : Agent) (txn addr : Nat) (data : List Byte) (poison : Bool) (status : Nat) (s : State)
@[simp] theorem reply_pending : (reply a txn addr data poison status s).pending = s.pending := rfl
@[simp] theorem reply_cores : (reply a txn addr data poison status s).cores = s.cores := rfl
@[simp] theorem reply_lath : (reply a txn addr data poison status s).lath = s.lath := rfl
@[simp] theorem reply_ret : (reply a txn addr data poison status s).ret = s.ret := rfl
@[simp] theorem reply_scrim : (reply a txn addr data poison status s).scrim = s.scrim := rfl
@[simp] theorem reply_hbm : (reply a txn addr data poison status s).hbm = s.hbm := rfl
@[simp] theorem reply_helda : (reply a txn addr data poison status s).helda = s.helda := rfl
@[simp] theorem reply_carrak : (reply a txn addr data poison status s).carrak = s.carrak := rfl
@[simp] theorem reply_host : (reply a txn addr data poison status s).host = s.host := rfl
@[simp] theorem reply_work : (reply a txn addr data poison status s).work = s.work := rfl
@[simp] theorem reply_dict : (reply a txn addr data poison status s).dict = s.dict := rfl
@[simp] theorem reply_askar : (reply a txn addr data poison status s).askar = s.askar := rfl
@[simp] theorem reply_power : (reply a txn addr data poison status s).power = s.power := rfl
@[simp] theorem reply_errs : (reply a txn addr data poison status s).errs = s.errs := rfl
@[simp] theorem reply_part : (reply a txn addr data poison status s).part = s.part := rfl
@[simp] theorem reply_freeCtr : (reply a txn addr data poison status s).freeCtr = s.freeCtr := rfl
@[simp] theorem reply_uc_slices : (reply a txn addr data poison status s).uc.slices = s.uc.slices := rfl
@[simp] theorem reply_uc_cc : (reply a txn addr data poison status s).uc.cc = s.uc.cc := rfl
@[simp] theorem reply_uc_homes : (reply a txn addr data poison status s).uc.homes = s.uc.homes := rfl
@[simp] theorem reply_uc_remoteEpochs : (reply a txn addr data poison status s).uc.remoteEpochs = s.uc.remoteEpochs := rfl
@[simp] theorem reply_uc_once : (reply a txn addr data poison status s).uc.once = s.uc.once := rfl
@[simp] theorem reply_uc_sent : (reply a txn addr data poison status s).uc.sent = s.uc.sent := rfl
@[simp] theorem reply_uc_nextTxn : (reply a txn addr data poison status s).uc.nextTxn = s.uc.nextTxn := rfl
@[simp] theorem reply_uc_reqCount : (reply a txn addr data poison status s).uc.reqCount = s.uc.reqCount := rfl
@[simp] theorem reply_uc_flushing : (reply a txn addr data poison status s).uc.flushing = s.uc.flushing := rfl
@[simp] theorem reply_uc_scrubbed : (reply a txn addr data poison status s).uc.scrubbed = s.uc.scrubbed := rfl
end

/-! ### setRet -/

section
variable (sec : Nat) (v : RetState) (s : State)
@[simp] theorem setRet_pending : (setRet sec v s).pending = s.pending := rfl
@[simp] theorem setRet_cores : (setRet sec v s).cores = s.cores := rfl
@[simp] theorem setRet_lath : (setRet sec v s).lath = s.lath := rfl
@[simp] theorem setRet_scrim : (setRet sec v s).scrim = s.scrim := rfl
@[simp] theorem setRet_uc : (setRet sec v s).uc = s.uc := rfl
@[simp] theorem setRet_hbm : (setRet sec v s).hbm = s.hbm := rfl
@[simp] theorem setRet_helda : (setRet sec v s).helda = s.helda := rfl
@[simp] theorem setRet_carrak : (setRet sec v s).carrak = s.carrak := rfl
@[simp] theorem setRet_host : (setRet sec v s).host = s.host := rfl
@[simp] theorem setRet_work : (setRet sec v s).work = s.work := rfl
@[simp] theorem setRet_dict : (setRet sec v s).dict = s.dict := rfl
@[simp] theorem setRet_askar : (setRet sec v s).askar = s.askar := rfl
@[simp] theorem setRet_power : (setRet sec v s).power = s.power := rfl
@[simp] theorem setRet_errs : (setRet sec v s).errs = s.errs := rfl
@[simp] theorem setRet_part : (setRet sec v s).part = s.part := rfl
@[simp] theorem setRet_freeCtr : (setRet sec v s).freeCtr = s.freeCtr := rfl
@[simp] theorem setRet_ret_wakeQueue : (setRet sec v s).ret.wakeQueue = s.ret.wakeQueue := rfl
@[simp] theorem setRet_ret_held : (setRet sec v s).ret.held = s.ret.held := rfl
end

/-! ### setRouter -/

section
variable (c : Nat) (r : LathRouter) (s : State)
@[simp] theorem setRouter_pending : (setRouter c r s).pending = s.pending := rfl
@[simp] theorem setRouter_cores : (setRouter c r s).cores = s.cores := rfl
@[simp] theorem setRouter_ret : (setRouter c r s).ret = s.ret := rfl
@[simp] theorem setRouter_scrim : (setRouter c r s).scrim = s.scrim := rfl
@[simp] theorem setRouter_uc : (setRouter c r s).uc = s.uc := rfl
@[simp] theorem setRouter_hbm : (setRouter c r s).hbm = s.hbm := rfl
@[simp] theorem setRouter_helda : (setRouter c r s).helda = s.helda := rfl
@[simp] theorem setRouter_carrak : (setRouter c r s).carrak = s.carrak := rfl
@[simp] theorem setRouter_host : (setRouter c r s).host = s.host := rfl
@[simp] theorem setRouter_work : (setRouter c r s).work = s.work := rfl
@[simp] theorem setRouter_dict : (setRouter c r s).dict = s.dict := rfl
@[simp] theorem setRouter_askar : (setRouter c r s).askar = s.askar := rfl
@[simp] theorem setRouter_power : (setRouter c r s).power = s.power := rfl
@[simp] theorem setRouter_errs : (setRouter c r s).errs = s.errs := rfl
@[simp] theorem setRouter_part : (setRouter c r s).part = s.part := rfl
@[simp] theorem setRouter_freeCtr : (setRouter c r s).freeCtr = s.freeCtr := rfl
@[simp] theorem setRouter_lath_scheds : (setRouter c r s).lath.scheds = s.lath.scheds := rfl
@[simp] theorem setRouter_lath_flight : (setRouter c r s).lath.flight = s.lath.flight := rfl
@[simp] theorem setRouter_lath_savedFlight : (setRouter c r s).lath.savedFlight = s.lath.savedFlight := rfl
@[simp] theorem setRouter_lath_p : (setRouter c r s).lath.p = s.lath.p := rfl
@[simp] theorem setRouter_lath_groups : (setRouter c r s).lath.groups = s.lath.groups := rfl
end

/-! ### setSched -/

section
variable (ctx : Nat) (x : LathSched) (s : State)
@[simp] theorem setSched_pending : (setSched ctx x s).pending = s.pending := rfl
@[simp] theorem setSched_cores : (setSched ctx x s).cores = s.cores := rfl
@[simp] theorem setSched_ret : (setSched ctx x s).ret = s.ret := rfl
@[simp] theorem setSched_scrim : (setSched ctx x s).scrim = s.scrim := rfl
@[simp] theorem setSched_uc : (setSched ctx x s).uc = s.uc := rfl
@[simp] theorem setSched_hbm : (setSched ctx x s).hbm = s.hbm := rfl
@[simp] theorem setSched_helda : (setSched ctx x s).helda = s.helda := rfl
@[simp] theorem setSched_carrak : (setSched ctx x s).carrak = s.carrak := rfl
@[simp] theorem setSched_host : (setSched ctx x s).host = s.host := rfl
@[simp] theorem setSched_work : (setSched ctx x s).work = s.work := rfl
@[simp] theorem setSched_dict : (setSched ctx x s).dict = s.dict := rfl
@[simp] theorem setSched_askar : (setSched ctx x s).askar = s.askar := rfl
@[simp] theorem setSched_power : (setSched ctx x s).power = s.power := rfl
@[simp] theorem setSched_errs : (setSched ctx x s).errs = s.errs := rfl
@[simp] theorem setSched_part : (setSched ctx x s).part = s.part := rfl
@[simp] theorem setSched_freeCtr : (setSched ctx x s).freeCtr = s.freeCtr := rfl
@[simp] theorem setSched_lath_routers : (setSched ctx x s).lath.routers = s.lath.routers := rfl
@[simp] theorem setSched_lath_flight : (setSched ctx x s).lath.flight = s.lath.flight := rfl
@[simp] theorem setSched_lath_savedFlight : (setSched ctx x s).lath.savedFlight = s.lath.savedFlight := rfl
@[simp] theorem setSched_lath_p : (setSched ctx x s).lath.p = s.lath.p := rfl
@[simp] theorem setSched_lath_groups : (setSched ctx x s).lath.groups = s.lath.groups := rfl
end

/-! ### scrimDeliver -/

section
variable (n : Nat) (p : ScrimPkt) (s : State)
@[simp] theorem scrimDeliver_pending : (scrimDeliver n p s).pending = s.pending := rfl
@[simp] theorem scrimDeliver_cores : (scrimDeliver n p s).cores = s.cores := rfl
@[simp] theorem scrimDeliver_lath : (scrimDeliver n p s).lath = s.lath := rfl
@[simp] theorem scrimDeliver_ret : (scrimDeliver n p s).ret = s.ret := rfl
@[simp] theorem scrimDeliver_uc : (scrimDeliver n p s).uc = s.uc := rfl
@[simp] theorem scrimDeliver_hbm : (scrimDeliver n p s).hbm = s.hbm := rfl
@[simp] theorem scrimDeliver_helda : (scrimDeliver n p s).helda = s.helda := rfl
@[simp] theorem scrimDeliver_carrak : (scrimDeliver n p s).carrak = s.carrak := rfl
@[simp] theorem scrimDeliver_host : (scrimDeliver n p s).host = s.host := rfl
@[simp] theorem scrimDeliver_work : (scrimDeliver n p s).work = s.work := rfl
@[simp] theorem scrimDeliver_dict : (scrimDeliver n p s).dict = s.dict := rfl
@[simp] theorem scrimDeliver_askar : (scrimDeliver n p s).askar = s.askar := rfl
@[simp] theorem scrimDeliver_power : (scrimDeliver n p s).power = s.power := rfl
@[simp] theorem scrimDeliver_errs : (scrimDeliver n p s).errs = s.errs := rfl
@[simp] theorem scrimDeliver_part : (scrimDeliver n p s).part = s.part := rfl
@[simp] theorem scrimDeliver_freeCtr : (scrimDeliver n p s).freeCtr = s.freeCtr := rfl
@[simp] theorem scrimDeliver_scrim_cls : (scrimDeliver n p s).scrim.cls = s.scrim.cls := rfl
@[simp] theorem scrimDeliver_scrim_waiting : (scrimDeliver n p s).scrim.waiting = s.scrim.waiting := rfl
end

/-! ### setEnd -/

section
variable (e : Nat) (x : HeldaEnd) (s : State)
@[simp] theorem setEnd_pending : (setEnd e x s).pending = s.pending := rfl
@[simp] theorem setEnd_cores : (setEnd e x s).cores = s.cores := rfl
@[simp] theorem setEnd_lath : (setEnd e x s).lath = s.lath := rfl
@[simp] theorem setEnd_ret : (setEnd e x s).ret = s.ret := rfl
@[simp] theorem setEnd_scrim : (setEnd e x s).scrim = s.scrim := rfl
@[simp] theorem setEnd_uc : (setEnd e x s).uc = s.uc := rfl
@[simp] theorem setEnd_hbm : (setEnd e x s).hbm = s.hbm := rfl
@[simp] theorem setEnd_carrak : (setEnd e x s).carrak = s.carrak := rfl
@[simp] theorem setEnd_host : (setEnd e x s).host = s.host := rfl
@[simp] theorem setEnd_work : (setEnd e x s).work = s.work := rfl
@[simp] theorem setEnd_dict : (setEnd e x s).dict = s.dict := rfl
@[simp] theorem setEnd_askar : (setEnd e x s).askar = s.askar := rfl
@[simp] theorem setEnd_power : (setEnd e x s).power = s.power := rfl
@[simp] theorem setEnd_errs : (setEnd e x s).errs = s.errs := rfl
@[simp] theorem setEnd_part : (setEnd e x s).part = s.part := rfl
@[simp] theorem setEnd_freeCtr : (setEnd e x s).freeCtr = s.freeCtr := rfl
@[simp] theorem setEnd_helda_agents : (setEnd e x s).helda.agents = s.helda.agents := rfl
@[simp] theorem setEnd_helda_siteP : (setEnd e x s).helda.siteP = s.helda.siteP := rfl
@[simp] theorem setEnd_helda_delivered : (setEnd e x s).helda.delivered = s.helda.delivered := rfl
@[simp] theorem setEnd_helda_featureSet : (setEnd e x s).helda.featureSet = s.helda.featureSet := rfl
@[simp] theorem setEnd_helda_lost : (setEnd e x s).helda.lost = s.helda.lost := rfl
@[simp] theorem setEnd_helda_seqs : (setEnd e x s).helda.seqs = s.helda.seqs := rfl
end

/-! ### setArray -/

section
variable (a : Nat) (x : PlbArray) (s : State)
@[simp] theorem setArray_pending : (setArray a x s).pending = s.pending := rfl
@[simp] theorem setArray_cores : (setArray a x s).cores = s.cores := rfl
@[simp] theorem setArray_lath : (setArray a x s).lath = s.lath := rfl
@[simp] theorem setArray_ret : (setArray a x s).ret = s.ret := rfl
@[simp] theorem setArray_scrim : (setArray a x s).scrim = s.scrim := rfl
@[simp] theorem setArray_uc : (setArray a x s).uc = s.uc := rfl
@[simp] theorem setArray_hbm : (setArray a x s).hbm = s.hbm := rfl
@[simp] theorem setArray_helda : (setArray a x s).helda = s.helda := rfl
@[simp] theorem setArray_carrak : (setArray a x s).carrak = s.carrak := rfl
@[simp] theorem setArray_host : (setArray a x s).host = s.host := rfl
@[simp] theorem setArray_dict : (setArray a x s).dict = s.dict := rfl
@[simp] theorem setArray_askar : (setArray a x s).askar = s.askar := rfl
@[simp] theorem setArray_power : (setArray a x s).power = s.power := rfl
@[simp] theorem setArray_errs : (setArray a x s).errs = s.errs := rfl
@[simp] theorem setArray_part : (setArray a x s).part = s.part := rfl
@[simp] theorem setArray_freeCtr : (setArray a x s).freeCtr = s.freeCtr := rfl
@[simp] theorem setArray_work_parts : (setArray a x s).work.parts = s.work.parts := rfl
@[simp] theorem setArray_work_ctxs : (setArray a x s).work.ctxs = s.work.ctxs := rfl
@[simp] theorem setArray_work_rejects : (setArray a x s).work.rejects = s.work.rejects := rfl
end

/-! ### setRing -/

section
variable (c : Nat) (r : Ring) (s : State)
@[simp] theorem setRing_pending : (setRing c r s).pending = s.pending := rfl
@[simp] theorem setRing_cores : (setRing c r s).cores = s.cores := rfl
@[simp] theorem setRing_lath : (setRing c r s).lath = s.lath := rfl
@[simp] theorem setRing_ret : (setRing c r s).ret = s.ret := rfl
@[simp] theorem setRing_scrim : (setRing c r s).scrim = s.scrim := rfl
@[simp] theorem setRing_uc : (setRing c r s).uc = s.uc := rfl
@[simp] theorem setRing_hbm : (setRing c r s).hbm = s.hbm := rfl
@[simp] theorem setRing_helda : (setRing c r s).helda = s.helda := rfl
@[simp] theorem setRing_carrak : (setRing c r s).carrak = s.carrak := rfl
@[simp] theorem setRing_work : (setRing c r s).work = s.work := rfl
@[simp] theorem setRing_dict : (setRing c r s).dict = s.dict := rfl
@[simp] theorem setRing_askar : (setRing c r s).askar = s.askar := rfl
@[simp] theorem setRing_power : (setRing c r s).power = s.power := rfl
@[simp] theorem setRing_errs : (setRing c r s).errs = s.errs := rfl
@[simp] theorem setRing_part : (setRing c r s).part = s.part := rfl
@[simp] theorem setRing_freeCtr : (setRing c r s).freeCtr = s.freeCtr := rfl
@[simp] theorem setRing_host_linkUp : (setRing c r s).host.linkUp = s.host.linkUp := rfl
@[simp] theorem setRing_host_gen : (setRing c r s).host.gen = s.host.gen := rfl
@[simp] theorem setRing_host_width : (setRing c r s).host.width = s.host.width := rfl
@[simp] theorem setRing_host_flit : (setRing c r s).host.flit = s.host.flit := rfl
@[simp] theorem setRing_host_cxlActive : (setRing c r s).host.cxlActive = s.host.cxlActive := rfl
@[simp] theorem setRing_host_cxlLatched : (setRing c r s).host.cxlLatched = s.host.cxlLatched := rfl
@[simp] theorem setRing_host_perstHigh : (setRing c r s).host.perstHigh = s.host.perstHigh := rfl
@[simp] theorem setRing_host_d3hot : (setRing c r s).host.d3hot = s.host.d3hot := rfl
@[simp] theorem setRing_host_vfEnable : (setRing c r s).host.vfEnable = s.host.vfEnable := rfl
@[simp] theorem setRing_host_vfBar2Bytes : (setRing c r s).host.vfBar2Bytes = s.host.vfBar2Bytes := rfl
@[simp] theorem setRing_host_pfBar2Bytes : (setRing c r s).host.pfBar2Bytes = s.host.pfBar2Bytes := rfl
@[simp] theorem setRing_host_vfMap : (setRing c r s).host.vfMap = s.host.vfMap := rfl
@[simp] theorem setRing_host_msix : (setRing c r s).host.msix = s.host.msix := rfl
@[simp] theorem setRing_host_reqs : (setRing c r s).host.reqs = s.host.reqs := rfl
@[simp] theorem setRing_host_nextTag : (setRing c r s).host.nextTag = s.host.nextTag := rfl
@[simp] theorem setRing_host_out : (setRing c r s).host.out = s.host.out := rfl
@[simp] theorem setRing_host_bi : (setRing c r s).host.bi = s.host.bi := rfl
@[simp] theorem setRing_host_agent20 : (setRing c r s).host.agent20 = s.host.agent20 := rfl
@[simp] theorem setRing_host_cxlWait : (setRing c r s).host.cxlWait = s.host.cxlWait := rfl
end

/-! ### modAgent -/

section
variable (a : Nat) (f : PowerAgent → PowerAgent) (s : State)
@[simp] theorem modAgent_pending : (modAgent a f s).pending = s.pending := rfl
@[simp] theorem modAgent_cores : (modAgent a f s).cores = s.cores := rfl
@[simp] theorem modAgent_lath : (modAgent a f s).lath = s.lath := rfl
@[simp] theorem modAgent_ret : (modAgent a f s).ret = s.ret := rfl
@[simp] theorem modAgent_scrim : (modAgent a f s).scrim = s.scrim := rfl
@[simp] theorem modAgent_uc : (modAgent a f s).uc = s.uc := rfl
@[simp] theorem modAgent_hbm : (modAgent a f s).hbm = s.hbm := rfl
@[simp] theorem modAgent_carrak : (modAgent a f s).carrak = s.carrak := rfl
@[simp] theorem modAgent_host : (modAgent a f s).host = s.host := rfl
@[simp] theorem modAgent_work : (modAgent a f s).work = s.work := rfl
@[simp] theorem modAgent_dict : (modAgent a f s).dict = s.dict := rfl
@[simp] theorem modAgent_askar : (modAgent a f s).askar = s.askar := rfl
@[simp] theorem modAgent_power : (modAgent a f s).power = s.power := rfl
@[simp] theorem modAgent_errs : (modAgent a f s).errs = s.errs := rfl
@[simp] theorem modAgent_part : (modAgent a f s).part = s.part := rfl
@[simp] theorem modAgent_freeCtr : (modAgent a f s).freeCtr = s.freeCtr := rfl
@[simp] theorem modAgent_helda_ends : (modAgent a f s).helda.ends = s.helda.ends := rfl
@[simp] theorem modAgent_helda_siteP : (modAgent a f s).helda.siteP = s.helda.siteP := rfl
@[simp] theorem modAgent_helda_delivered : (modAgent a f s).helda.delivered = s.helda.delivered := rfl
@[simp] theorem modAgent_helda_featureSet : (modAgent a f s).helda.featureSet = s.helda.featureSet := rfl
@[simp] theorem modAgent_helda_lost : (modAgent a f s).helda.lost = s.helda.lost := rfl
@[simp] theorem modAgent_helda_seqs : (modAgent a f s).helda.seqs = s.helda.seqs := rfl
end

/-! ### setDom -/

section
variable (d : Nat) (x : Domain) (s : State)
@[simp] theorem setDom_pending : (setDom d x s).pending = s.pending := rfl
@[simp] theorem setDom_cores : (setDom d x s).cores = s.cores := rfl
@[simp] theorem setDom_lath : (setDom d x s).lath = s.lath := rfl
@[simp] theorem setDom_ret : (setDom d x s).ret = s.ret := rfl
@[simp] theorem setDom_scrim : (setDom d x s).scrim = s.scrim := rfl
@[simp] theorem setDom_uc : (setDom d x s).uc = s.uc := rfl
@[simp] theorem setDom_hbm : (setDom d x s).hbm = s.hbm := rfl
@[simp] theorem setDom_helda : (setDom d x s).helda = s.helda := rfl
@[simp] theorem setDom_carrak : (setDom d x s).carrak = s.carrak := rfl
@[simp] theorem setDom_host : (setDom d x s).host = s.host := rfl
@[simp] theorem setDom_work : (setDom d x s).work = s.work := rfl
@[simp] theorem setDom_dict : (setDom d x s).dict = s.dict := rfl
@[simp] theorem setDom_askar : (setDom d x s).askar = s.askar := rfl
@[simp] theorem setDom_errs : (setDom d x s).errs = s.errs := rfl
@[simp] theorem setDom_part : (setDom d x s).part = s.part := rfl
@[simp] theorem setDom_freeCtr : (setDom d x s).freeCtr = s.freeCtr := rfl
@[simp] theorem setDom_power_ready : (setDom d x s).power.ready = s.power.ready := rfl
@[simp] theorem setDom_power_readyTimeNs : (setDom d x s).power.readyTimeNs = s.power.readyTimeNs := rfl
@[simp] theorem setDom_power_readyReason : (setDom d x s).power.readyReason = s.power.readyReason := rfl
@[simp] theorem setDom_power_startCause : (setDom d x s).power.startCause = s.power.startCause := rfl
@[simp] theorem setDom_power_oos : (setDom d x s).power.oos = s.power.oos := rfl
@[simp] theorem setDom_power_stageEntry : (setDom d x s).power.stageEntry = s.power.stageEntry := rfl
@[simp] theorem setDom_power_startAt : (setDom d x s).power.startAt = s.power.startAt := rfl
@[simp] theorem setDom_power_perstAt : (setDom d x s).power.perstAt = s.power.perstAt := rfl
@[simp] theorem setDom_power_rails : (setDom d x s).power.rails = s.power.rails := rfl
@[simp] theorem setDom_power_store : (setDom d x s).power.store = s.power.store := rfl
@[simp] theorem setDom_power_grants : (setDom d x s).power.grants = s.power.grants := rfl
@[simp] theorem setDom_power_cdie : (setDom d x s).power.cdie = s.power.cdie := rfl
@[simp] theorem setDom_power_ccClamp : (setDom d x s).power.ccClamp = s.power.ccClamp := rfl
@[simp] theorem setDom_power_ccOut : (setDom d x s).power.ccOut = s.power.ccOut := rfl
@[simp] theorem setDom_power_coreStopped : (setDom d x s).power.coreStopped = s.power.coreStopped := rfl
@[simp] theorem setDom_power_refclk : (setDom d x s).power.refclk = s.power.refclk := rfl
@[simp] theorem setDom_power_refclkOnOsc : (setDom d x s).power.refclkOnOsc = s.power.refclkOnOsc := rfl
@[simp] theorem setDom_power_resetCause : (setDom d x s).power.resetCause = s.power.resetCause := rfl
@[simp] theorem setDom_power_testEn : (setDom d x s).power.testEn = s.power.testEn := rfl
@[simp] theorem setDom_power_nodeId : (setDom d x s).power.nodeId = s.power.nodeId := rfl
@[simp] theorem setDom_power_strapI3c : (setDom d x s).power.strapI3c = s.power.strapI3c := rfl
@[simp] theorem setDom_power_tripCount : (setDom d x s).power.tripCount = s.power.tripCount := rfl
@[simp] theorem setDom_power_tripped : (setDom d x s).power.tripped = s.power.tripped := rfl
@[simp] theorem setDom_power_pins : (setDom d x s).power.pins = s.power.pins := rfl
end

/-! ### setRail -/

section
variable (r : Nat) (x : RailState) (s : State)
@[simp] theorem setRail_pending : (setRail r x s).pending = s.pending := rfl
@[simp] theorem setRail_cores : (setRail r x s).cores = s.cores := rfl
@[simp] theorem setRail_lath : (setRail r x s).lath = s.lath := rfl
@[simp] theorem setRail_ret : (setRail r x s).ret = s.ret := rfl
@[simp] theorem setRail_scrim : (setRail r x s).scrim = s.scrim := rfl
@[simp] theorem setRail_uc : (setRail r x s).uc = s.uc := rfl
@[simp] theorem setRail_hbm : (setRail r x s).hbm = s.hbm := rfl
@[simp] theorem setRail_helda : (setRail r x s).helda = s.helda := rfl
@[simp] theorem setRail_carrak : (setRail r x s).carrak = s.carrak := rfl
@[simp] theorem setRail_host : (setRail r x s).host = s.host := rfl
@[simp] theorem setRail_work : (setRail r x s).work = s.work := rfl
@[simp] theorem setRail_dict : (setRail r x s).dict = s.dict := rfl
@[simp] theorem setRail_askar : (setRail r x s).askar = s.askar := rfl
@[simp] theorem setRail_errs : (setRail r x s).errs = s.errs := rfl
@[simp] theorem setRail_part : (setRail r x s).part = s.part := rfl
@[simp] theorem setRail_freeCtr : (setRail r x s).freeCtr = s.freeCtr := rfl
@[simp] theorem setRail_power_ready : (setRail r x s).power.ready = s.power.ready := rfl
@[simp] theorem setRail_power_readyTimeNs : (setRail r x s).power.readyTimeNs = s.power.readyTimeNs := rfl
@[simp] theorem setRail_power_readyReason : (setRail r x s).power.readyReason = s.power.readyReason := rfl
@[simp] theorem setRail_power_startCause : (setRail r x s).power.startCause = s.power.startCause := rfl
@[simp] theorem setRail_power_oos : (setRail r x s).power.oos = s.power.oos := rfl
@[simp] theorem setRail_power_stageEntry : (setRail r x s).power.stageEntry = s.power.stageEntry := rfl
@[simp] theorem setRail_power_startAt : (setRail r x s).power.startAt = s.power.startAt := rfl
@[simp] theorem setRail_power_perstAt : (setRail r x s).power.perstAt = s.power.perstAt := rfl
@[simp] theorem setRail_power_domains : (setRail r x s).power.domains = s.power.domains := rfl
@[simp] theorem setRail_power_store : (setRail r x s).power.store = s.power.store := rfl
@[simp] theorem setRail_power_grants : (setRail r x s).power.grants = s.power.grants := rfl
@[simp] theorem setRail_power_cdie : (setRail r x s).power.cdie = s.power.cdie := rfl
@[simp] theorem setRail_power_ccClamp : (setRail r x s).power.ccClamp = s.power.ccClamp := rfl
@[simp] theorem setRail_power_ccOut : (setRail r x s).power.ccOut = s.power.ccOut := rfl
@[simp] theorem setRail_power_coreStopped : (setRail r x s).power.coreStopped = s.power.coreStopped := rfl
@[simp] theorem setRail_power_refclk : (setRail r x s).power.refclk = s.power.refclk := rfl
@[simp] theorem setRail_power_refclkOnOsc : (setRail r x s).power.refclkOnOsc = s.power.refclkOnOsc := rfl
@[simp] theorem setRail_power_resetCause : (setRail r x s).power.resetCause = s.power.resetCause := rfl
@[simp] theorem setRail_power_testEn : (setRail r x s).power.testEn = s.power.testEn := rfl
@[simp] theorem setRail_power_nodeId : (setRail r x s).power.nodeId = s.power.nodeId := rfl
@[simp] theorem setRail_power_strapI3c : (setRail r x s).power.strapI3c = s.power.strapI3c := rfl
@[simp] theorem setRail_power_tripCount : (setRail r x s).power.tripCount = s.power.tripCount := rfl
@[simp] theorem setRail_power_tripped : (setRail r x s).power.tripped = s.power.tripped := rfl
@[simp] theorem setRail_power_pins : (setRail r x s).power.pins = s.power.pins := rfl
end

@[simp] theorem coreGet_setCore (k k' : Nat) (x : Core) (s : State) : coreGet (setCore k x s) k' = if k = k' then x else coreGet s k' := by
  simp [coreGet, setCore]
@[simp] theorem ctxGet_setCtx (k k' : Nat) (x : Ctx) (s : State) : ctxGet (setCtx k x s) k' = if k = k' then x else ctxGet s k' := by
  simp [ctxGet, setCtx]
@[simp] theorem partGet_setPart (k k' : Nat) (x : Partition) (s : State) : partGet (setPart k x s) k' = if k = k' then x else partGet s k' := by
  simp [partGet, setPart]
@[simp] theorem ringGet_setRing (k k' : Nat) (x : Ring) (s : State) : ringGet (setRing k x s) k' = if k = k' then x else ringGet s k' := by
  simp [ringGet, setRing]
@[simp] theorem railGet_setRail (k k' : Nat) (x : RailState) (s : State) : railGet (setRail k x s) k' = if k = k' then x else railGet s k' := by
  simp [railGet, setRail]
@[simp] theorem domGet_setDom (k k' : Nat) (x : Domain) (s : State) : domGet (setDom k x s) k' = if k = k' then x else domGet s k' := by
  simp [domGet, setDom]
@[simp] theorem chanGet_setChan (k k' : Nat) (x : HbmChan) (s : State) : chanGet (setChan k x s) k' = if k = k' then x else chanGet s k' := by
  simp [chanGet, setChan]
@[simp] theorem endGet_setEnd (k k' : Nat) (x : HeldaEnd) (s : State) : endGet (setEnd k x s) k' = if k = k' then x else endGet s k' := by
  simp [endGet, setEnd]
@[simp] theorem schedGet_setSched (k k' : Nat) (x : LathSched) (s : State) : schedGet (setSched k x s) k' = if k = k' then x else schedGet s k' := by
  simp [schedGet, setSched]
@[simp] theorem routerGet_setRouter (k k' : Nat) (x : LathRouter) (s : State) : routerGet (setRouter k x s) k' = if k = k' then x else routerGet s k' := by
  simp [routerGet, setRouter]
@[simp] theorem mailboxGet_setMailbox (k k' : Nat) (x : Mailbox) (s : State) : mailboxGet (setMailbox k x s) k' = if k = k' then x else mailboxGet s k' := by
  simp [mailboxGet, setMailbox]
@[simp] theorem portGet_setPort (k k' : Nat) (x : Port) (s : State) : portGet (setPort k x s) k' = if k = k' then x else portGet s k' := by
  simp [portGet, setPort]
@[simp] theorem sliceGet_setSlice (k k' : Nat) (x : Slice) (s : State) : sliceGet (setSlice k x s) k' = if k = k' then x else sliceGet s k' := by
  simp [sliceGet, setSlice]
@[simp] theorem homeGet_setHome (k k' : Nat) (x : HomeDie) (s : State) : homeGet (setHome k x s) k' = if k = k' then x else homeGet s k' := by
  simp [homeGet, setHome]
@[simp] theorem arrayGet_setArray (k k' : Nat) (x : PlbArray) (s : State) : arrayGet (setArray k x s) k' = if k = k' then x else arrayGet s k' := by
  simp [arrayGet, setArray]
@[simp] theorem wmGet_setWm (k k' : Nat) (x : Wm) (s : State) : wmGet (setWm k x s) k' = if k = k' then x else wmGet s k' := by
  simp [wmGet, setWm]
@[simp] theorem stackGet_setStack (k k' : Nat) (x : Stack) (s : State) : stackGet (setStack k x s) k' = if k = k' then x else stackGet s k' := by
  simp [stackGet, setStack]
@[simp] theorem num_setNum (i j i' j' v d : Nat) (s : State) :
    num (setNum i j v s) i' j' d = if 256 * i + j = 256 * i' + j' then v else num s i' j' d := by
  simp [num, setNum]

@[simp] theorem slotGet_setSlot (x : Core) (t t' : Nat) (v : Slot) :
    slotGet (x.setSlot t v) t' = if t = t' then v else slotGet x t' := by
  simp [slotGet, Core.setSlot]

end Sys2Proof.Machine
end

