-- ==== Sys2Proof/Laws/Issue.lean ====
section
/-! SUPPORT. What issuing a core instruction does, and what its slot reads after it. -/
namespace Sys2Proof.Machine

/-- The state in which a legal instruction's body runs. -/
def issued (d : InstrDesc) (c t : Nat) (s : State) : State :=
  noteIssue c t d.pipe (putSlot c t { slotAt s c t with st := .ready } s)

/-- A thread group that can issue runs the body of a legal instruction. -/
theorem issue_runs {d : InstrDesc} {legal : W64 → Bool} {steps : W64 → Slot → Nat} {c t : Nat} {w : W64}
    {body : Slot → State → State} {s : State} (h : canIssue s c t w d.pipe d.maskFree)
    (hop : isOp w d.fmt d.op d.fence = true) (hl : legal w = true) :
    issue d legal steps c t w body s = .next (body { slotAt s c t with st := .ready } (issued d c t s)) := by
  obtain ⟨hc, ht, hr, hrun, hres, hm, hp, hb⟩ := h
  have h1 : (decide (c < Config.nCores) && decide (t < 16)) = true := by simp [Config.nCores, hc, ht]
  simp only [slotAt] at hr hres hm
  have hm' : (!d.maskFree && (slotGet (coreGet s c) t).mask == 0) = false := by
    rcases hm with h | h
    · simp [h]
    · simpa using fun _ => h
  have hp' : ((usedV w).any fun r => (pendingV (coreGet s c) t).contains r) = false := by
    simpa using hp
  unfold issue issueNext
  simp only [h1, hop, hl, hr, hrun, hb, hm', hp', resumeBad, hres, Bool.false_and, Bool.not_true, Bool.and_true,
    Bool.false_eq_true, if_false, if_true, issued, slotAt]

/-- Writing slot `t` of core `c` reads back, and leaves everything else. -/
theorem slotAt_putSlot (c t : Nat) (x : Slot) (s : State) : slotAt (putSlot c t x s) c t = x := by
  simp [slotAt, putSlot, modCore]

theorem onlySlot_issued (d : InstrDesc) (c t : Nat) (x : Slot) (s : State) :
    onlySlot s (putSlot c t x (issued d c t s)) c t := by
  refine ⟨rfl, ?_, ?_, ?_⟩
  · intro k hk; simp [issued, noteIssue, putSlot, modCore, Ne.symm hk]
  · simp [issued, noteIssue, putSlot, modCore, Core.setSlot]
  · intro k hk
    simp [issued, noteIssue, putSlot, modCore, slotGet, Core.setSlot, Ne.symm hk]

/-- An instruction that changes only its own slot, then goes on at the next address. -/
theorem issueSlot_runs {d : InstrDesc} {legal : W64 → Bool} {c t : Nat} {w : W64} {f : Slot → Slot} {s : State}
    (h : canIssue s c t w d.pipe d.maskFree) (hop : isOp w d.fmt d.op d.fence = true) (hl : legal w = true) :
    ∃ u, issueSlot d legal c t w f s = .next u ∧ onlySlot s u c t ∧
      slotAt u c t = advance (f { slotAt s c t with st := .ready }) :=
  ⟨_, issue_runs h hop hl, onlySlot_issued d c t _ s, slotAt_putSlot c t _ _⟩

/-! ### Registers -/

theorem reconverge_s : ∀ (n : Nat) (x : Slot), (reconverge n x).s = x.s
  | 0, _ => rfl
  | n + 1, x => by
    simp only [reconverge]
    split
    · rfl
    · split
      · split <;> exact (reconverge_s n _)
      · rfl

theorem reconverge_keep : ∀ (n : Nat) (x y : Slot), x.pc = y.pc → x.mask = y.mask → x.stack = y.stack →
    (reconverge n x).pc = (reconverge n y).pc ∧ (reconverge n x).mask = (reconverge n y).mask ∧
    (reconverge n x).stack = (reconverge n y).stack
  | 0, _, _, h1, h2, h3 => ⟨h1, h2, h3⟩
  | n + 1, x, y, h1, h2, h3 => by
    simp only [reconverge, h3, h1]
    split
    · exact ⟨h1, h2, h3⟩
    · split
      · split <;> exact reconverge_keep n _ _ (by simp_all) (by simp_all) (by simp_all)
      · exact ⟨h1, h2, h3⟩

/-- What reconverging does to a slot is to its mask, stack and PC alone. -/
theorem reconverge_eq : ∀ (n : Nat) (x : Slot),
    reconverge n x = { x with mask := (reconverge n x).mask, stack := (reconverge n x).stack, pc := (reconverge n x).pc }
  | 0, _ => rfl
  | n + 1, x => by
    simp only [reconverge]
    split
    · rfl
    · split
      · split
        · rename_i e t _ _ _
          exact reconverge_eq n { x with mask := x.mask ||| e.mask, stack := t }
        · rename_i e t _ _ _
          exact reconverge_eq n { x with
            mask := e.mask, pc := e.resume, stack := { e with mask := x.mask, arrived := true } :: t }
      · rfl

@[simp] theorem advance_s (x : Slot) : (advance x).s = x.s := reconverge_s 66 _

/-- Going to the next address does not depend on the registers. -/
theorem advance_withS (x : Slot) (f : SMap W64) : advance { x with s := f } = { advance x with s := f } := by
  simp only [advance, goTo]
  obtain ⟨h1, h2, h3⟩ := reconverge_keep 66 { x with pc := x.pc + 8, s := f } { x with pc := x.pc + 8 } rfl rfl rfl
  rw [reconverge_eq 66 { x with pc := x.pc + 8, s := f }, reconverge_eq 66 { x with pc := x.pc + 8 }, h1, h2, h3]

theorem advance_withV (x : Slot) (v : SMap W32) (f : W32) :
    advance { x with v := v, flags := f } = { advance x with v := v, flags := f } := by
  simp only [advance, goTo]
  obtain ⟨h1, h2, h3⟩ := reconverge_keep 66 { x with pc := x.pc + 8, v := v, flags := f } { x with pc := x.pc + 8 } rfl rfl rfl
  rw [reconverge_eq 66 { x with pc := x.pc + 8, v := v, flags := f }, reconverge_eq 66 { x with pc := x.pc + 8 }, h1, h2, h3]

theorem advance_v (x : Slot) : (advance x).v = x.v := by
  simp only [advance, goTo]; rw [reconverge_eq 66 { x with pc := x.pc + 8 }]

theorem advance_flags (x : Slot) : (advance x).flags = x.flags := by
  simp only [advance, goTo]; rw [reconverge_eq 66 { x with pc := x.pc + 8 }]

/-- A write of an S register: it reads back (S0 does not), others stay, and only the S registers change. -/
theorem sWrite_eq (x : Slot) (d : Nat) (v : W64) : ∃ f, sWrite x d v = { x with s := f } := by
  unfold sWrite; split
  · exact ⟨x.s, rfl⟩
  · exact ⟨_, rfl⟩

theorem wroteS_sWrite (x y : Slot) (d : Nat) (v : W64) (hx : y.s = x.s) : wroteS x (sWrite y d v) d v := by
  refine ⟨?_, ?_⟩
  · by_cases h : d = 0 <;> simp [sRead, sWrite, h]
  · intro r hr
    by_cases h : d = 0
    · simp [sRead, sWrite, h, hx]
    · simp [sRead, sWrite, h, Ne.symm hr, hx]

theorem sRead_advance (x : Slot) (r : Nat) : sRead (advance x) r = sRead x r := by simp [sRead]

/-- A scalar result: what slot `t` holds after it. -/
theorem scalar_slot (x : Slot) (d : Nat) (v : W64) :
    onlyS x (advance (sWrite { x with st := .ready } d v)) ∧ wroteS x (advance (sWrite { x with st := .ready } d v)) d v := by
  obtain ⟨f, hf⟩ := sWrite_eq { x with st := .ready } d v
  refine ⟨?_, ?_⟩
  · rw [hf, advance_withS]; simp [onlyS]
    have := advance_withS { x with st := .ready } x.s
    simpa using this.symm
  · obtain ⟨h1, h2⟩ := wroteS_sWrite x { x with st := .ready } d v rfl
    exact ⟨by rw [sRead_advance]; exact h1, fun r hr => by rw [sRead_advance]; exact h2 r hr⟩

/-- A scalar instruction whose operands are readable: its own slot changes, and of that only what it writes. -/
theorem issueScalar_runs {d : InstrDesc} {legal : W64 → Bool} {c t : Nat} {w : W64} {s : State} {v : Slot → W64}
    (h : canIssue s c t w d.pipe d.maskFree) (hop : isOp w d.fmt d.op d.fence = true) (hl : legal w = true) (v' : W64)
    (hv : v { slotAt s c t with st := .ready } = v') :
    ∃ u, issueSlot d legal c t w (fun x => sWrite x (iD w) (v x)) s = .next u ∧ onlySlot s u c t ∧
      onlyS (slotAt s c t) (slotAt u c t) ∧ wroteS (slotAt s c t) (slotAt u c t) (iD w) v' := by
  obtain ⟨u, h1, h2, h3⟩ := issueSlot_runs (f := fun x => sWrite x (iD w) (v x)) h hop hl
  refine ⟨u, h1, h2, ?_⟩
  rw [h3, ← hv]; exact scalar_slot _ _ _

/-! ### Vector registers -/

theorem lanesOf_mem (m : W32) (l : Nat) : l ∈ lanesOf m ↔ l < 32 ∧ m.getLsbD l = true := by simp [lanesOf]

/-- Writing the lanes of a list: V and the flags alone change. -/
theorem writeLanes_eq (d : Nat) (f : Nat → Lane) : ∀ (l : List Nat) (x : Slot), writeLanes d f l x =
    { x with v := (writeLanes d f l x).v, flags := l.foldl (fun a i => a ||| (f i).2) x.flags }
  | [], _ => rfl
  | i :: t, x => by
    simp only [writeLanes, List.foldl_cons]
    rw [writeLanes_eq d f t]
    rfl

theorem vRead_writeLanes (d : Nat) (f : Nat → Lane) (r k : Nat) (hk : k < 32) :
    ∀ (l : List Nat) (x : Slot), (∀ i ∈ l, i < 32) →
      vRead (writeLanes d f l x) r k = if r = d ∧ k ∈ l then (f k).1 else vRead x r k
  | [], x, _ => by simp [writeLanes]
  | i :: t, x, h => by
    simp only [writeLanes]
    rw [vRead_writeLanes d f r k hk t _ (fun j hj => h j (List.mem_cons_of_mem _ hj))]
    have hi := h i List.mem_cons_self
    by_cases hr : r = d
    · subst hr
      by_cases hkt : k ∈ t
      · simp [hkt]
      · simp only [hkt, and_false, if_false, true_and, List.mem_cons, or_false]
        simp only [vRead, addFlags, vWrite, sget_sput]
        by_cases hki : k = i
        · subst hki; simp
        · rw [if_neg (by omega), if_neg hki]
    · simp only [hr, false_and, if_false, vRead, addFlags, vWrite, sget_sput]
      rw [if_neg (by omega)]

/-- A vector result: what slot `t` holds after it. -/
theorem vector_slot (x : Slot) (d : Nat) (f : Nat → Lane) :
    onlyV x (advance (perLane d f { x with st := .ready })) ∧ wroteV x (advance (perLane d f { x with st := .ready })) d f := by
  have e := writeLanes_eq d f (lanesOf x.mask) { x with st := .ready }
  refine ⟨?_, ?_, ?_⟩
  · simp only [onlyV, perLane]
    rw [e, advance_withV]
    have := advance_withV { x with st := .ready } x.v x.flags
    simpa using this.symm
  · intro r l hl
    simp only [perLane]
    rw [show vRead (advance (writeLanes d f (lanesOf x.mask) { x with st := .ready })) r l =
      vRead (writeLanes d f (lanesOf x.mask) { x with st := .ready }) r l by simp [vRead, advance_v]]
    rw [vRead_writeLanes d f r l hl _ _ (fun i hi => ((lanesOf_mem _ _).1 hi).1)]
    simp only [lanesOf_mem, hl, true_and]
    rfl
  · simp only [perLane]
    rw [advance_flags, e]

/-- A vector instruction whose operands are readable: its own slot changes, and of that only what it writes. -/
theorem issueVector_runs {d : InstrDesc} {legal : W64 → Bool} {c t : Nat} {w : W64} {s : State} {f : Slot → Nat → Lane}
    (h : canIssue s c t w d.pipe d.maskFree) (hop : isOp w d.fmt d.op d.fence = true) (hl : legal w = true)
    (g : Nat → Lane) (hg : ∀ l, f { slotAt s c t with st := .ready } l = g l) :
    ∃ u, issueSlot d legal c t w (fun x => perLane (iD w) (f x) x) s = .next u ∧ onlySlot s u c t ∧
      onlyV (slotAt s c t) (slotAt u c t) ∧ wroteV (slotAt s c t) (slotAt u c t) (iD w) g := by
  obtain ⟨u, h1, h2, h3⟩ := issueSlot_runs (f := fun x => perLane (iD w) (f x) x) h hop hl
  refine ⟨u, h1, h2, ?_⟩
  rw [h3, ← funext hg]; exact vector_slot _ _ _

end Sys2Proof.Machine
end

