-- ==== Sys2Proof/Laws/Ops.lean ====
section
/-! SUPPORT. Which parts of the state each shared operation leaves as they were. -/
namespace Sys2Proof.Machine

@[simp] theorem bumpBy_pending (idx sub w n : Nat) (s : State) : (bumpBy idx sub w n s).pending = s.pending := rfl
@[simp] theorem bumpBy_cores (idx sub w n : Nat) (s : State) : (bumpBy idx sub w n s).cores = s.cores := rfl
@[simp] theorem bumpBy_lath (idx sub w n : Nat) (s : State) : (bumpBy idx sub w n s).lath = s.lath := rfl
@[simp] theorem bumpBy_ret (idx sub w n : Nat) (s : State) : (bumpBy idx sub w n s).ret = s.ret := rfl
@[simp] theorem bumpBy_scrim (idx sub w n : Nat) (s : State) : (bumpBy idx sub w n s).scrim = s.scrim := rfl
@[simp] theorem bumpBy_uc (idx sub w n : Nat) (s : State) : (bumpBy idx sub w n s).uc = s.uc := rfl
@[simp] theorem bumpBy_hbm (idx sub w n : Nat) (s : State) : (bumpBy idx sub w n s).hbm = s.hbm := rfl
@[simp] theorem bumpBy_helda (idx sub w n : Nat) (s : State) : (bumpBy idx sub w n s).helda = s.helda := rfl
@[simp] theorem bumpBy_carrak (idx sub w n : Nat) (s : State) : (bumpBy idx sub w n s).carrak = s.carrak := rfl
@[simp] theorem bumpBy_host (idx sub w n : Nat) (s : State) : (bumpBy idx sub w n s).host = s.host := rfl
@[simp] theorem bumpBy_work (idx sub w n : Nat) (s : State) : (bumpBy idx sub w n s).work = s.work := rfl
@[simp] theorem bumpBy_askar (idx sub w n : Nat) (s : State) : (bumpBy idx sub w n s).askar = s.askar := rfl
@[simp] theorem bumpBy_power (idx sub w n : Nat) (s : State) : (bumpBy idx sub w n s).power = s.power := rfl
@[simp] theorem bumpBy_errs (idx sub w n : Nat) (s : State) : (bumpBy idx sub w n s).errs = s.errs := rfl
@[simp] theorem bumpBy_part (idx sub w n : Nat) (s : State) : (bumpBy idx sub w n s).part = s.part := rfl
@[simp] theorem bumpBy_freeCtr (idx sub w n : Nat) (s : State) : (bumpBy idx sub w n s).freeCtr = s.freeCtr := rfl
@[simp] theorem bump_pending (idx sub : Nat) (s : State) : (bump idx sub s).pending = s.pending := rfl
@[simp] theorem bump_cores (idx sub : Nat) (s : State) : (bump idx sub s).cores = s.cores := rfl
@[simp] theorem bump_lath (idx sub : Nat) (s : State) : (bump idx sub s).lath = s.lath := rfl
@[simp] theorem bump_ret (idx sub : Nat) (s : State) : (bump idx sub s).ret = s.ret := rfl
@[simp] theorem bump_scrim (idx sub : Nat) (s : State) : (bump idx sub s).scrim = s.scrim := rfl
@[simp] theorem bump_uc (idx sub : Nat) (s : State) : (bump idx sub s).uc = s.uc := rfl
@[simp] theorem bump_hbm (idx sub : Nat) (s : State) : (bump idx sub s).hbm = s.hbm := rfl
@[simp] theorem bump_helda (idx sub : Nat) (s : State) : (bump idx sub s).helda = s.helda := rfl
@[simp] theorem bump_carrak (idx sub : Nat) (s : State) : (bump idx sub s).carrak = s.carrak := rfl
@[simp] theorem bump_host (idx sub : Nat) (s : State) : (bump idx sub s).host = s.host := rfl
@[simp] theorem bump_work (idx sub : Nat) (s : State) : (bump idx sub s).work = s.work := rfl
@[simp] theorem bump_askar (idx sub : Nat) (s : State) : (bump idx sub s).askar = s.askar := rfl
@[simp] theorem bump_power (idx sub : Nat) (s : State) : (bump idx sub s).power = s.power := rfl
@[simp] theorem bump_errs (idx sub : Nat) (s : State) : (bump idx sub s).errs = s.errs := rfl
@[simp] theorem bump_part (idx sub : Nat) (s : State) : (bump idx sub s).part = s.part := rfl
@[simp] theorem bump_freeCtr (idx sub : Nat) (s : State) : (bump idx sub s).freeCtr = s.freeCtr := rfl
@[simp] theorem bump64_pending (idx sub : Nat) (s : State) : (bump64 idx sub s).pending = s.pending := rfl
@[simp] theorem bump64_cores (idx sub : Nat) (s : State) : (bump64 idx sub s).cores = s.cores := rfl
@[simp] theorem bump64_lath (idx sub : Nat) (s : State) : (bump64 idx sub s).lath = s.lath := rfl
@[simp] theorem bump64_ret (idx sub : Nat) (s : State) : (bump64 idx sub s).ret = s.ret := rfl
@[simp] theorem bump64_scrim (idx sub : Nat) (s : State) : (bump64 idx sub s).scrim = s.scrim := rfl
@[simp] theorem bump64_uc (idx sub : Nat) (s : State) : (bump64 idx sub s).uc = s.uc := rfl
@[simp] theorem bump64_hbm (idx sub : Nat) (s : State) : (bump64 idx sub s).hbm = s.hbm := rfl
@[simp] theorem bump64_helda (idx sub : Nat) (s : State) : (bump64 idx sub s).helda = s.helda := rfl
@[simp] theorem bump64_carrak (idx sub : Nat) (s : State) : (bump64 idx sub s).carrak = s.carrak := rfl
@[simp] theorem bump64_host (idx sub : Nat) (s : State) : (bump64 idx sub s).host = s.host := rfl
@[simp] theorem bump64_work (idx sub : Nat) (s : State) : (bump64 idx sub s).work = s.work := rfl
@[simp] theorem bump64_askar (idx sub : Nat) (s : State) : (bump64 idx sub s).askar = s.askar := rfl
@[simp] theorem bump64_power (idx sub : Nat) (s : State) : (bump64 idx sub s).power = s.power := rfl
@[simp] theorem bump64_errs (idx sub : Nat) (s : State) : (bump64 idx sub s).errs = s.errs := rfl
@[simp] theorem bump64_part (idx sub : Nat) (s : State) : (bump64 idx sub s).part = s.part := rfl
@[simp] theorem bump64_freeCtr (idx sub : Nat) (s : State) : (bump64 idx sub s).freeCtr = s.freeCtr := rfl
@[simp] theorem logLost_pending (s : State) : (logLost s).pending = s.pending := rfl
@[simp] theorem logLost_cores (s : State) : (logLost s).cores = s.cores := rfl
@[simp] theorem logLost_lath (s : State) : (logLost s).lath = s.lath := rfl
@[simp] theorem logLost_ret (s : State) : (logLost s).ret = s.ret := rfl
@[simp] theorem logLost_scrim (s : State) : (logLost s).scrim = s.scrim := rfl
@[simp] theorem logLost_uc (s : State) : (logLost s).uc = s.uc := rfl
@[simp] theorem logLost_hbm (s : State) : (logLost s).hbm = s.hbm := rfl
@[simp] theorem logLost_helda (s : State) : (logLost s).helda = s.helda := rfl
@[simp] theorem logLost_carrak (s : State) : (logLost s).carrak = s.carrak := rfl
@[simp] theorem logLost_host (s : State) : (logLost s).host = s.host := rfl
@[simp] theorem logLost_work (s : State) : (logLost s).work = s.work := rfl
@[simp] theorem logLost_askar (s : State) : (logLost s).askar = s.askar := rfl
@[simp] theorem logLost_power (s : State) : (logLost s).power = s.power := rfl
@[simp] theorem logLost_errs (s : State) : (logLost s).errs = s.errs := rfl
@[simp] theorem logLost_part (s : State) : (logLost s).part = s.part := rfl
@[simp] theorem logLost_freeCtr (s : State) : (logLost s).freeCtr = s.freeCtr := rfl
@[simp] theorem writeLog_pending (t : Nat) (b : LogBody) (s : State) : (writeLog t b s).pending = s.pending := by
  simp only [writeLog]; (repeat' split) <;> simp
@[simp] theorem writeLog_cores (t : Nat) (b : LogBody) (s : State) : (writeLog t b s).cores = s.cores := by
  simp only [writeLog]; (repeat' split) <;> simp
@[simp] theorem writeLog_lath (t : Nat) (b : LogBody) (s : State) : (writeLog t b s).lath = s.lath := by
  simp only [writeLog]; (repeat' split) <;> simp
@[simp] theorem writeLog_ret (t : Nat) (b : LogBody) (s : State) : (writeLog t b s).ret = s.ret := by
  simp only [writeLog]; (repeat' split) <;> simp
@[simp] theorem writeLog_scrim (t : Nat) (b : LogBody) (s : State) : (writeLog t b s).scrim = s.scrim := by
  simp only [writeLog]; (repeat' split) <;> simp
@[simp] theorem writeLog_uc (t : Nat) (b : LogBody) (s : State) : (writeLog t b s).uc = s.uc := by
  simp only [writeLog]; (repeat' split) <;> simp
@[simp] theorem writeLog_hbm (t : Nat) (b : LogBody) (s : State) : (writeLog t b s).hbm = s.hbm := by
  simp only [writeLog]; (repeat' split) <;> simp
@[simp] theorem writeLog_helda (t : Nat) (b : LogBody) (s : State) : (writeLog t b s).helda = s.helda := by
  simp only [writeLog]; (repeat' split) <;> simp
@[simp] theorem writeLog_carrak (t : Nat) (b : LogBody) (s : State) : (writeLog t b s).carrak = s.carrak := by
  simp only [writeLog]; (repeat' split) <;> simp
@[simp] theorem writeLog_host (t : Nat) (b : LogBody) (s : State) : (writeLog t b s).host = s.host := by
  simp only [writeLog]; (repeat' split) <;> simp
@[simp] theorem writeLog_work (t : Nat) (b : LogBody) (s : State) : (writeLog t b s).work = s.work := by
  simp only [writeLog]; (repeat' split) <;> simp
@[simp] theorem writeLog_power (t : Nat) (b : LogBody) (s : State) : (writeLog t b s).power = s.power := by
  simp only [writeLog]; (repeat' split) <;> simp
@[simp] theorem writeLog_errs (t : Nat) (b : LogBody) (s : State) : (writeLog t b s).errs = s.errs := by
  simp only [writeLog]; (repeat' split) <;> simp
@[simp] theorem writeLog_part (t : Nat) (b : LogBody) (s : State) : (writeLog t b s).part = s.part := by
  simp only [writeLog]; (repeat' split) <;> simp
@[simp] theorem writeLog_freeCtr (t : Nat) (b : LogBody) (s : State) : (writeLog t b s).freeCtr = s.freeCtr := by
  simp only [writeLog]; (repeat' split) <;> simp
@[simp] theorem logRec_pending (b : LogBody) (s : State) : (logRec b s).pending = s.pending := by
  simp only [logRec]; (repeat' split) <;> simp
@[simp] theorem logRec_cores (b : LogBody) (s : State) : (logRec b s).cores = s.cores := by
  simp only [logRec]; (repeat' split) <;> simp
@[simp] theorem logRec_lath (b : LogBody) (s : State) : (logRec b s).lath = s.lath := by
  simp only [logRec]; (repeat' split) <;> simp
@[simp] theorem logRec_ret (b : LogBody) (s : State) : (logRec b s).ret = s.ret := by
  simp only [logRec]; (repeat' split) <;> simp
@[simp] theorem logRec_scrim (b : LogBody) (s : State) : (logRec b s).scrim = s.scrim := by
  simp only [logRec]; (repeat' split) <;> simp
@[simp] theorem logRec_uc (b : LogBody) (s : State) : (logRec b s).uc = s.uc := by
  simp only [logRec]; (repeat' split) <;> simp
@[simp] theorem logRec_hbm (b : LogBody) (s : State) : (logRec b s).hbm = s.hbm := by
  simp only [logRec]; (repeat' split) <;> simp
@[simp] theorem logRec_helda (b : LogBody) (s : State) : (logRec b s).helda = s.helda := by
  simp only [logRec]; (repeat' split) <;> simp
@[simp] theorem logRec_carrak (b : LogBody) (s : State) : (logRec b s).carrak = s.carrak := by
  simp only [logRec]; (repeat' split) <;> simp
@[simp] theorem logRec_host (b : LogBody) (s : State) : (logRec b s).host = s.host := by
  simp only [logRec]; (repeat' split) <;> simp
@[simp] theorem logRec_work (b : LogBody) (s : State) : (logRec b s).work = s.work := by
  simp only [logRec]; (repeat' split) <;> simp
@[simp] theorem logRec_power (b : LogBody) (s : State) : (logRec b s).power = s.power := by
  simp only [logRec]; (repeat' split) <;> simp
@[simp] theorem logRec_errs (b : LogBody) (s : State) : (logRec b s).errs = s.errs := by
  simp only [logRec]; (repeat' split) <;> simp
@[simp] theorem logRec_part (b : LogBody) (s : State) : (logRec b s).part = s.part := by
  simp only [logRec]; (repeat' split) <;> simp
@[simp] theorem logRec_freeCtr (b : LogBody) (s : State) : (logRec b s).freeCtr = s.freeCtr := by
  simp only [logRec]; (repeat' split) <;> simp
@[simp] theorem countLog_pending (idx sub w sev : Nat) (ctx part die : Nat) (s : State) : (countLog idx sub w sev ctx part die s).pending = s.pending := by
  simp [countLog]
@[simp] theorem countLog_cores (idx sub w sev : Nat) (ctx part die : Nat) (s : State) : (countLog idx sub w sev ctx part die s).cores = s.cores := by
  simp [countLog]
@[simp] theorem countLog_lath (idx sub w sev : Nat) (ctx part die : Nat) (s : State) : (countLog idx sub w sev ctx part die s).lath = s.lath := by
  simp [countLog]
@[simp] theorem countLog_ret (idx sub w sev : Nat) (ctx part die : Nat) (s : State) : (countLog idx sub w sev ctx part die s).ret = s.ret := by
  simp [countLog]
@[simp] theorem countLog_scrim (idx sub w sev : Nat) (ctx part die : Nat) (s : State) : (countLog idx sub w sev ctx part die s).scrim = s.scrim := by
  simp [countLog]
@[simp] theorem countLog_uc (idx sub w sev : Nat) (ctx part die : Nat) (s : State) : (countLog idx sub w sev ctx part die s).uc = s.uc := by
  simp [countLog]
@[simp] theorem countLog_hbm (idx sub w sev : Nat) (ctx part die : Nat) (s : State) : (countLog idx sub w sev ctx part die s).hbm = s.hbm := by
  simp [countLog]
@[simp] theorem countLog_helda (idx sub w sev : Nat) (ctx part die : Nat) (s : State) : (countLog idx sub w sev ctx part die s).helda = s.helda := by
  simp [countLog]
@[simp] theorem countLog_carrak (idx sub w sev : Nat) (ctx part die : Nat) (s : State) : (countLog idx sub w sev ctx part die s).carrak = s.carrak := by
  simp [countLog]
@[simp] theorem countLog_host (idx sub w sev : Nat) (ctx part die : Nat) (s : State) : (countLog idx sub w sev ctx part die s).host = s.host := by
  simp [countLog]
@[simp] theorem countLog_work (idx sub w sev : Nat) (ctx part die : Nat) (s : State) : (countLog idx sub w sev ctx part die s).work = s.work := by
  simp [countLog]
@[simp] theorem countLog_power (idx sub w sev : Nat) (ctx part die : Nat) (s : State) : (countLog idx sub w sev ctx part die s).power = s.power := by
  simp [countLog]
@[simp] theorem countLog_errs (idx sub w sev : Nat) (ctx part die : Nat) (s : State) : (countLog idx sub w sev ctx part die s).errs = s.errs := by
  simp [countLog]
@[simp] theorem countLog_part (idx sub w sev : Nat) (ctx part die : Nat) (s : State) : (countLog idx sub w sev ctx part die s).part = s.part := by
  simp [countLog]
@[simp] theorem countLog_freeCtr (idx sub w sev : Nat) (ctx part die : Nat) (s : State) : (countLog idx sub w sev ctx part die s).freeCtr = s.freeCtr := by
  simp [countLog]
@[simp] theorem logEvent_pending (idx sub sev : Nat) (payload : List Byte) (s : State) : (logEvent idx sub sev payload s).pending = s.pending := by
  simp [logEvent]
@[simp] theorem logEvent_cores (idx sub sev : Nat) (payload : List Byte) (s : State) : (logEvent idx sub sev payload s).cores = s.cores := by
  simp [logEvent]
@[simp] theorem logEvent_lath (idx sub sev : Nat) (payload : List Byte) (s : State) : (logEvent idx sub sev payload s).lath = s.lath := by
  simp [logEvent]
@[simp] theorem logEvent_ret (idx sub sev : Nat) (payload : List Byte) (s : State) : (logEvent idx sub sev payload s).ret = s.ret := by
  simp [logEvent]
@[simp] theorem logEvent_scrim (idx sub sev : Nat) (payload : List Byte) (s : State) : (logEvent idx sub sev payload s).scrim = s.scrim := by
  simp [logEvent]
@[simp] theorem logEvent_uc (idx sub sev : Nat) (payload : List Byte) (s : State) : (logEvent idx sub sev payload s).uc = s.uc := by
  simp [logEvent]
@[simp] theorem logEvent_hbm (idx sub sev : Nat) (payload : List Byte) (s : State) : (logEvent idx sub sev payload s).hbm = s.hbm := by
  simp [logEvent]
@[simp] theorem logEvent_helda (idx sub sev : Nat) (payload : List Byte) (s : State) : (logEvent idx sub sev payload s).helda = s.helda := by
  simp [logEvent]
@[simp] theorem logEvent_carrak (idx sub sev : Nat) (payload : List Byte) (s : State) : (logEvent idx sub sev payload s).carrak = s.carrak := by
  simp [logEvent]
@[simp] theorem logEvent_host (idx sub sev : Nat) (payload : List Byte) (s : State) : (logEvent idx sub sev payload s).host = s.host := by
  simp [logEvent]
@[simp] theorem logEvent_work (idx sub sev : Nat) (payload : List Byte) (s : State) : (logEvent idx sub sev payload s).work = s.work := by
  simp [logEvent]
@[simp] theorem logEvent_power (idx sub sev : Nat) (payload : List Byte) (s : State) : (logEvent idx sub sev payload s).power = s.power := by
  simp [logEvent]
@[simp] theorem logEvent_errs (idx sub sev : Nat) (payload : List Byte) (s : State) : (logEvent idx sub sev payload s).errs = s.errs := by
  simp [logEvent]
@[simp] theorem logEvent_part (idx sub sev : Nat) (payload : List Byte) (s : State) : (logEvent idx sub sev payload s).part = s.part := by
  simp [logEvent]
@[simp] theorem logEvent_freeCtr (idx sub sev : Nat) (payload : List Byte) (s : State) : (logEvent idx sub sev payload s).freeCtr = s.freeCtr := by
  simp [logEvent]
@[simp] theorem ignored_pending (idx sub : Nat) (s : State) : (ignored idx sub s).pending = s.pending := by
  simp only [ignored]; split <;> simp
@[simp] theorem ignored_cores (idx sub : Nat) (s : State) : (ignored idx sub s).cores = s.cores := by
  simp only [ignored]; split <;> simp
@[simp] theorem ignored_lath (idx sub : Nat) (s : State) : (ignored idx sub s).lath = s.lath := by
  simp only [ignored]; split <;> simp
@[simp] theorem ignored_ret (idx sub : Nat) (s : State) : (ignored idx sub s).ret = s.ret := by
  simp only [ignored]; split <;> simp
@[simp] theorem ignored_scrim (idx sub : Nat) (s : State) : (ignored idx sub s).scrim = s.scrim := by
  simp only [ignored]; split <;> simp
@[simp] theorem ignored_uc (idx sub : Nat) (s : State) : (ignored idx sub s).uc = s.uc := by
  simp only [ignored]; split <;> simp
@[simp] theorem ignored_hbm (idx sub : Nat) (s : State) : (ignored idx sub s).hbm = s.hbm := by
  simp only [ignored]; split <;> simp
@[simp] theorem ignored_helda (idx sub : Nat) (s : State) : (ignored idx sub s).helda = s.helda := by
  simp only [ignored]; split <;> simp
@[simp] theorem ignored_carrak (idx sub : Nat) (s : State) : (ignored idx sub s).carrak = s.carrak := by
  simp only [ignored]; split <;> simp
@[simp] theorem ignored_host (idx sub : Nat) (s : State) : (ignored idx sub s).host = s.host := by
  simp only [ignored]; split <;> simp
@[simp] theorem ignored_work (idx sub : Nat) (s : State) : (ignored idx sub s).work = s.work := by
  simp only [ignored]; split <;> simp
@[simp] theorem ignored_power (idx sub : Nat) (s : State) : (ignored idx sub s).power = s.power := by
  simp only [ignored]; split <;> simp
@[simp] theorem ignored_errs (idx sub : Nat) (s : State) : (ignored idx sub s).errs = s.errs := by
  simp only [ignored]; split <;> simp
@[simp] theorem ignored_part (idx sub : Nat) (s : State) : (ignored idx sub s).part = s.part := by
  simp only [ignored]; split <;> simp
@[simp] theorem ignored_freeCtr (idx sub : Nat) (s : State) : (ignored idx sub s).freeCtr = s.freeCtr := by
  simp only [ignored]; split <;> simp
@[simp] theorem raiseVector_pending (fn : Fn) (v : Nat) (s : State) : (raiseVector fn v s).pending = s.pending := by
  simp only [raiseVector]; split <;> simp
@[simp] theorem raiseVector_cores (fn : Fn) (v : Nat) (s : State) : (raiseVector fn v s).cores = s.cores := by
  simp only [raiseVector]; split <;> simp
@[simp] theorem raiseVector_lath (fn : Fn) (v : Nat) (s : State) : (raiseVector fn v s).lath = s.lath := by
  simp only [raiseVector]; split <;> simp
@[simp] theorem raiseVector_ret (fn : Fn) (v : Nat) (s : State) : (raiseVector fn v s).ret = s.ret := by
  simp only [raiseVector]; split <;> simp
@[simp] theorem raiseVector_scrim (fn : Fn) (v : Nat) (s : State) : (raiseVector fn v s).scrim = s.scrim := by
  simp only [raiseVector]; split <;> simp
@[simp] theorem raiseVector_uc (fn : Fn) (v : Nat) (s : State) : (raiseVector fn v s).uc = s.uc := by
  simp only [raiseVector]; split <;> simp
@[simp] theorem raiseVector_hbm (fn : Fn) (v : Nat) (s : State) : (raiseVector fn v s).hbm = s.hbm := by
  simp only [raiseVector]; split <;> simp
@[simp] theorem raiseVector_helda (fn : Fn) (v : Nat) (s : State) : (raiseVector fn v s).helda = s.helda := by
  simp only [raiseVector]; split <;> simp
@[simp] theorem raiseVector_carrak (fn : Fn) (v : Nat) (s : State) : (raiseVector fn v s).carrak = s.carrak := by
  simp only [raiseVector]; split <;> simp
@[simp] theorem raiseVector_work (fn : Fn) (v : Nat) (s : State) : (raiseVector fn v s).work = s.work := by
  simp only [raiseVector]; split <;> simp
@[simp] theorem raiseVector_dict (fn : Fn) (v : Nat) (s : State) : (raiseVector fn v s).dict = s.dict := by
  simp only [raiseVector]; split <;> simp
@[simp] theorem raiseVector_askar (fn : Fn) (v : Nat) (s : State) : (raiseVector fn v s).askar = s.askar := by
  simp only [raiseVector]; split <;> simp
@[simp] theorem raiseVector_power (fn : Fn) (v : Nat) (s : State) : (raiseVector fn v s).power = s.power := by
  simp only [raiseVector]; split <;> simp
@[simp] theorem raiseVector_errs (fn : Fn) (v : Nat) (s : State) : (raiseVector fn v s).errs = s.errs := by
  simp only [raiseVector]; split <;> simp
@[simp] theorem raiseVector_part (fn : Fn) (v : Nat) (s : State) : (raiseVector fn v s).part = s.part := by
  simp only [raiseVector]; split <;> simp
@[simp] theorem raiseVector_freeCtr (fn : Fn) (v : Nat) (s : State) : (raiseVector fn v s).freeCtr = s.freeCtr := by
  simp only [raiseVector]; split <;> simp
@[simp] theorem raisePartVector_pending (p : Nat) (s : State) : (raisePartVector p s).pending = s.pending := by
  simp only [raisePartVector]; split <;> simp
@[simp] theorem raisePartVector_cores (p : Nat) (s : State) : (raisePartVector p s).cores = s.cores := by
  simp only [raisePartVector]; split <;> simp
@[simp] theorem raisePartVector_lath (p : Nat) (s : State) : (raisePartVector p s).lath = s.lath := by
  simp only [raisePartVector]; split <;> simp
@[simp] theorem raisePartVector_ret (p : Nat) (s : State) : (raisePartVector p s).ret = s.ret := by
  simp only [raisePartVector]; split <;> simp
@[simp] theorem raisePartVector_scrim (p : Nat) (s : State) : (raisePartVector p s).scrim = s.scrim := by
  simp only [raisePartVector]; split <;> simp
@[simp] theorem raisePartVector_uc (p : Nat) (s : State) : (raisePartVector p s).uc = s.uc := by
  simp only [raisePartVector]; split <;> simp
@[simp] theorem raisePartVector_hbm (p : Nat) (s : State) : (raisePartVector p s).hbm = s.hbm := by
  simp only [raisePartVector]; split <;> simp
@[simp] theorem raisePartVector_helda (p : Nat) (s : State) : (raisePartVector p s).helda = s.helda := by
  simp only [raisePartVector]; split <;> simp
@[simp] theorem raisePartVector_carrak (p : Nat) (s : State) : (raisePartVector p s).carrak = s.carrak := by
  simp only [raisePartVector]; split <;> simp
@[simp] theorem raisePartVector_work (p : Nat) (s : State) : (raisePartVector p s).work = s.work := by
  simp only [raisePartVector]; split <;> simp
@[simp] theorem raisePartVector_dict (p : Nat) (s : State) : (raisePartVector p s).dict = s.dict := by
  simp only [raisePartVector]; split <;> simp
@[simp] theorem raisePartVector_askar (p : Nat) (s : State) : (raisePartVector p s).askar = s.askar := by
  simp only [raisePartVector]; split <;> simp
@[simp] theorem raisePartVector_power (p : Nat) (s : State) : (raisePartVector p s).power = s.power := by
  simp only [raisePartVector]; split <;> simp
@[simp] theorem raisePartVector_errs (p : Nat) (s : State) : (raisePartVector p s).errs = s.errs := by
  simp only [raisePartVector]; split <;> simp
@[simp] theorem raisePartVector_part (p : Nat) (s : State) : (raisePartVector p s).part = s.part := by
  simp only [raisePartVector]; split <;> simp
@[simp] theorem raisePartVector_freeCtr (p : Nat) (s : State) : (raisePartVector p s).freeCtr = s.freeCtr := by
  simp only [raisePartVector]; split <;> simp
@[simp] theorem driveAlert_pending (s : State) : (driveAlert s).pending = s.pending := rfl
@[simp] theorem driveAlert_cores (s : State) : (driveAlert s).cores = s.cores := rfl
@[simp] theorem driveAlert_lath (s : State) : (driveAlert s).lath = s.lath := rfl
@[simp] theorem driveAlert_ret (s : State) : (driveAlert s).ret = s.ret := rfl
@[simp] theorem driveAlert_scrim (s : State) : (driveAlert s).scrim = s.scrim := rfl
@[simp] theorem driveAlert_uc (s : State) : (driveAlert s).uc = s.uc := rfl
@[simp] theorem driveAlert_hbm (s : State) : (driveAlert s).hbm = s.hbm := rfl
@[simp] theorem driveAlert_helda (s : State) : (driveAlert s).helda = s.helda := rfl
@[simp] theorem driveAlert_carrak (s : State) : (driveAlert s).carrak = s.carrak := rfl
@[simp] theorem driveAlert_host (s : State) : (driveAlert s).host = s.host := rfl
@[simp] theorem driveAlert_work (s : State) : (driveAlert s).work = s.work := rfl
@[simp] theorem driveAlert_dict (s : State) : (driveAlert s).dict = s.dict := rfl
@[simp] theorem driveAlert_power (s : State) : (driveAlert s).power = s.power := rfl
@[simp] theorem driveAlert_errs (s : State) : (driveAlert s).errs = s.errs := rfl
@[simp] theorem driveAlert_part (s : State) : (driveAlert s).part = s.part := rfl
@[simp] theorem driveAlert_freeCtr (s : State) : (driveAlert s).freeCtr = s.freeCtr := rfl
@[simp] theorem latchAlert_pending (b : Nat) (s : State) : (latchAlert b s).pending = s.pending := rfl
@[simp] theorem latchAlert_cores (b : Nat) (s : State) : (latchAlert b s).cores = s.cores := rfl
@[simp] theorem latchAlert_lath (b : Nat) (s : State) : (latchAlert b s).lath = s.lath := rfl
@[simp] theorem latchAlert_ret (b : Nat) (s : State) : (latchAlert b s).ret = s.ret := rfl
@[simp] theorem latchAlert_scrim (b : Nat) (s : State) : (latchAlert b s).scrim = s.scrim := rfl
@[simp] theorem latchAlert_uc (b : Nat) (s : State) : (latchAlert b s).uc = s.uc := rfl
@[simp] theorem latchAlert_hbm (b : Nat) (s : State) : (latchAlert b s).hbm = s.hbm := rfl
@[simp] theorem latchAlert_helda (b : Nat) (s : State) : (latchAlert b s).helda = s.helda := rfl
@[simp] theorem latchAlert_carrak (b : Nat) (s : State) : (latchAlert b s).carrak = s.carrak := rfl
@[simp] theorem latchAlert_host (b : Nat) (s : State) : (latchAlert b s).host = s.host := rfl
@[simp] theorem latchAlert_work (b : Nat) (s : State) : (latchAlert b s).work = s.work := rfl
@[simp] theorem latchAlert_dict (b : Nat) (s : State) : (latchAlert b s).dict = s.dict := rfl
@[simp] theorem latchAlert_power (b : Nat) (s : State) : (latchAlert b s).power = s.power := rfl
@[simp] theorem latchAlert_errs (b : Nat) (s : State) : (latchAlert b s).errs = s.errs := rfl
@[simp] theorem latchAlert_part (b : Nat) (s : State) : (latchAlert b s).part = s.part := rfl
@[simp] theorem latchAlert_freeCtr (b : Nat) (s : State) : (latchAlert b s).freeCtr = s.freeCtr := rfl
@[simp] theorem wmGive_pending (id : Nat) (s : State) : (wmGive id s).pending = s.pending := by
  simp only [wmGive]; split <;> simp
@[simp] theorem wmGive_cores (id : Nat) (s : State) : (wmGive id s).cores = s.cores := by
  simp only [wmGive]; split <;> simp
@[simp] theorem wmGive_lath (id : Nat) (s : State) : (wmGive id s).lath = s.lath := by
  simp only [wmGive]; split <;> simp
@[simp] theorem wmGive_ret (id : Nat) (s : State) : (wmGive id s).ret = s.ret := by
  simp only [wmGive]; split <;> simp
@[simp] theorem wmGive_scrim (id : Nat) (s : State) : (wmGive id s).scrim = s.scrim := by
  simp only [wmGive]; split <;> simp
@[simp] theorem wmGive_uc (id : Nat) (s : State) : (wmGive id s).uc = s.uc := by
  simp only [wmGive]; split <;> simp
@[simp] theorem wmGive_hbm (id : Nat) (s : State) : (wmGive id s).hbm = s.hbm := by
  simp only [wmGive]; split <;> simp
@[simp] theorem wmGive_helda (id : Nat) (s : State) : (wmGive id s).helda = s.helda := by
  simp only [wmGive]; split <;> simp
@[simp] theorem wmGive_carrak (id : Nat) (s : State) : (wmGive id s).carrak = s.carrak := by
  simp only [wmGive]; split <;> simp
@[simp] theorem wmGive_work (id : Nat) (s : State) : (wmGive id s).work = s.work := by
  simp only [wmGive]; split <;> simp
@[simp] theorem wmGive_power (id : Nat) (s : State) : (wmGive id s).power = s.power := by
  simp only [wmGive]; split <;> simp
@[simp] theorem wmGive_errs (id : Nat) (s : State) : (wmGive id s).errs = s.errs := by
  simp only [wmGive]; split <;> simp
@[simp] theorem wmGive_part (id : Nat) (s : State) : (wmGive id s).part = s.part := by
  simp only [wmGive]; split <;> simp
@[simp] theorem wmGive_freeCtr (id : Nat) (s : State) : (wmGive id s).freeCtr = s.freeCtr := by
  simp only [wmGive]; split <;> simp
@[simp] theorem wmCross_pending (id : Nat) (s : State) : (wmCross id s).pending = s.pending := by
  simp only [wmCross]; (repeat' split) <;> simp
@[simp] theorem wmCross_cores (id : Nat) (s : State) : (wmCross id s).cores = s.cores := by
  simp only [wmCross]; (repeat' split) <;> simp
@[simp] theorem wmCross_lath (id : Nat) (s : State) : (wmCross id s).lath = s.lath := by
  simp only [wmCross]; (repeat' split) <;> simp
@[simp] theorem wmCross_ret (id : Nat) (s : State) : (wmCross id s).ret = s.ret := by
  simp only [wmCross]; (repeat' split) <;> simp
@[simp] theorem wmCross_scrim (id : Nat) (s : State) : (wmCross id s).scrim = s.scrim := by
  simp only [wmCross]; (repeat' split) <;> simp
@[simp] theorem wmCross_uc (id : Nat) (s : State) : (wmCross id s).uc = s.uc := by
  simp only [wmCross]; (repeat' split) <;> simp
@[simp] theorem wmCross_hbm (id : Nat) (s : State) : (wmCross id s).hbm = s.hbm := by
  simp only [wmCross]; (repeat' split) <;> simp
@[simp] theorem wmCross_helda (id : Nat) (s : State) : (wmCross id s).helda = s.helda := by
  simp only [wmCross]; (repeat' split) <;> simp
@[simp] theorem wmCross_carrak (id : Nat) (s : State) : (wmCross id s).carrak = s.carrak := by
  simp only [wmCross]; (repeat' split) <;> simp
@[simp] theorem wmCross_work (id : Nat) (s : State) : (wmCross id s).work = s.work := by
  simp only [wmCross]; (repeat' split) <;> simp
@[simp] theorem wmCross_power (id : Nat) (s : State) : (wmCross id s).power = s.power := by
  simp only [wmCross]; (repeat' split) <;> simp
@[simp] theorem wmCross_errs (id : Nat) (s : State) : (wmCross id s).errs = s.errs := by
  simp only [wmCross]; (repeat' split) <;> simp
@[simp] theorem wmCross_part (id : Nat) (s : State) : (wmCross id s).part = s.part := by
  simp only [wmCross]; (repeat' split) <;> simp
@[simp] theorem wmCross_freeCtr (id : Nat) (s : State) : (wmCross id s).freeCtr = s.freeCtr := by
  simp only [wmCross]; (repeat' split) <;> simp
@[simp] theorem wmEval_pending (id : Nat) (m : Int) (s : State) : (wmEval id m s).pending = s.pending := by
  simp only [wmEval]; (repeat' split) <;> simp
@[simp] theorem wmEval_cores (id : Nat) (m : Int) (s : State) : (wmEval id m s).cores = s.cores := by
  simp only [wmEval]; (repeat' split) <;> simp
@[simp] theorem wmEval_lath (id : Nat) (m : Int) (s : State) : (wmEval id m s).lath = s.lath := by
  simp only [wmEval]; (repeat' split) <;> simp
@[simp] theorem wmEval_ret (id : Nat) (m : Int) (s : State) : (wmEval id m s).ret = s.ret := by
  simp only [wmEval]; (repeat' split) <;> simp
@[simp] theorem wmEval_scrim (id : Nat) (m : Int) (s : State) : (wmEval id m s).scrim = s.scrim := by
  simp only [wmEval]; (repeat' split) <;> simp
@[simp] theorem wmEval_uc (id : Nat) (m : Int) (s : State) : (wmEval id m s).uc = s.uc := by
  simp only [wmEval]; (repeat' split) <;> simp
@[simp] theorem wmEval_hbm (id : Nat) (m : Int) (s : State) : (wmEval id m s).hbm = s.hbm := by
  simp only [wmEval]; (repeat' split) <;> simp
@[simp] theorem wmEval_helda (id : Nat) (m : Int) (s : State) : (wmEval id m s).helda = s.helda := by
  simp only [wmEval]; (repeat' split) <;> simp
@[simp] theorem wmEval_carrak (id : Nat) (m : Int) (s : State) : (wmEval id m s).carrak = s.carrak := by
  simp only [wmEval]; (repeat' split) <;> simp
@[simp] theorem wmEval_work (id : Nat) (m : Int) (s : State) : (wmEval id m s).work = s.work := by
  simp only [wmEval]; (repeat' split) <;> simp
@[simp] theorem wmEval_power (id : Nat) (m : Int) (s : State) : (wmEval id m s).power = s.power := by
  simp only [wmEval]; (repeat' split) <;> simp
@[simp] theorem wmEval_errs (id : Nat) (m : Int) (s : State) : (wmEval id m s).errs = s.errs := by
  simp only [wmEval]; (repeat' split) <;> simp
@[simp] theorem wmEval_part (id : Nat) (m : Int) (s : State) : (wmEval id m s).part = s.part := by
  simp only [wmEval]; (repeat' split) <;> simp
@[simp] theorem wmEval_freeCtr (id : Nat) (m : Int) (s : State) : (wmEval id m s).freeCtr = s.freeCtr := by
  simp only [wmEval]; (repeat' split) <;> simp
@[simp] theorem errWrite_pending (e : ErrInfo) (rep : Nat) (s : State) : (errWrite e rep s).pending = s.pending := by
  simp only [errWrite]; (repeat' split) <;> simp
@[simp] theorem errWrite_cores (e : ErrInfo) (rep : Nat) (s : State) : (errWrite e rep s).cores = s.cores := by
  simp only [errWrite]; (repeat' split) <;> simp
@[simp] theorem errWrite_lath (e : ErrInfo) (rep : Nat) (s : State) : (errWrite e rep s).lath = s.lath := by
  simp only [errWrite]; (repeat' split) <;> simp
@[simp] theorem errWrite_ret (e : ErrInfo) (rep : Nat) (s : State) : (errWrite e rep s).ret = s.ret := by
  simp only [errWrite]; (repeat' split) <;> simp
@[simp] theorem errWrite_scrim (e : ErrInfo) (rep : Nat) (s : State) : (errWrite e rep s).scrim = s.scrim := by
  simp only [errWrite]; (repeat' split) <;> simp
@[simp] theorem errWrite_uc (e : ErrInfo) (rep : Nat) (s : State) : (errWrite e rep s).uc = s.uc := by
  simp only [errWrite]; (repeat' split) <;> simp
@[simp] theorem errWrite_hbm (e : ErrInfo) (rep : Nat) (s : State) : (errWrite e rep s).hbm = s.hbm := by
  simp only [errWrite]; (repeat' split) <;> simp
@[simp] theorem errWrite_helda (e : ErrInfo) (rep : Nat) (s : State) : (errWrite e rep s).helda = s.helda := by
  simp only [errWrite]; (repeat' split) <;> simp
@[simp] theorem errWrite_carrak (e : ErrInfo) (rep : Nat) (s : State) : (errWrite e rep s).carrak = s.carrak := by
  simp only [errWrite]; (repeat' split) <;> simp
@[simp] theorem errWrite_work (e : ErrInfo) (rep : Nat) (s : State) : (errWrite e rep s).work = s.work := by
  simp only [errWrite]; (repeat' split) <;> simp
@[simp] theorem errWrite_power (e : ErrInfo) (rep : Nat) (s : State) : (errWrite e rep s).power = s.power := by
  simp only [errWrite]; (repeat' split) <;> simp
@[simp] theorem errWrite_part (e : ErrInfo) (rep : Nat) (s : State) : (errWrite e rep s).part = s.part := by
  simp only [errWrite]; (repeat' split) <;> simp
@[simp] theorem errWrite_freeCtr (e : ErrInfo) (rep : Nat) (s : State) : (errWrite e rep s).freeCtr = s.freeCtr := by
  simp only [errWrite]; (repeat' split) <;> simp
@[simp] theorem signalCe_pending (s : State) : (signalCe s).pending = s.pending := by
  simp only [signalCe]; (repeat' split) <;> simp
@[simp] theorem signalCe_cores (s : State) : (signalCe s).cores = s.cores := by
  simp only [signalCe]; (repeat' split) <;> simp
@[simp] theorem signalCe_lath (s : State) : (signalCe s).lath = s.lath := by
  simp only [signalCe]; (repeat' split) <;> simp
@[simp] theorem signalCe_ret (s : State) : (signalCe s).ret = s.ret := by
  simp only [signalCe]; (repeat' split) <;> simp
@[simp] theorem signalCe_scrim (s : State) : (signalCe s).scrim = s.scrim := by
  simp only [signalCe]; (repeat' split) <;> simp
@[simp] theorem signalCe_uc (s : State) : (signalCe s).uc = s.uc := by
  simp only [signalCe]; (repeat' split) <;> simp
@[simp] theorem signalCe_hbm (s : State) : (signalCe s).hbm = s.hbm := by
  simp only [signalCe]; (repeat' split) <;> simp
@[simp] theorem signalCe_helda (s : State) : (signalCe s).helda = s.helda := by
  simp only [signalCe]; (repeat' split) <;> simp
@[simp] theorem signalCe_carrak (s : State) : (signalCe s).carrak = s.carrak := by
  simp only [signalCe]; (repeat' split) <;> simp
@[simp] theorem signalCe_work (s : State) : (signalCe s).work = s.work := by
  simp only [signalCe]; (repeat' split) <;> simp
@[simp] theorem signalCe_dict (s : State) : (signalCe s).dict = s.dict := by
  simp only [signalCe]; (repeat' split) <;> simp
@[simp] theorem signalCe_askar (s : State) : (signalCe s).askar = s.askar := by
  simp only [signalCe]; (repeat' split) <;> simp
@[simp] theorem signalCe_power (s : State) : (signalCe s).power = s.power := by
  simp only [signalCe]; (repeat' split) <;> simp
@[simp] theorem signalCe_part (s : State) : (signalCe s).part = s.part := by
  simp only [signalCe]; (repeat' split) <;> simp
@[simp] theorem signalCe_freeCtr (s : State) : (signalCe s).freeCtr = s.freeCtr := by
  simp only [signalCe]; (repeat' split) <;> simp
@[simp] theorem errReport_pending (e : ErrInfo) (s : State) : (errReport e s).pending = s.pending := by
  simp only [errReport]; (repeat' split) <;> simp
@[simp] theorem errReport_cores (e : ErrInfo) (s : State) : (errReport e s).cores = s.cores := by
  simp only [errReport]; (repeat' split) <;> simp
@[simp] theorem errReport_lath (e : ErrInfo) (s : State) : (errReport e s).lath = s.lath := by
  simp only [errReport]; (repeat' split) <;> simp
@[simp] theorem errReport_ret (e : ErrInfo) (s : State) : (errReport e s).ret = s.ret := by
  simp only [errReport]; (repeat' split) <;> simp
@[simp] theorem errReport_scrim (e : ErrInfo) (s : State) : (errReport e s).scrim = s.scrim := by
  simp only [errReport]; (repeat' split) <;> simp
@[simp] theorem errReport_uc (e : ErrInfo) (s : State) : (errReport e s).uc = s.uc := by
  simp only [errReport]; (repeat' split) <;> simp
@[simp] theorem errReport_hbm (e : ErrInfo) (s : State) : (errReport e s).hbm = s.hbm := by
  simp only [errReport]; (repeat' split) <;> simp
@[simp] theorem errReport_helda (e : ErrInfo) (s : State) : (errReport e s).helda = s.helda := by
  simp only [errReport]; (repeat' split) <;> simp
@[simp] theorem errReport_carrak (e : ErrInfo) (s : State) : (errReport e s).carrak = s.carrak := by
  simp only [errReport]; (repeat' split) <;> simp
@[simp] theorem errReport_work (e : ErrInfo) (s : State) : (errReport e s).work = s.work := by
  simp only [errReport]; (repeat' split) <;> simp
@[simp] theorem errReport_power (e : ErrInfo) (s : State) : (errReport e s).power = s.power := by
  simp only [errReport]; (repeat' split) <;> simp
@[simp] theorem errReport_part (e : ErrInfo) (s : State) : (errReport e s).part = s.part := by
  simp only [errReport]; (repeat' split) <;> simp
@[simp] theorem errReport_freeCtr (e : ErrInfo) (s : State) : (errReport e s).freeCtr = s.freeCtr := by
  simp only [errReport]; (repeat' split) <;> simp
@[simp] theorem setReady_pending (r : ReadyState) (reason : Nat) (s : State) : (setReady r reason s).pending = s.pending := by
  simp only [setReady]; (repeat' split) <;> simp
@[simp] theorem setReady_cores (r : ReadyState) (reason : Nat) (s : State) : (setReady r reason s).cores = s.cores := by
  simp only [setReady]; (repeat' split) <;> simp
@[simp] theorem setReady_lath (r : ReadyState) (reason : Nat) (s : State) : (setReady r reason s).lath = s.lath := by
  simp only [setReady]; (repeat' split) <;> simp
@[simp] theorem setReady_ret (r : ReadyState) (reason : Nat) (s : State) : (setReady r reason s).ret = s.ret := by
  simp only [setReady]; (repeat' split) <;> simp
@[simp] theorem setReady_scrim (r : ReadyState) (reason : Nat) (s : State) : (setReady r reason s).scrim = s.scrim := by
  simp only [setReady]; (repeat' split) <;> simp
@[simp] theorem setReady_uc (r : ReadyState) (reason : Nat) (s : State) : (setReady r reason s).uc = s.uc := by
  simp only [setReady]; (repeat' split) <;> simp
@[simp] theorem setReady_hbm (r : ReadyState) (reason : Nat) (s : State) : (setReady r reason s).hbm = s.hbm := by
  simp only [setReady]; (repeat' split) <;> simp
@[simp] theorem setReady_helda (r : ReadyState) (reason : Nat) (s : State) : (setReady r reason s).helda = s.helda := by
  simp only [setReady]; (repeat' split) <;> simp
@[simp] theorem setReady_carrak (r : ReadyState) (reason : Nat) (s : State) : (setReady r reason s).carrak = s.carrak := by
  simp only [setReady]; (repeat' split) <;> simp
@[simp] theorem setReady_work (r : ReadyState) (reason : Nat) (s : State) : (setReady r reason s).work = s.work := by
  simp only [setReady]; (repeat' split) <;> simp
@[simp] theorem setReady_errs (r : ReadyState) (reason : Nat) (s : State) : (setReady r reason s).errs = s.errs := by
  simp only [setReady]; (repeat' split) <;> simp
@[simp] theorem setReady_part (r : ReadyState) (reason : Nat) (s : State) : (setReady r reason s).part = s.part := by
  simp only [setReady]; (repeat' split) <;> simp
@[simp] theorem setReady_freeCtr (r : ReadyState) (reason : Nat) (s : State) : (setReady r reason s).freeCtr = s.freeCtr := by
  simp only [setReady]; (repeat' split) <;> simp
@[simp] theorem takeOut_pending (bitsOut : Nat) (reason : Nat) (s : State) : (takeOut bitsOut reason s).pending = s.pending := by
  simp only [takeOut]; (repeat' split) <;> simp
@[simp] theorem takeOut_cores (bitsOut : Nat) (reason : Nat) (s : State) : (takeOut bitsOut reason s).cores = s.cores := by
  simp only [takeOut]; (repeat' split) <;> simp
@[simp] theorem takeOut_lath (bitsOut : Nat) (reason : Nat) (s : State) : (takeOut bitsOut reason s).lath = s.lath := by
  simp only [takeOut]; (repeat' split) <;> simp
@[simp] theorem takeOut_ret (bitsOut : Nat) (reason : Nat) (s : State) : (takeOut bitsOut reason s).ret = s.ret := by
  simp only [takeOut]; (repeat' split) <;> simp
@[simp] theorem takeOut_scrim (bitsOut : Nat) (reason : Nat) (s : State) : (takeOut bitsOut reason s).scrim = s.scrim := by
  simp only [takeOut]; (repeat' split) <;> simp
@[simp] theorem takeOut_uc (bitsOut : Nat) (reason : Nat) (s : State) : (takeOut bitsOut reason s).uc = s.uc := by
  simp only [takeOut]; (repeat' split) <;> simp
@[simp] theorem takeOut_hbm (bitsOut : Nat) (reason : Nat) (s : State) : (takeOut bitsOut reason s).hbm = s.hbm := by
  simp only [takeOut]; (repeat' split) <;> simp
@[simp] theorem takeOut_helda (bitsOut : Nat) (reason : Nat) (s : State) : (takeOut bitsOut reason s).helda = s.helda := by
  simp only [takeOut]; (repeat' split) <;> simp
@[simp] theorem takeOut_carrak (bitsOut : Nat) (reason : Nat) (s : State) : (takeOut bitsOut reason s).carrak = s.carrak := by
  simp only [takeOut]; (repeat' split) <;> simp
@[simp] theorem takeOut_work (bitsOut : Nat) (reason : Nat) (s : State) : (takeOut bitsOut reason s).work = s.work := by
  simp only [takeOut]; (repeat' split) <;> simp
@[simp] theorem takeOut_errs (bitsOut : Nat) (reason : Nat) (s : State) : (takeOut bitsOut reason s).errs = s.errs := by
  simp only [takeOut]; (repeat' split) <;> simp
@[simp] theorem takeOut_part (bitsOut : Nat) (reason : Nat) (s : State) : (takeOut bitsOut reason s).part = s.part := by
  simp only [takeOut]; (repeat' split) <;> simp
@[simp] theorem takeOut_freeCtr (bitsOut : Nat) (reason : Nat) (s : State) : (takeOut bitsOut reason s).freeCtr = s.freeCtr := by
  simp only [takeOut]; (repeat' split) <;> simp
@[simp] theorem putBack_pending (bitsIn : Nat) (s : State) : (putBack bitsIn s).pending = s.pending := by
  simp only [putBack]; split <;> simp
@[simp] theorem putBack_cores (bitsIn : Nat) (s : State) : (putBack bitsIn s).cores = s.cores := by
  simp only [putBack]; split <;> simp
@[simp] theorem putBack_lath (bitsIn : Nat) (s : State) : (putBack bitsIn s).lath = s.lath := by
  simp only [putBack]; split <;> simp
@[simp] theorem putBack_ret (bitsIn : Nat) (s : State) : (putBack bitsIn s).ret = s.ret := by
  simp only [putBack]; split <;> simp
@[simp] theorem putBack_scrim (bitsIn : Nat) (s : State) : (putBack bitsIn s).scrim = s.scrim := by
  simp only [putBack]; split <;> simp
@[simp] theorem putBack_uc (bitsIn : Nat) (s : State) : (putBack bitsIn s).uc = s.uc := by
  simp only [putBack]; split <;> simp
@[simp] theorem putBack_hbm (bitsIn : Nat) (s : State) : (putBack bitsIn s).hbm = s.hbm := by
  simp only [putBack]; split <;> simp
@[simp] theorem putBack_helda (bitsIn : Nat) (s : State) : (putBack bitsIn s).helda = s.helda := by
  simp only [putBack]; split <;> simp
@[simp] theorem putBack_carrak (bitsIn : Nat) (s : State) : (putBack bitsIn s).carrak = s.carrak := by
  simp only [putBack]; split <;> simp
@[simp] theorem putBack_work (bitsIn : Nat) (s : State) : (putBack bitsIn s).work = s.work := by
  simp only [putBack]; split <;> simp
@[simp] theorem putBack_errs (bitsIn : Nat) (s : State) : (putBack bitsIn s).errs = s.errs := by
  simp only [putBack]; split <;> simp
@[simp] theorem putBack_part (bitsIn : Nat) (s : State) : (putBack bitsIn s).part = s.part := by
  simp only [putBack]; split <;> simp
@[simp] theorem putBack_freeCtr (bitsIn : Nat) (s : State) : (putBack bitsIn s).freeCtr = s.freeCtr := by
  simp only [putBack]; split <;> simp
@[simp] theorem driveThrottle_pending (s : State) : (driveThrottle s).pending = s.pending := rfl
@[simp] theorem driveThrottle_cores (s : State) : (driveThrottle s).cores = s.cores := rfl
@[simp] theorem driveThrottle_lath (s : State) : (driveThrottle s).lath = s.lath := rfl
@[simp] theorem driveThrottle_ret (s : State) : (driveThrottle s).ret = s.ret := rfl
@[simp] theorem driveThrottle_scrim (s : State) : (driveThrottle s).scrim = s.scrim := rfl
@[simp] theorem driveThrottle_uc (s : State) : (driveThrottle s).uc = s.uc := rfl
@[simp] theorem driveThrottle_hbm (s : State) : (driveThrottle s).hbm = s.hbm := rfl
@[simp] theorem driveThrottle_helda (s : State) : (driveThrottle s).helda = s.helda := rfl
@[simp] theorem driveThrottle_carrak (s : State) : (driveThrottle s).carrak = s.carrak := rfl
@[simp] theorem driveThrottle_host (s : State) : (driveThrottle s).host = s.host := rfl
@[simp] theorem driveThrottle_work (s : State) : (driveThrottle s).work = s.work := rfl
@[simp] theorem driveThrottle_dict (s : State) : (driveThrottle s).dict = s.dict := rfl
@[simp] theorem driveThrottle_askar (s : State) : (driveThrottle s).askar = s.askar := rfl
@[simp] theorem driveThrottle_errs (s : State) : (driveThrottle s).errs = s.errs := rfl
@[simp] theorem driveThrottle_part (s : State) : (driveThrottle s).part = s.part := rfl
@[simp] theorem driveThrottle_freeCtr (s : State) : (driveThrottle s).freeCtr = s.freeCtr := rfl
@[simp] theorem modCore_pending (c : Nat) (f : Core → Core) (s : State) : (modCore c f s).pending = s.pending := rfl
@[simp] theorem modCore_lath (c : Nat) (f : Core → Core) (s : State) : (modCore c f s).lath = s.lath := rfl
@[simp] theorem modCore_ret (c : Nat) (f : Core → Core) (s : State) : (modCore c f s).ret = s.ret := rfl
@[simp] theorem modCore_scrim (c : Nat) (f : Core → Core) (s : State) : (modCore c f s).scrim = s.scrim := rfl
@[simp] theorem modCore_uc (c : Nat) (f : Core → Core) (s : State) : (modCore c f s).uc = s.uc := rfl
@[simp] theorem modCore_hbm (c : Nat) (f : Core → Core) (s : State) : (modCore c f s).hbm = s.hbm := rfl
@[simp] theorem modCore_helda (c : Nat) (f : Core → Core) (s : State) : (modCore c f s).helda = s.helda := rfl
@[simp] theorem modCore_carrak (c : Nat) (f : Core → Core) (s : State) : (modCore c f s).carrak = s.carrak := rfl
@[simp] theorem modCore_host (c : Nat) (f : Core → Core) (s : State) : (modCore c f s).host = s.host := rfl
@[simp] theorem modCore_work (c : Nat) (f : Core → Core) (s : State) : (modCore c f s).work = s.work := rfl
@[simp] theorem modCore_dict (c : Nat) (f : Core → Core) (s : State) : (modCore c f s).dict = s.dict := rfl
@[simp] theorem modCore_askar (c : Nat) (f : Core → Core) (s : State) : (modCore c f s).askar = s.askar := rfl
@[simp] theorem modCore_power (c : Nat) (f : Core → Core) (s : State) : (modCore c f s).power = s.power := rfl
@[simp] theorem modCore_errs (c : Nat) (f : Core → Core) (s : State) : (modCore c f s).errs = s.errs := rfl
@[simp] theorem modCore_part (c : Nat) (f : Core → Core) (s : State) : (modCore c f s).part = s.part := rfl
@[simp] theorem modCore_freeCtr (c : Nat) (f : Core → Core) (s : State) : (modCore c f s).freeCtr = s.freeCtr := rfl
@[simp] theorem modCtx_pending (c : Nat) (f : Ctx → Ctx) (s : State) : (modCtx c f s).pending = s.pending := rfl
@[simp] theorem modCtx_cores (c : Nat) (f : Ctx → Ctx) (s : State) : (modCtx c f s).cores = s.cores := rfl
@[simp] theorem modCtx_lath (c : Nat) (f : Ctx → Ctx) (s : State) : (modCtx c f s).lath = s.lath := rfl
@[simp] theorem modCtx_ret (c : Nat) (f : Ctx → Ctx) (s : State) : (modCtx c f s).ret = s.ret := rfl
@[simp] theorem modCtx_scrim (c : Nat) (f : Ctx → Ctx) (s : State) : (modCtx c f s).scrim = s.scrim := rfl
@[simp] theorem modCtx_uc (c : Nat) (f : Ctx → Ctx) (s : State) : (modCtx c f s).uc = s.uc := rfl
@[simp] theorem modCtx_hbm (c : Nat) (f : Ctx → Ctx) (s : State) : (modCtx c f s).hbm = s.hbm := rfl
@[simp] theorem modCtx_helda (c : Nat) (f : Ctx → Ctx) (s : State) : (modCtx c f s).helda = s.helda := rfl
@[simp] theorem modCtx_carrak (c : Nat) (f : Ctx → Ctx) (s : State) : (modCtx c f s).carrak = s.carrak := rfl
@[simp] theorem modCtx_host (c : Nat) (f : Ctx → Ctx) (s : State) : (modCtx c f s).host = s.host := rfl
@[simp] theorem modCtx_dict (c : Nat) (f : Ctx → Ctx) (s : State) : (modCtx c f s).dict = s.dict := rfl
@[simp] theorem modCtx_askar (c : Nat) (f : Ctx → Ctx) (s : State) : (modCtx c f s).askar = s.askar := rfl
@[simp] theorem modCtx_power (c : Nat) (f : Ctx → Ctx) (s : State) : (modCtx c f s).power = s.power := rfl
@[simp] theorem modCtx_errs (c : Nat) (f : Ctx → Ctx) (s : State) : (modCtx c f s).errs = s.errs := rfl
@[simp] theorem modCtx_part (c : Nat) (f : Ctx → Ctx) (s : State) : (modCtx c f s).part = s.part := rfl
@[simp] theorem modCtx_freeCtr (c : Nat) (f : Ctx → Ctx) (s : State) : (modCtx c f s).freeCtr = s.freeCtr := rfl
@[simp] theorem modPart_pending (p : Nat) (f : Partition → Partition) (s : State) : (modPart p f s).pending = s.pending := rfl
@[simp] theorem modPart_cores (p : Nat) (f : Partition → Partition) (s : State) : (modPart p f s).cores = s.cores := rfl
@[simp] theorem modPart_lath (p : Nat) (f : Partition → Partition) (s : State) : (modPart p f s).lath = s.lath := rfl
@[simp] theorem modPart_ret (p : Nat) (f : Partition → Partition) (s : State) : (modPart p f s).ret = s.ret := rfl
@[simp] theorem modPart_scrim (p : Nat) (f : Partition → Partition) (s : State) : (modPart p f s).scrim = s.scrim := rfl
@[simp] theorem modPart_uc (p : Nat) (f : Partition → Partition) (s : State) : (modPart p f s).uc = s.uc := rfl
@[simp] theorem modPart_hbm (p : Nat) (f : Partition → Partition) (s : State) : (modPart p f s).hbm = s.hbm := rfl
@[simp] theorem modPart_helda (p : Nat) (f : Partition → Partition) (s : State) : (modPart p f s).helda = s.helda := rfl
@[simp] theorem modPart_carrak (p : Nat) (f : Partition → Partition) (s : State) : (modPart p f s).carrak = s.carrak := rfl
@[simp] theorem modPart_host (p : Nat) (f : Partition → Partition) (s : State) : (modPart p f s).host = s.host := rfl
@[simp] theorem modPart_dict (p : Nat) (f : Partition → Partition) (s : State) : (modPart p f s).dict = s.dict := rfl
@[simp] theorem modPart_askar (p : Nat) (f : Partition → Partition) (s : State) : (modPart p f s).askar = s.askar := rfl
@[simp] theorem modPart_power (p : Nat) (f : Partition → Partition) (s : State) : (modPart p f s).power = s.power := rfl
@[simp] theorem modPart_errs (p : Nat) (f : Partition → Partition) (s : State) : (modPart p f s).errs = s.errs := rfl
@[simp] theorem modPart_part (p : Nat) (f : Partition → Partition) (s : State) : (modPart p f s).part = s.part := rfl
@[simp] theorem modPart_freeCtr (p : Nat) (f : Partition → Partition) (s : State) : (modPart p f s).freeCtr = s.freeCtr := rfl
@[simp] theorem modSlot_pending (c t : Nat) (f : Slot → Slot) (s : State) : (modSlot c t f s).pending = s.pending := rfl
@[simp] theorem modSlot_lath (c t : Nat) (f : Slot → Slot) (s : State) : (modSlot c t f s).lath = s.lath := rfl
@[simp] theorem modSlot_ret (c t : Nat) (f : Slot → Slot) (s : State) : (modSlot c t f s).ret = s.ret := rfl
@[simp] theorem modSlot_scrim (c t : Nat) (f : Slot → Slot) (s : State) : (modSlot c t f s).scrim = s.scrim := rfl
@[simp] theorem modSlot_uc (c t : Nat) (f : Slot → Slot) (s : State) : (modSlot c t f s).uc = s.uc := rfl
@[simp] theorem modSlot_hbm (c t : Nat) (f : Slot → Slot) (s : State) : (modSlot c t f s).hbm = s.hbm := rfl
@[simp] theorem modSlot_helda (c t : Nat) (f : Slot → Slot) (s : State) : (modSlot c t f s).helda = s.helda := rfl
@[simp] theorem modSlot_carrak (c t : Nat) (f : Slot → Slot) (s : State) : (modSlot c t f s).carrak = s.carrak := rfl
@[simp] theorem modSlot_host (c t : Nat) (f : Slot → Slot) (s : State) : (modSlot c t f s).host = s.host := rfl
@[simp] theorem modSlot_work (c t : Nat) (f : Slot → Slot) (s : State) : (modSlot c t f s).work = s.work := rfl
@[simp] theorem modSlot_dict (c t : Nat) (f : Slot → Slot) (s : State) : (modSlot c t f s).dict = s.dict := rfl
@[simp] theorem modSlot_askar (c t : Nat) (f : Slot → Slot) (s : State) : (modSlot c t f s).askar = s.askar := rfl
@[simp] theorem modSlot_power (c t : Nat) (f : Slot → Slot) (s : State) : (modSlot c t f s).power = s.power := rfl
@[simp] theorem modSlot_errs (c t : Nat) (f : Slot → Slot) (s : State) : (modSlot c t f s).errs = s.errs := rfl
@[simp] theorem modSlot_part (c t : Nat) (f : Slot → Slot) (s : State) : (modSlot c t f s).part = s.part := rfl
@[simp] theorem modSlot_freeCtr (c t : Nat) (f : Slot → Slot) (s : State) : (modSlot c t f s).freeCtr = s.freeCtr := rfl
@[simp] theorem stopCores_pending (c : Nat) (s : State) : (stopCores c s).pending = s.pending := rfl
@[simp] theorem stopCores_lath (c : Nat) (s : State) : (stopCores c s).lath = s.lath := rfl
@[simp] theorem stopCores_ret (c : Nat) (s : State) : (stopCores c s).ret = s.ret := rfl
@[simp] theorem stopCores_scrim (c : Nat) (s : State) : (stopCores c s).scrim = s.scrim := rfl
@[simp] theorem stopCores_uc (c : Nat) (s : State) : (stopCores c s).uc = s.uc := rfl
@[simp] theorem stopCores_hbm (c : Nat) (s : State) : (stopCores c s).hbm = s.hbm := rfl
@[simp] theorem stopCores_helda (c : Nat) (s : State) : (stopCores c s).helda = s.helda := rfl
@[simp] theorem stopCores_carrak (c : Nat) (s : State) : (stopCores c s).carrak = s.carrak := rfl
@[simp] theorem stopCores_host (c : Nat) (s : State) : (stopCores c s).host = s.host := rfl
@[simp] theorem stopCores_work (c : Nat) (s : State) : (stopCores c s).work = s.work := rfl
@[simp] theorem stopCores_dict (c : Nat) (s : State) : (stopCores c s).dict = s.dict := rfl
@[simp] theorem stopCores_askar (c : Nat) (s : State) : (stopCores c s).askar = s.askar := rfl
@[simp] theorem stopCores_power (c : Nat) (s : State) : (stopCores c s).power = s.power := rfl
@[simp] theorem stopCores_errs (c : Nat) (s : State) : (stopCores c s).errs = s.errs := rfl
@[simp] theorem stopCores_part (c : Nat) (s : State) : (stopCores c s).part = s.part := rfl
@[simp] theorem stopCores_freeCtr (c : Nat) (s : State) : (stopCores c s).freeCtr = s.freeCtr := rfl
@[simp] theorem urgentStop_pending (c : Nat) (s : State) : (urgentStop c s).pending = s.pending := rfl
@[simp] theorem urgentStop_lath (c : Nat) (s : State) : (urgentStop c s).lath = s.lath := rfl
@[simp] theorem urgentStop_ret (c : Nat) (s : State) : (urgentStop c s).ret = s.ret := rfl
@[simp] theorem urgentStop_scrim (c : Nat) (s : State) : (urgentStop c s).scrim = s.scrim := rfl
@[simp] theorem urgentStop_uc (c : Nat) (s : State) : (urgentStop c s).uc = s.uc := rfl
@[simp] theorem urgentStop_hbm (c : Nat) (s : State) : (urgentStop c s).hbm = s.hbm := rfl
@[simp] theorem urgentStop_helda (c : Nat) (s : State) : (urgentStop c s).helda = s.helda := rfl
@[simp] theorem urgentStop_carrak (c : Nat) (s : State) : (urgentStop c s).carrak = s.carrak := rfl
@[simp] theorem urgentStop_dict (c : Nat) (s : State) : (urgentStop c s).dict = s.dict := rfl
@[simp] theorem urgentStop_askar (c : Nat) (s : State) : (urgentStop c s).askar = s.askar := rfl
@[simp] theorem urgentStop_power (c : Nat) (s : State) : (urgentStop c s).power = s.power := rfl
@[simp] theorem urgentStop_errs (c : Nat) (s : State) : (urgentStop c s).errs = s.errs := rfl
@[simp] theorem urgentStop_part (c : Nat) (s : State) : (urgentStop c s).part = s.part := rfl
@[simp] theorem urgentStop_freeCtr (c : Nat) (s : State) : (urgentStop c s).freeCtr = s.freeCtr := rfl
@[simp] theorem ctxFault_pending (c : Nat) (f : FaultRec) (s : State) : (ctxFault c f s).pending = s.pending := by
  simp only [ctxFault]; (repeat' split) <;> simp
@[simp] theorem ctxFault_lath (c : Nat) (f : FaultRec) (s : State) : (ctxFault c f s).lath = s.lath := by
  simp only [ctxFault]; (repeat' split) <;> simp
@[simp] theorem ctxFault_ret (c : Nat) (f : FaultRec) (s : State) : (ctxFault c f s).ret = s.ret := by
  simp only [ctxFault]; (repeat' split) <;> simp
@[simp] theorem ctxFault_scrim (c : Nat) (f : FaultRec) (s : State) : (ctxFault c f s).scrim = s.scrim := by
  simp only [ctxFault]; (repeat' split) <;> simp
@[simp] theorem ctxFault_uc (c : Nat) (f : FaultRec) (s : State) : (ctxFault c f s).uc = s.uc := by
  simp only [ctxFault]; (repeat' split) <;> simp
@[simp] theorem ctxFault_hbm (c : Nat) (f : FaultRec) (s : State) : (ctxFault c f s).hbm = s.hbm := by
  simp only [ctxFault]; (repeat' split) <;> simp
@[simp] theorem ctxFault_helda (c : Nat) (f : FaultRec) (s : State) : (ctxFault c f s).helda = s.helda := by
  simp only [ctxFault]; (repeat' split) <;> simp
@[simp] theorem ctxFault_carrak (c : Nat) (f : FaultRec) (s : State) : (ctxFault c f s).carrak = s.carrak := by
  simp only [ctxFault]; (repeat' split) <;> simp
@[simp] theorem ctxFault_power (c : Nat) (f : FaultRec) (s : State) : (ctxFault c f s).power = s.power := by
  simp only [ctxFault]; (repeat' split) <;> simp
@[simp] theorem ctxFault_errs (c : Nat) (f : FaultRec) (s : State) : (ctxFault c f s).errs = s.errs := by
  simp only [ctxFault]; (repeat' split) <;> simp
@[simp] theorem ctxFault_part (c : Nat) (f : FaultRec) (s : State) : (ctxFault c f s).part = s.part := by
  simp only [ctxFault]; (repeat' split) <;> simp
@[simp] theorem ctxFault_freeCtr (c : Nat) (f : FaultRec) (s : State) : (ctxFault c f s).freeCtr = s.freeCtr := by
  simp only [ctxFault]; (repeat' split) <;> simp
@[simp] theorem recordAccess_pending (c errSource cause addr place : Nat) (s : State) : (recordAccess c errSource cause addr place s).pending = s.pending := by
  simp only [recordAccess]; split <;> simp
@[simp] theorem recordAccess_cores (c errSource cause addr place : Nat) (s : State) : (recordAccess c errSource cause addr place s).cores = s.cores := by
  simp only [recordAccess]; split <;> simp
@[simp] theorem recordAccess_lath (c errSource cause addr place : Nat) (s : State) : (recordAccess c errSource cause addr place s).lath = s.lath := by
  simp only [recordAccess]; split <;> simp
@[simp] theorem recordAccess_ret (c errSource cause addr place : Nat) (s : State) : (recordAccess c errSource cause addr place s).ret = s.ret := by
  simp only [recordAccess]; split <;> simp
@[simp] theorem recordAccess_scrim (c errSource cause addr place : Nat) (s : State) : (recordAccess c errSource cause addr place s).scrim = s.scrim := by
  simp only [recordAccess]; split <;> simp
@[simp] theorem recordAccess_uc (c errSource cause addr place : Nat) (s : State) : (recordAccess c errSource cause addr place s).uc = s.uc := by
  simp only [recordAccess]; split <;> simp
@[simp] theorem recordAccess_hbm (c errSource cause addr place : Nat) (s : State) : (recordAccess c errSource cause addr place s).hbm = s.hbm := by
  simp only [recordAccess]; split <;> simp
@[simp] theorem recordAccess_helda (c errSource cause addr place : Nat) (s : State) : (recordAccess c errSource cause addr place s).helda = s.helda := by
  simp only [recordAccess]; split <;> simp
@[simp] theorem recordAccess_carrak (c errSource cause addr place : Nat) (s : State) : (recordAccess c errSource cause addr place s).carrak = s.carrak := by
  simp only [recordAccess]; split <;> simp
@[simp] theorem recordAccess_work (c errSource cause addr place : Nat) (s : State) : (recordAccess c errSource cause addr place s).work = s.work := by
  simp only [recordAccess]; split <;> simp
@[simp] theorem recordAccess_power (c errSource cause addr place : Nat) (s : State) : (recordAccess c errSource cause addr place s).power = s.power := by
  simp only [recordAccess]; split <;> simp
@[simp] theorem recordAccess_part (c errSource cause addr place : Nat) (s : State) : (recordAccess c errSource cause addr place s).part = s.part := by
  simp only [recordAccess]; split <;> simp
@[simp] theorem recordAccess_freeCtr (c errSource cause addr place : Nat) (s : State) : (recordAccess c errSource cause addr place s).freeCtr = s.freeCtr := by
  simp only [recordAccess]; split <;> simp
@[simp] theorem containedCtx_pending (c : Nat) (source errSource cause addr place : Nat) (s : State) : (containedCtx c source errSource cause addr place s).pending = s.pending := by
  simp [containedCtx]
@[simp] theorem containedCtx_lath (c : Nat) (source errSource cause addr place : Nat) (s : State) : (containedCtx c source errSource cause addr place s).lath = s.lath := by
  simp [containedCtx]
@[simp] theorem containedCtx_ret (c : Nat) (source errSource cause addr place : Nat) (s : State) : (containedCtx c source errSource cause addr place s).ret = s.ret := by
  simp [containedCtx]
@[simp] theorem containedCtx_scrim (c : Nat) (source errSource cause addr place : Nat) (s : State) : (containedCtx c source errSource cause addr place s).scrim = s.scrim := by
  simp [containedCtx]
@[simp] theorem containedCtx_uc (c : Nat) (source errSource cause addr place : Nat) (s : State) : (containedCtx c source errSource cause addr place s).uc = s.uc := by
  simp [containedCtx]
@[simp] theorem containedCtx_hbm (c : Nat) (source errSource cause addr place : Nat) (s : State) : (containedCtx c source errSource cause addr place s).hbm = s.hbm := by
  simp [containedCtx]
@[simp] theorem containedCtx_helda (c : Nat) (source errSource cause addr place : Nat) (s : State) : (containedCtx c source errSource cause addr place s).helda = s.helda := by
  simp [containedCtx]
@[simp] theorem containedCtx_carrak (c : Nat) (source errSource cause addr place : Nat) (s : State) : (containedCtx c source errSource cause addr place s).carrak = s.carrak := by
  simp [containedCtx]
@[simp] theorem containedCtx_power (c : Nat) (source errSource cause addr place : Nat) (s : State) : (containedCtx c source errSource cause addr place s).power = s.power := by
  simp [containedCtx]
@[simp] theorem containedCtx_part (c : Nat) (source errSource cause addr place : Nat) (s : State) : (containedCtx c source errSource cause addr place s).part = s.part := by
  simp [containedCtx]
@[simp] theorem containedCtx_freeCtr (c : Nat) (source errSource cause addr place : Nat) (s : State) : (containedCtx c source errSource cause addr place s).freeCtr = s.freeCtr := by
  simp [containedCtx]
@[simp] theorem ok_pending (s : State) : (ok s).pending = s.pending := rfl
@[simp] theorem ok_cores (s : State) : (ok s).cores = s.cores := rfl
@[simp] theorem ok_lath (s : State) : (ok s).lath = s.lath := rfl
@[simp] theorem ok_ret (s : State) : (ok s).ret = s.ret := rfl
@[simp] theorem ok_scrim (s : State) : (ok s).scrim = s.scrim := rfl
@[simp] theorem ok_uc (s : State) : (ok s).uc = s.uc := rfl
@[simp] theorem ok_hbm (s : State) : (ok s).hbm = s.hbm := rfl
@[simp] theorem ok_helda (s : State) : (ok s).helda = s.helda := rfl
@[simp] theorem ok_carrak (s : State) : (ok s).carrak = s.carrak := rfl
@[simp] theorem ok_host (s : State) : (ok s).host = s.host := rfl
@[simp] theorem ok_work (s : State) : (ok s).work = s.work := rfl
@[simp] theorem ok_askar (s : State) : (ok s).askar = s.askar := rfl
@[simp] theorem ok_power (s : State) : (ok s).power = s.power := rfl
@[simp] theorem ok_errs (s : State) : (ok s).errs = s.errs := rfl
@[simp] theorem ok_part (s : State) : (ok s).part = s.part := rfl
@[simp] theorem ok_freeCtr (s : State) : (ok s).freeCtr = s.freeCtr := rfl
@[simp] theorem failed_pending (reason : Nat) (s : State) : (failed reason s).pending = s.pending := rfl
@[simp] theorem failed_cores (reason : Nat) (s : State) : (failed reason s).cores = s.cores := rfl
@[simp] theorem failed_lath (reason : Nat) (s : State) : (failed reason s).lath = s.lath := rfl
@[simp] theorem failed_ret (reason : Nat) (s : State) : (failed reason s).ret = s.ret := rfl
@[simp] theorem failed_scrim (reason : Nat) (s : State) : (failed reason s).scrim = s.scrim := rfl
@[simp] theorem failed_uc (reason : Nat) (s : State) : (failed reason s).uc = s.uc := rfl
@[simp] theorem failed_hbm (reason : Nat) (s : State) : (failed reason s).hbm = s.hbm := rfl
@[simp] theorem failed_helda (reason : Nat) (s : State) : (failed reason s).helda = s.helda := rfl
@[simp] theorem failed_carrak (reason : Nat) (s : State) : (failed reason s).carrak = s.carrak := rfl
@[simp] theorem failed_host (reason : Nat) (s : State) : (failed reason s).host = s.host := rfl
@[simp] theorem failed_work (reason : Nat) (s : State) : (failed reason s).work = s.work := rfl
@[simp] theorem failed_askar (reason : Nat) (s : State) : (failed reason s).askar = s.askar := rfl
@[simp] theorem failed_power (reason : Nat) (s : State) : (failed reason s).power = s.power := rfl
@[simp] theorem failed_errs (reason : Nat) (s : State) : (failed reason s).errs = s.errs := rfl
@[simp] theorem failed_part (reason : Nat) (s : State) : (failed reason s).part = s.part := rfl
@[simp] theorem failed_freeCtr (reason : Nat) (s : State) : (failed reason s).freeCtr = s.freeCtr := rfl
@[simp] theorem inProgress_pending (s : State) : (inProgress s).pending = s.pending := rfl
@[simp] theorem inProgress_cores (s : State) : (inProgress s).cores = s.cores := rfl
@[simp] theorem inProgress_lath (s : State) : (inProgress s).lath = s.lath := rfl
@[simp] theorem inProgress_ret (s : State) : (inProgress s).ret = s.ret := rfl
@[simp] theorem inProgress_scrim (s : State) : (inProgress s).scrim = s.scrim := rfl
@[simp] theorem inProgress_uc (s : State) : (inProgress s).uc = s.uc := rfl
@[simp] theorem inProgress_hbm (s : State) : (inProgress s).hbm = s.hbm := rfl
@[simp] theorem inProgress_helda (s : State) : (inProgress s).helda = s.helda := rfl
@[simp] theorem inProgress_carrak (s : State) : (inProgress s).carrak = s.carrak := rfl
@[simp] theorem inProgress_host (s : State) : (inProgress s).host = s.host := rfl
@[simp] theorem inProgress_work (s : State) : (inProgress s).work = s.work := rfl
@[simp] theorem inProgress_askar (s : State) : (inProgress s).askar = s.askar := rfl
@[simp] theorem inProgress_power (s : State) : (inProgress s).power = s.power := rfl
@[simp] theorem inProgress_errs (s : State) : (inProgress s).errs = s.errs := rfl
@[simp] theorem inProgress_part (s : State) : (inProgress s).part = s.part := rfl
@[simp] theorem inProgress_freeCtr (s : State) : (inProgress s).freeCtr = s.freeCtr := rfl
@[simp] theorem deliver_pending (ep : Endpoint) (mac : Nat) (notify : Bool) (bytes : List Byte) (s : State) : (deliver ep mac notify bytes s).pending = s.pending := by
  simp only [deliver]; (repeat' split) <;> simp
@[simp] theorem deliver_cores (ep : Endpoint) (mac : Nat) (notify : Bool) (bytes : List Byte) (s : State) : (deliver ep mac notify bytes s).cores = s.cores := by
  simp only [deliver]; (repeat' split) <;> simp
@[simp] theorem deliver_lath (ep : Endpoint) (mac : Nat) (notify : Bool) (bytes : List Byte) (s : State) : (deliver ep mac notify bytes s).lath = s.lath := by
  simp only [deliver]; (repeat' split) <;> simp
@[simp] theorem deliver_ret (ep : Endpoint) (mac : Nat) (notify : Bool) (bytes : List Byte) (s : State) : (deliver ep mac notify bytes s).ret = s.ret := by
  simp only [deliver]; (repeat' split) <;> simp
@[simp] theorem deliver_scrim (ep : Endpoint) (mac : Nat) (notify : Bool) (bytes : List Byte) (s : State) : (deliver ep mac notify bytes s).scrim = s.scrim := by
  simp only [deliver]; (repeat' split) <;> simp
@[simp] theorem deliver_uc (ep : Endpoint) (mac : Nat) (notify : Bool) (bytes : List Byte) (s : State) : (deliver ep mac notify bytes s).uc = s.uc := by
  simp only [deliver]; (repeat' split) <;> simp
@[simp] theorem deliver_hbm (ep : Endpoint) (mac : Nat) (notify : Bool) (bytes : List Byte) (s : State) : (deliver ep mac notify bytes s).hbm = s.hbm := by
  simp only [deliver]; (repeat' split) <;> simp
@[simp] theorem deliver_helda (ep : Endpoint) (mac : Nat) (notify : Bool) (bytes : List Byte) (s : State) : (deliver ep mac notify bytes s).helda = s.helda := by
  simp only [deliver]; (repeat' split) <;> simp
@[simp] theorem deliver_carrak (ep : Endpoint) (mac : Nat) (notify : Bool) (bytes : List Byte) (s : State) : (deliver ep mac notify bytes s).carrak = s.carrak := by
  simp only [deliver]; (repeat' split) <;> simp
@[simp] theorem deliver_work (ep : Endpoint) (mac : Nat) (notify : Bool) (bytes : List Byte) (s : State) : (deliver ep mac notify bytes s).work = s.work := by
  simp only [deliver]; (repeat' split) <;> simp
@[simp] theorem deliver_askar (ep : Endpoint) (mac : Nat) (notify : Bool) (bytes : List Byte) (s : State) : (deliver ep mac notify bytes s).askar = s.askar := by
  simp only [deliver]; (repeat' split) <;> simp
@[simp] theorem deliver_power (ep : Endpoint) (mac : Nat) (notify : Bool) (bytes : List Byte) (s : State) : (deliver ep mac notify bytes s).power = s.power := by
  simp only [deliver]; (repeat' split) <;> simp
@[simp] theorem deliver_errs (ep : Endpoint) (mac : Nat) (notify : Bool) (bytes : List Byte) (s : State) : (deliver ep mac notify bytes s).errs = s.errs := by
  simp only [deliver]; (repeat' split) <;> simp
@[simp] theorem deliver_part (ep : Endpoint) (mac : Nat) (notify : Bool) (bytes : List Byte) (s : State) : (deliver ep mac notify bytes s).part = s.part := by
  simp only [deliver]; (repeat' split) <;> simp
@[simp] theorem deliver_freeCtr (ep : Endpoint) (mac : Nat) (notify : Bool) (bytes : List Byte) (s : State) : (deliver ep mac notify bytes s).freeCtr = s.freeCtr := by
  simp only [deliver]; (repeat' split) <;> simp
@[simp] theorem endSessions_pending (p : Session → Bool) (s : State) : (endSessions p s).pending = s.pending := rfl
@[simp] theorem endSessions_cores (p : Session → Bool) (s : State) : (endSessions p s).cores = s.cores := rfl
@[simp] theorem endSessions_lath (p : Session → Bool) (s : State) : (endSessions p s).lath = s.lath := rfl
@[simp] theorem endSessions_ret (p : Session → Bool) (s : State) : (endSessions p s).ret = s.ret := rfl
@[simp] theorem endSessions_scrim (p : Session → Bool) (s : State) : (endSessions p s).scrim = s.scrim := rfl
@[simp] theorem endSessions_uc (p : Session → Bool) (s : State) : (endSessions p s).uc = s.uc := rfl
@[simp] theorem endSessions_hbm (p : Session → Bool) (s : State) : (endSessions p s).hbm = s.hbm := rfl
@[simp] theorem endSessions_helda (p : Session → Bool) (s : State) : (endSessions p s).helda = s.helda := rfl
@[simp] theorem endSessions_carrak (p : Session → Bool) (s : State) : (endSessions p s).carrak = s.carrak := rfl
@[simp] theorem endSessions_host (p : Session → Bool) (s : State) : (endSessions p s).host = s.host := rfl
@[simp] theorem endSessions_work (p : Session → Bool) (s : State) : (endSessions p s).work = s.work := rfl
@[simp] theorem endSessions_askar (p : Session → Bool) (s : State) : (endSessions p s).askar = s.askar := rfl
@[simp] theorem endSessions_power (p : Session → Bool) (s : State) : (endSessions p s).power = s.power := rfl
@[simp] theorem endSessions_errs (p : Session → Bool) (s : State) : (endSessions p s).errs = s.errs := rfl
@[simp] theorem endSessions_part (p : Session → Bool) (s : State) : (endSessions p s).part = s.part := rfl
@[simp] theorem endSessions_freeCtr (p : Session → Bool) (s : State) : (endSessions p s).freeCtr = s.freeCtr := rfl
@[simp] theorem endVfSessions_pending (n : Nat) (s : State) : (endVfSessions n s).pending = s.pending := rfl
@[simp] theorem endVfSessions_cores (n : Nat) (s : State) : (endVfSessions n s).cores = s.cores := rfl
@[simp] theorem endVfSessions_lath (n : Nat) (s : State) : (endVfSessions n s).lath = s.lath := rfl
@[simp] theorem endVfSessions_ret (n : Nat) (s : State) : (endVfSessions n s).ret = s.ret := rfl
@[simp] theorem endVfSessions_scrim (n : Nat) (s : State) : (endVfSessions n s).scrim = s.scrim := rfl
@[simp] theorem endVfSessions_uc (n : Nat) (s : State) : (endVfSessions n s).uc = s.uc := rfl
@[simp] theorem endVfSessions_hbm (n : Nat) (s : State) : (endVfSessions n s).hbm = s.hbm := rfl
@[simp] theorem endVfSessions_helda (n : Nat) (s : State) : (endVfSessions n s).helda = s.helda := rfl
@[simp] theorem endVfSessions_carrak (n : Nat) (s : State) : (endVfSessions n s).carrak = s.carrak := rfl
@[simp] theorem endVfSessions_host (n : Nat) (s : State) : (endVfSessions n s).host = s.host := rfl
@[simp] theorem endVfSessions_work (n : Nat) (s : State) : (endVfSessions n s).work = s.work := rfl
@[simp] theorem endVfSessions_askar (n : Nat) (s : State) : (endVfSessions n s).askar = s.askar := rfl
@[simp] theorem endVfSessions_power (n : Nat) (s : State) : (endVfSessions n s).power = s.power := rfl
@[simp] theorem endVfSessions_errs (n : Nat) (s : State) : (endVfSessions n s).errs = s.errs := rfl
@[simp] theorem endVfSessions_part (n : Nat) (s : State) : (endVfSessions n s).part = s.part := rfl
@[simp] theorem endVfSessions_freeCtr (n : Nat) (s : State) : (endVfSessions n s).freeCtr = s.freeCtr := rfl
@[simp] theorem clampRecord_pending (index sub type sid : Nat) (ep : Endpoint) (requested applied : Nat) (s : State) : (clampRecord index sub type sid ep requested applied s).pending = s.pending := by
  simp [clampRecord]
@[simp] theorem clampRecord_cores (index sub type sid : Nat) (ep : Endpoint) (requested applied : Nat) (s : State) : (clampRecord index sub type sid ep requested applied s).cores = s.cores := by
  simp [clampRecord]
@[simp] theorem clampRecord_lath (index sub type sid : Nat) (ep : Endpoint) (requested applied : Nat) (s : State) : (clampRecord index sub type sid ep requested applied s).lath = s.lath := by
  simp [clampRecord]
@[simp] theorem clampRecord_ret (index sub type sid : Nat) (ep : Endpoint) (requested applied : Nat) (s : State) : (clampRecord index sub type sid ep requested applied s).ret = s.ret := by
  simp [clampRecord]
@[simp] theorem clampRecord_scrim (index sub type sid : Nat) (ep : Endpoint) (requested applied : Nat) (s : State) : (clampRecord index sub type sid ep requested applied s).scrim = s.scrim := by
  simp [clampRecord]
@[simp] theorem clampRecord_uc (index sub type sid : Nat) (ep : Endpoint) (requested applied : Nat) (s : State) : (clampRecord index sub type sid ep requested applied s).uc = s.uc := by
  simp [clampRecord]
@[simp] theorem clampRecord_hbm (index sub type sid : Nat) (ep : Endpoint) (requested applied : Nat) (s : State) : (clampRecord index sub type sid ep requested applied s).hbm = s.hbm := by
  simp [clampRecord]
@[simp] theorem clampRecord_helda (index sub type sid : Nat) (ep : Endpoint) (requested applied : Nat) (s : State) : (clampRecord index sub type sid ep requested applied s).helda = s.helda := by
  simp [clampRecord]
@[simp] theorem clampRecord_carrak (index sub type sid : Nat) (ep : Endpoint) (requested applied : Nat) (s : State) : (clampRecord index sub type sid ep requested applied s).carrak = s.carrak := by
  simp [clampRecord]
@[simp] theorem clampRecord_host (index sub type sid : Nat) (ep : Endpoint) (requested applied : Nat) (s : State) : (clampRecord index sub type sid ep requested applied s).host = s.host := by
  simp [clampRecord]
@[simp] theorem clampRecord_work (index sub type sid : Nat) (ep : Endpoint) (requested applied : Nat) (s : State) : (clampRecord index sub type sid ep requested applied s).work = s.work := by
  simp [clampRecord]
@[simp] theorem clampRecord_power (index sub type sid : Nat) (ep : Endpoint) (requested applied : Nat) (s : State) : (clampRecord index sub type sid ep requested applied s).power = s.power := by
  simp [clampRecord]
@[simp] theorem clampRecord_errs (index sub type sid : Nat) (ep : Endpoint) (requested applied : Nat) (s : State) : (clampRecord index sub type sid ep requested applied s).errs = s.errs := by
  simp [clampRecord]
@[simp] theorem clampRecord_part (index sub type sid : Nat) (ep : Endpoint) (requested applied : Nat) (s : State) : (clampRecord index sub type sid ep requested applied s).part = s.part := by
  simp [clampRecord]
@[simp] theorem clampRecord_freeCtr (index sub type sid : Nat) (ep : Endpoint) (requested applied : Nat) (s : State) : (clampRecord index sub type sid ep requested applied s).freeCtr = s.freeCtr := by
  simp [clampRecord]

end Sys2Proof.Machine
end

