-- ==== Sys2Proof/Laws/PerInstr.lean ====
section
/-! SUPPORT. What holds of every command as syntax, one lemma per constructor: a core's instruction is well formed exactly where it names a
core and a slot of the device (R26, R83). -/
namespace Sys2Proof.Laws.Shape

/-- The core and the slot that a core's instruction names; none for every other command. -/
def placeOf : Instr → Option (Nat × Nat)
  | .addS c t _ => some (c, t)
  | .subS c t _ => some (c, t)
  | .andS c t _ => some (c, t)
  | .orS c t _ => some (c, t)
  | .xorS c t _ => some (c, t)
  | .shlS c t _ => some (c, t)
  | .shrS c t _ => some (c, t)
  | .sraS c t _ => some (c, t)
  | .mulS c t _ => some (c, t)
  | .cmpS c t _ => some (c, t)
  | .addiS c t _ => some (c, t)
  | .liS c t _ => some (c, t)
  | .fmaF32 c t _ => some (c, t)
  | .addF32 c t _ => some (c, t)
  | .subF32 c t _ => some (c, t)
  | .mulF32 c t _ => some (c, t)
  | .minF32 c t _ => some (c, t)
  | .maxF32 c t _ => some (c, t)
  | .exp2F32 c t _ => some (c, t)
  | .log2F32 c t _ => some (c, t)
  | .rcpF32 c t _ => some (c, t)
  | .rsqF32 c t _ => some (c, t)
  | .cmpF32 c t _ => some (c, t)
  | .cmpI32 c t _ => some (c, t)
  | .addI32 c t _ => some (c, t)
  | .subI32 c t _ => some (c, t)
  | .mulI32 c t _ => some (c, t)
  | .logicI32 c t _ => some (c, t)
  | .selV c t _ => some (c, t)
  | .shflV c t _ => some (c, t)
  | .cvt c t _ => some (c, t)
  | .addiI32 c t _ => some (c, t)
  | .mmaT c t _ => some (c, t)
  | .accLdT c t _ => some (c, t)
  | .accStT c t _ => some (c, t)
  | .cvtMxT c t _ => some (c, t)
  | .tcopyT c t _ => some (c, t)
  | .ld c t _ => some (c, t)
  | .st c t _ => some (c, t)
  | .atom c t _ => some (c, t)
  | .invL1 c t _ => some (c, t)
  | .wbL1 c t _ => some (c, t)
  | .barGb c t _ => some (c, t)
  | .fenceGb c t _ => some (c, t)
  | .fenceDev c t _ => some (c, t)
  | .fenceSys c t _ => some (c, t)
  | .lathWait c t _ => some (c, t)
  | .posGen c t _ => some (c, t)
  | .maskT c t _ => some (c, t)
  | .ropeT c t _ => some (c, t)
  | .smaxRun c t _ => some (c, t)
  | .accScaleT c t _ => some (c, t)
  | .plbIssue c t _ => some (c, t)
  | .plbPoll c t _ => some (c, t)
  | .br c t _ => some (c, t)
  | .brU c t _ => some (c, t)
  | .jmp c t _ => some (c, t)
  | .call c t _ => some (c, t)
  | .ret c t _ => some (c, t)
  | .nop c t _ => some (c, t)
  | .exit c t _ => some (c, t)
  | .brk c t _ => some (c, t)
  | .yield c t _ => some (c, t)
  | .csrR c t _ => some (c, t)
  | .csrW c t _ => some (c, t)
  | _ => none

/-- The law of a command's shape. -/
def Statement (i : Instr) : Prop := ∀ p, placeOf i = some p → (i.wf = true ↔ p.1 < 4608 ∧ p.2 < 16)

/-- A command that names no slot. -/
theorem of_none {i : Instr} (h : placeOf i = none) : Statement i := by
  intro p hp
  rw [h] at hp
  cases hp

/-- A command whose form is that of a core's instruction. -/
theorem of_some {i : Instr} {c t : Nat} (h : placeOf i = some (c, t)) (hw : i.wf = (decide (c < 4608) && decide (t < 16))) :
    Statement i := by
  intro p hp
  rw [h] at hp
  cases hp
  simp [hw]

theorem openSession (ep : Endpoint) (r : Req) : Statement (.openSession ep r) := of_none rfl
theorem close (ep : Endpoint) (r : Req) : Statement (.close ep r) := of_none rfl
theorem read (ep : Endpoint) (r : Req) : Statement (.read ep r) := of_none rfl
theorem write (ep : Endpoint) (r : Req) : Statement (.write ep r) := of_none rfl
theorem readSeg (ep : Endpoint) (r : Req) : Statement (.readSeg ep r) := of_none rfl
theorem writeSeg (ep : Endpoint) (r : Req) : Statement (.writeSeg ep r) := of_none rfl
theorem poll (ep : Endpoint) (r : Req) : Statement (.poll ep r) := of_none rfl
theorem enumerate (ep : Endpoint) (r : Req) : Statement (.enumerate ep r) := of_none rfl
theorem commandFinish (sid : Nat) : Statement (.commandFinish sid) := of_none rfl
theorem sessionIdleTimeout (sid : Nat) : Statement (.sessionIdleTimeout sid) := of_none rfl
theorem segStageExpiry (sid : Nat) : Statement (.segStageExpiry sid) := of_none rfl
theorem nonceExpiry (who : Option Nat) : Statement (.nonceExpiry who) := of_none rfl
theorem authLockoutEnd (ep : Endpoint) : Statement (.authLockoutEnd ep) := of_none rfl
theorem mbxDoorbell (ep : Endpoint) (answered : Bool) : Statement (.mbxDoorbell ep answered) := of_none rfl
theorem ccMailboxDoorbell (bytes : List Byte) : Statement (.ccMailboxDoorbell bytes) := of_none rfl
theorem t1sFrame (f : T1sFrame) : Statement (.t1sFrame f) := of_none rfl
theorem i3cPrivateWrite (bytes : List Byte) : Statement (.i3cPrivateWrite bytes) := of_none rfl
theorem i3cPrivateRead : Statement .i3cPrivateRead := of_none rfl
theorem dict (outgoing : Bool) (device : Nat) (bytes : List Byte) : Statement (.dict outgoing device bytes) := of_none rfl
theorem expertNonce (sid : Nat) : Statement (.expertNonce sid) := of_none rfl
theorem expertAuth (sid : Nat) (sig : List Byte) : Statement (.expertAuth sid sig) := of_none rfl
theorem expertLock (sid : Nat) (value : Nat) : Statement (.expertLock sid value) := of_none rfl
theorem freqFineStep (value : Nat) : Statement (.freqFineStep value) := of_none rfl
theorem addS (core : Nat) (slot : Nat) (w : W64) : Statement (.addS core slot w) := of_some rfl rfl
theorem subS (core : Nat) (slot : Nat) (w : W64) : Statement (.subS core slot w) := of_some rfl rfl
theorem andS (core : Nat) (slot : Nat) (w : W64) : Statement (.andS core slot w) := of_some rfl rfl
theorem orS (core : Nat) (slot : Nat) (w : W64) : Statement (.orS core slot w) := of_some rfl rfl
theorem xorS (core : Nat) (slot : Nat) (w : W64) : Statement (.xorS core slot w) := of_some rfl rfl
theorem shlS (core : Nat) (slot : Nat) (w : W64) : Statement (.shlS core slot w) := of_some rfl rfl
theorem shrS (core : Nat) (slot : Nat) (w : W64) : Statement (.shrS core slot w) := of_some rfl rfl
theorem sraS (core : Nat) (slot : Nat) (w : W64) : Statement (.sraS core slot w) := of_some rfl rfl
theorem mulS (core : Nat) (slot : Nat) (w : W64) : Statement (.mulS core slot w) := of_some rfl rfl
theorem cmpS (core : Nat) (slot : Nat) (w : W64) : Statement (.cmpS core slot w) := of_some rfl rfl
theorem addiS (core : Nat) (slot : Nat) (w : W64) : Statement (.addiS core slot w) := of_some rfl rfl
theorem liS (core : Nat) (slot : Nat) (w : W64) : Statement (.liS core slot w) := of_some rfl rfl
theorem fmaF32 (core : Nat) (slot : Nat) (w : W64) : Statement (.fmaF32 core slot w) := of_some rfl rfl
theorem addF32 (core : Nat) (slot : Nat) (w : W64) : Statement (.addF32 core slot w) := of_some rfl rfl
theorem subF32 (core : Nat) (slot : Nat) (w : W64) : Statement (.subF32 core slot w) := of_some rfl rfl
theorem mulF32 (core : Nat) (slot : Nat) (w : W64) : Statement (.mulF32 core slot w) := of_some rfl rfl
theorem minF32 (core : Nat) (slot : Nat) (w : W64) : Statement (.minF32 core slot w) := of_some rfl rfl
theorem maxF32 (core : Nat) (slot : Nat) (w : W64) : Statement (.maxF32 core slot w) := of_some rfl rfl
theorem exp2F32 (core : Nat) (slot : Nat) (w : W64) : Statement (.exp2F32 core slot w) := of_some rfl rfl
theorem log2F32 (core : Nat) (slot : Nat) (w : W64) : Statement (.log2F32 core slot w) := of_some rfl rfl
theorem rcpF32 (core : Nat) (slot : Nat) (w : W64) : Statement (.rcpF32 core slot w) := of_some rfl rfl
theorem rsqF32 (core : Nat) (slot : Nat) (w : W64) : Statement (.rsqF32 core slot w) := of_some rfl rfl
theorem cmpF32 (core : Nat) (slot : Nat) (w : W64) : Statement (.cmpF32 core slot w) := of_some rfl rfl
theorem cmpI32 (core : Nat) (slot : Nat) (w : W64) : Statement (.cmpI32 core slot w) := of_some rfl rfl
theorem addI32 (core : Nat) (slot : Nat) (w : W64) : Statement (.addI32 core slot w) := of_some rfl rfl
theorem subI32 (core : Nat) (slot : Nat) (w : W64) : Statement (.subI32 core slot w) := of_some rfl rfl
theorem mulI32 (core : Nat) (slot : Nat) (w : W64) : Statement (.mulI32 core slot w) := of_some rfl rfl
theorem logicI32 (core : Nat) (slot : Nat) (w : W64) : Statement (.logicI32 core slot w) := of_some rfl rfl
theorem selV (core : Nat) (slot : Nat) (w : W64) : Statement (.selV core slot w) := of_some rfl rfl
theorem shflV (core : Nat) (slot : Nat) (w : W64) : Statement (.shflV core slot w) := of_some rfl rfl
theorem cvt (core : Nat) (slot : Nat) (w : W64) : Statement (.cvt core slot w) := of_some rfl rfl
theorem addiI32 (core : Nat) (slot : Nat) (w : W64) : Statement (.addiI32 core slot w) := of_some rfl rfl
theorem mmaT (core : Nat) (slot : Nat) (w : W64) : Statement (.mmaT core slot w) := of_some rfl rfl
theorem accLdT (core : Nat) (slot : Nat) (w : W64) : Statement (.accLdT core slot w) := of_some rfl rfl
theorem accStT (core : Nat) (slot : Nat) (w : W64) : Statement (.accStT core slot w) := of_some rfl rfl
theorem cvtMxT (core : Nat) (slot : Nat) (w : W64) : Statement (.cvtMxT core slot w) := of_some rfl rfl
theorem tcopyT (core : Nat) (slot : Nat) (w : W64) : Statement (.tcopyT core slot w) := of_some rfl rfl
theorem ld (core : Nat) (slot : Nat) (w : W64) : Statement (.ld core slot w) := of_some rfl rfl
theorem st (core : Nat) (slot : Nat) (w : W64) : Statement (.st core slot w) := of_some rfl rfl
theorem atom (core : Nat) (slot : Nat) (w : W64) : Statement (.atom core slot w) := of_some rfl rfl
theorem loadComplete (core : Nat) (id : Nat) (status : Nat) (poison : Bool) (data : List Byte) : Statement (.loadComplete core id status poison data) := of_none rfl
theorem xlatWalk (who : Agent) (slot : Nat) (ctx : Nat) (va : Nat) (kind : Access) : Statement (.xlatWalk who slot ctx va kind) := of_none rfl
theorem invL1 (core : Nat) (slot : Nat) (w : W64) : Statement (.invL1 core slot w) := of_some rfl rfl
theorem wbL1 (core : Nat) (slot : Nat) (w : W64) : Statement (.wbL1 core slot w) := of_some rfl rfl
theorem barGb (core : Nat) (slot : Nat) (w : W64) : Statement (.barGb core slot w) := of_some rfl rfl
theorem fenceGb (core : Nat) (slot : Nat) (w : W64) : Statement (.fenceGb core slot w) := of_some rfl rfl
theorem fenceDev (core : Nat) (slot : Nat) (w : W64) : Statement (.fenceDev core slot w) := of_some rfl rfl
theorem fenceSys (core : Nat) (slot : Nat) (w : W64) : Statement (.fenceSys core slot w) := of_some rfl rfl
theorem lathWait (core : Nat) (slot : Nat) (w : W64) : Statement (.lathWait core slot w) := of_some rfl rfl
theorem posGen (core : Nat) (slot : Nat) (w : W64) : Statement (.posGen core slot w) := of_some rfl rfl
theorem maskT (core : Nat) (slot : Nat) (w : W64) : Statement (.maskT core slot w) := of_some rfl rfl
theorem ropeT (core : Nat) (slot : Nat) (w : W64) : Statement (.ropeT core slot w) := of_some rfl rfl
theorem smaxRun (core : Nat) (slot : Nat) (w : W64) : Statement (.smaxRun core slot w) := of_some rfl rfl
theorem accScaleT (core : Nat) (slot : Nat) (w : W64) : Statement (.accScaleT core slot w) := of_some rfl rfl
theorem plbIssue (core : Nat) (slot : Nat) (w : W64) : Statement (.plbIssue core slot w) := of_some rfl rfl
theorem plbPoll (core : Nat) (slot : Nat) (w : W64) : Statement (.plbPoll core slot w) := of_some rfl rfl
theorem br (core : Nat) (slot : Nat) (w : W64) : Statement (.br core slot w) := of_some rfl rfl
theorem brU (core : Nat) (slot : Nat) (w : W64) : Statement (.brU core slot w) := of_some rfl rfl
theorem jmp (core : Nat) (slot : Nat) (w : W64) : Statement (.jmp core slot w) := of_some rfl rfl
theorem call (core : Nat) (slot : Nat) (w : W64) : Statement (.call core slot w) := of_some rfl rfl
theorem ret (core : Nat) (slot : Nat) (w : W64) : Statement (.ret core slot w) := of_some rfl rfl
theorem nop (core : Nat) (slot : Nat) (w : W64) : Statement (.nop core slot w) := of_some rfl rfl
theorem exit (core : Nat) (slot : Nat) (w : W64) : Statement (.exit core slot w) := of_some rfl rfl
theorem brk (core : Nat) (slot : Nat) (w : W64) : Statement (.brk core slot w) := of_some rfl rfl
theorem yield (core : Nat) (slot : Nat) (w : W64) : Statement (.yield core slot w) := of_some rfl rfl
theorem csrR (core : Nat) (slot : Nat) (w : W64) : Statement (.csrR core slot w) := of_some rfl rfl
theorem csrW (core : Nat) (slot : Nat) (w : W64) : Statement (.csrW core slot w) := of_some rfl rfl
theorem yieldExpire (core : Nat) (slot : Nat) : Statement (.yieldExpire core slot) := of_none rfl
theorem memEntryFree (core : Nat) (id : Nat) : Statement (.memEntryFree core id) := of_none rfl
theorem slotFree (core : Nat) (slot : Nat) : Statement (.slotFree core slot) := of_none rfl
theorem longStep (core : Nat) (slot : Nat) : Statement (.longStep core slot) := of_none rfl
theorem tileWindowAccess (addr : Nat) (data : Option (List (Bool × Byte))) : Statement (.tileWindowAccess addr data) := of_none rfl
theorem starveEvent (core : Nat) (bank : Nat) (m : Master) : Statement (.starveEvent core bank m) := of_none rfl
theorem lathWordLand (core : Nat) (k : Nat) (ecc : Ecc) : Statement (.lathWordLand core k ecc) := of_none rfl
theorem drain (core : Nat) : Statement (.drain core) := of_none rfl
theorem eccWriteback (core : Nat) (sector : Nat) : Statement (.eccWriteback core sector) := of_none rfl
theorem retWake (sec : Nat) : Statement (.retWake sec) := of_none rfl
theorem retRetain (sec : Nat) : Statement (.retRetain sec) := of_none rfl
theorem retainDone (sec : Nat) : Statement (.retainDone sec) := of_none rfl
theorem wakeDone (sec : Nat) : Statement (.wakeDone sec) := of_none rfl
theorem winUpdate (ctx : Nat) (idx : Nat) (entry : List Byte) : Statement (.winUpdate ctx idx entry) := of_none rfl
theorem xlatInval (ctx : Nat) (va : Nat) (len : Nat) : Statement (.xlatInval ctx va len) := of_none rfl
theorem lathScheduleStart (ctx : Nat) : Statement (.lathScheduleStart ctx) := of_none rfl
theorem lathWord (core : Nat) (port : LathPort) (k : Nat) (parityOk : Bool) : Statement (.lathWord core port k parityOk) := of_none rfl
theorem injRefill (core : Nat) : Statement (.injRefill core) := of_none rfl
theorem lathStop (ctx : Nat) (k : Nat) : Statement (.lathStop ctx k) := of_none rfl
theorem scrimPacket (node : Nat) (pkt : ScrimPkt) (dmg : Damage) : Statement (.scrimPacket node pkt dmg) := of_none rfl
theorem agePromotion (i : Nat) : Statement (.agePromotion i) := of_none rfl
theorem clsLoad (table : List Byte) : Statement (.clsLoad table) := of_none rfl
theorem clsEntry (idx : Nat) (entry : List Byte) : Statement (.clsEntry idx entry) := of_none rfl
theorem ucRead (k : Nat) (r : UcReq) (ecc : Ecc) : Statement (.ucRead k r ecc) := of_none rfl
theorem ucWrite (k : Nat) (r : UcReq) (ecc : Ecc) : Statement (.ucWrite k r ecc) := of_none rfl
theorem ucFillComplete (k : Nat) (line : Nat) : Statement (.ucFillComplete k line) := of_none rfl
theorem ucHeldRelease (k : Nat) (i : Nat) : Statement (.ucHeldRelease k i) := of_none rfl
theorem ucFlush (ctx : Nat) (mode : Nat) : Statement (.ucFlush ctx mode) := of_none rfl
theorem ucScrub (k : Nat) (way : Nat) (sec : Nat) (tag : Ecc) (data : Ecc) : Statement (.ucScrub k way sec tag data) := of_none rfl
theorem getS (m : BMsg) : Statement (.getS m) := of_none rfl
theorem getM (m : BMsg) : Statement (.getM m) := of_none rfl
theorem putS (m : BMsg) : Statement (.putS m) := of_none rfl
theorem putE (m : BMsg) : Statement (.putE m) := of_none rfl
theorem bezelAtom (m : BMsg) : Statement (.bezelAtom m) := of_none rfl
theorem readOnce (m : BMsg) : Statement (.readOnce m) := of_none rfl
theorem writeOnce (m : BMsg) : Statement (.writeOnce m) := of_none rfl
theorem fwdGets (m : BMsg) : Statement (.fwdGets m) := of_none rfl
theorem fwdGetm (m : BMsg) : Statement (.fwdGetm m) := of_none rfl
theorem fwdGetmAp (m : BMsg) : Statement (.fwdGetmAp m) := of_none rfl
theorem inv (m : BMsg) : Statement (.inv m) := of_none rfl
theorem recallS (m : BMsg) : Statement (.recallS m) := of_none rfl
theorem recallI (m : BMsg) : Statement (.recallI m) := of_none rfl
theorem gntM (m : BMsg) : Statement (.gntM m) := of_none rfl
theorem gntAcks (m : BMsg) : Statement (.gntAcks m) := of_none rfl
theorem invAck (m : BMsg) : Statement (.invAck m) := of_none rfl
theorem fwdDoneO (m : BMsg) : Statement (.fwdDoneO m) := of_none rfl
theorem fwdDoneS (m : BMsg) : Statement (.fwdDoneS m) := of_none rfl
theorem fwdDoneI (m : BMsg) : Statement (.fwdDoneI m) := of_none rfl
theorem fwdMiss (m : BMsg) : Statement (.fwdMiss m) := of_none rfl
theorem rspWbpend (m : BMsg) : Statement (.rspWbpend m) := of_none rfl
theorem wbAck (m : BMsg) : Statement (.wbAck m) := of_none rfl
theorem comp (m : BMsg) : Statement (.comp m) := of_none rfl
theorem homeLost (m : BMsg) : Statement (.homeLost m) := of_none rfl
theorem remoteLost (m : BMsg) : Statement (.remoteLost m) := of_none rfl
theorem compAck (m : BMsg) : Statement (.compAck m) := of_none rfl
theorem dataS (m : BMsg) : Statement (.dataS m) := of_none rfl
theorem dataE (m : BMsg) : Statement (.dataE m) := of_none rfl
theorem dataM (m : BMsg) : Statement (.dataM m) := of_none rfl
theorem dataMAp (m : BMsg) : Statement (.dataMAp m) := of_none rfl
theorem rspData (m : BMsg) : Statement (.rspData m) := of_none rfl
theorem putM (m : BMsg) : Statement (.putM m) := of_none rfl
theorem putO (m : BMsg) : Statement (.putO m) := of_none rfl
theorem dataOnce (m : BMsg) : Statement (.dataOnce m) := of_none rfl
theorem atomData (m : BMsg) : Statement (.atomData m) := of_none rfl
theorem holdEnd (a : Agent) (line : Nat) : Statement (.holdEnd a line) := of_none rfl
theorem homeQuiesce (b : Nat) : Statement (.homeQuiesce b) := of_none rfl
theorem homeReturn (b : Nat) : Statement (.homeReturn b) := of_none rfl
theorem bDieLoss (b : Nat) : Statement (.bDieLoss b) := of_none rfl
theorem stackTempRead (stack : Nat) (temp : Option Int) : Statement (.stackTempRead stack temp) := of_none rfl
theorem hbmRead (stack : Nat) (ch : Nat) (ecc : Ecc) : Statement (.hbmRead stack ch ecc) := of_none rfl
theorem hbmWrite (stack : Nat) (ch : Nat) : Statement (.hbmWrite stack ch) := of_none rfl
theorem hbmRefresh (stack : Nat) (ch : Nat) (bank : Option Nat) : Statement (.hbmRefresh stack ch bank) := of_none rfl
theorem hbmScrub (stack : Nat) (ch : Nat) (row : Nat) (sec : Nat) (ecc : Ecc) : Statement (.hbmScrub stack ch row sec ecc) := of_none rfl
theorem redirectAdd (stack : Nat) (ch : Nat) (pc : Nat) (span : Nat) (bank : Nat) (row : Nat) (prio : Nat) : Statement (.redirectAdd stack ch pc span bank row prio) := of_none rfl
theorem reserve (part : Nat) (rates : List Nat) : Statement (.reserve part rates) := of_none rfl
theorem heldaAdapterUp (e : Nat) (modules : Nat) : Statement (.heldaAdapterUp e modules) := of_none rfl
theorem heldaFlit (e : Nat) (f : HeldaFlitData) : Statement (.heldaFlit e f) := of_none rfl
theorem cap (e : Nat) (c : Cap) : Statement (.cap e c) := of_none rfl
theorem capCommit (e : Nat) (c : CapCommit) : Statement (.capCommit e c) := of_none rfl
theorem capAccept (e : Nat) : Statement (.capAccept e) := of_none rfl
theorem capReject (e : Nat) (reason : Nat) : Statement (.capReject e reason) := of_none rfl
theorem negotiationTimeout (e : Nat) : Statement (.negotiationTimeout e) := of_none rfl
theorem heldaTrainFail (e : Nat) : Statement (.heldaTrainFail e) := of_none rfl
theorem heldaRetrain (e : Nat) : Statement (.heldaRetrain e) := of_none rfl
theorem heldaRetrainLimit (e : Nat) : Statement (.heldaRetrainLimit e) := of_none rfl
theorem heldaAdapterFail (e : Nat) : Statement (.heldaAdapterFail e) := of_none rfl
theorem heldaDownRetry (e : Nat) : Statement (.heldaDownRetry e) := of_none rfl
theorem heldaLinkRecover (e : Nat) (received : Nat) : Statement (.heldaLinkRecover e received) := of_none rfl
theorem demand (agent : Nat) (d : DemandBody) : Statement (.demand agent d) := of_none rfl
theorem grant (agent : Nat) (seq : Nat) (mw : Nat) (flags : Nat) : Statement (.grant agent seq mw flags) := of_none rfl
theorem demandPeriod (agent : Nat) (demandMw : Nat) (avgMw : Nat) : Statement (.demandPeriod agent demandMw avgMw) := of_none rfl
theorem grantMiss (agent : Nat) : Statement (.grantMiss agent) := of_none rfl
theorem heldaLinkEnable (link : Nat) : Statement (.heldaLinkEnable link) := of_none rfl
theorem heldaLinkDisable (link : Nat) : Statement (.heldaLinkDisable link) := of_none rfl
theorem heldaLinkRetrain (link : Nat) : Statement (.heldaLinkRetrain link) := of_none rfl
theorem sitepEnable (value : Nat) : Statement (.sitepEnable value) := of_none rfl
theorem carrakFlit (port : Nat) (f : LinkFlit) : Statement (.carrakFlit port f) := of_none rfl
theorem nak (port : Nat) (seq : Nat) : Statement (.nak port seq) := of_none rfl
theorem nakRepeat (port : Nat) : Statement (.nakRepeat port) := of_none rfl
theorem hello (port : Nat) (f : HelloFlit) : Statement (.hello port f) := of_none rfl
theorem helloSend (port : Nat) : Statement (.helloSend port) := of_none rfl
theorem helloTimeout (port : Nat) : Statement (.helloTimeout port) := of_none rfl
theorem portTrained (port : Nat) (lanes : Nat) : Statement (.portTrained port lanes) := of_none rfl
theorem portTrainFail (port : Nat) : Statement (.portTrainFail port) := of_none rfl
theorem portDownRetry (port : Nat) : Statement (.portDownRetry port) := of_none rfl
theorem fecLockLoss (port : Nat) : Statement (.fecLockLoss port) := of_none rfl
theorem portRetrainLimit (port : Nat) : Statement (.portRetrainLimit port) := of_none rfl
theorem lsa (port : Nat) (b : LsaBody) : Statement (.lsa port b) := of_none rfl
theorem lsaPeriodic : Statement .lsaPeriodic := of_none rfl
theorem lsaAgeOut (serial : Nat) : Statement (.lsaAgeOut serial) := of_none rfl
theorem routeRecompute : Statement .routeRecompute := of_none rfl
theorem lossNotice (port : Nat) (serial : Nat) (b : Nat) (home : Nat) : Statement (.lossNotice port serial b home) := of_none rfl
theorem unreach (device : Nat) (txn : Nat) : Statement (.unreach device txn) := of_none rfl
theorem carrakLinkRecover (port : Nat) (received : Nat) : Statement (.carrakLinkRecover port received) := of_none rfl
theorem stewardReq (port : Nat) (give : Bool) (nonce : Nat) : Statement (.stewardReq port give nonce) := of_none rfl
theorem stewardRsp (port : Nat) (accepted : Bool) (nonce : Nat) : Statement (.stewardRsp port accepted nonce) := of_none rfl
theorem stewardTimeout (port : Nat) : Statement (.stewardTimeout port) := of_none rfl
theorem stewardBackoffEnd (port : Nat) : Statement (.stewardBackoffEnd port) := of_none rfl
theorem stewardTake (port : Nat) : Statement (.stewardTake port) := of_none rfl
theorem stewardGive (port : Nat) : Statement (.stewardGive port) := of_none rfl
theorem idClaim (mode : Nat) (id : Nat) : Statement (.idClaim mode id) := of_none rfl
theorem idRelease : Statement .idRelease := of_none rfl
theorem claimTimer : Statement .claimTimer := of_none rfl
theorem autoReclaim : Statement .autoReclaim := of_none rfl
theorem portIdleHalf (port : Nat) : Statement (.portIdleHalf port) := of_none rfl
theorem portWiden (port : Nat) : Statement (.portWiden port) := of_none rfl
theorem fecErrorRetrain (port : Nat) : Statement (.fecErrorRetrain port) := of_none rfl
theorem portEnable (port : Nat) : Statement (.portEnable port) := of_none rfl
theorem portDisable (port : Nat) : Statement (.portDisable port) := of_none rfl
theorem portRetrain (port : Nat) : Statement (.portRetrain port) := of_none rfl
theorem portCounterClear (port : Nat) : Statement (.portCounterClear port) := of_none rfl
theorem crazeStart (run : CrazeArgs) : Statement (.crazeStart run) := of_none rfl
theorem crazeStop : Statement .crazeStop := of_none rfl
theorem crazeDurationEnd : Statement .crazeDurationEnd := of_none rfl
theorem crazeUnlock (record : List Byte) : Statement (.crazeUnlock record) := of_none rfl
theorem crazeGrantExpiry : Statement .crazeGrantExpiry := of_none rfl
theorem configRequest (fn : Fn) (write : Bool) (reg : Nat) (value : Nat) : Statement (.configRequest fn write reg value) := of_none rfl
theorem bar2Read (fn : Fn) (off : Nat) (len : Nat) (tag : Nat) : Statement (.bar2Read fn off len tag) := of_none rfl
theorem bar2Write (fn : Fn) (off : Nat) (data : List Byte) (poison : Bool) : Statement (.bar2Write fn off data poison) := of_none rfl
theorem bar2Atomic (fn : Fn) (off : Nat) (op : Nat) (size : Nat) (operand : Nat) (compare : Nat) (tag : Nat) : Statement (.bar2Atomic fn off op size operand compare tag) := of_none rfl
theorem cmdTail (fn : Fn) (ctx : Nat) (value : Nat) : Statement (.cmdTail fn ctx value) := of_none rfl
theorem cplHead (fn : Fn) (ctx : Nat) (value : Nat) : Statement (.cplHead fn ctx value) := of_none rfl
theorem cmdFetch (ctx : Nat) : Statement (.cmdFetch ctx) := of_none rfl
theorem completionWrite (ctx : Nat) : Statement (.completionWrite ctx) := of_none rfl
theorem coalesceTimer (ctx : Nat) : Statement (.coalesceTimer ctx) := of_none rfl
theorem flrVf (n : Nat) : Statement (.flrVf n) := of_none rfl
theorem flrPf : Statement .flrPf := of_none rfl
theorem powerStateChange (fn : Fn) (d3 : Bool) : Statement (.powerStateChange fn d3) := of_none rfl
theorem vfMap (n : Nat) (part : Nat) (apBase : Nat) (apBytes : Nat) : Statement (.vfMap n part apBase apBytes) := of_none rfl
theorem ringEnable (args : RingArgs) : Statement (.ringEnable args) := of_none rfl
theorem ringDisable (ctx : Nat) : Statement (.ringDisable ctx) := of_none rfl
theorem ringNop (ctx : Nat) : Statement (.ringNop ctx) := of_none rfl
theorem launch (ctx : Nat) : Statement (.launch ctx) := of_none rfl
theorem dmaCopy (ctx : Nat) (i : Nat) (n : Nat) (ext : Nat) : Statement (.dmaCopy ctx i n ext) := of_none rfl
theorem signal (ctx : Nat) (ext : Nat) : Statement (.signal ctx ext) := of_none rfl
theorem wait (ctx : Nat) (ext : Nat) : Statement (.wait ctx ext) := of_none rfl
theorem waitPoll (ctx : Nat) (ext : Nat) : Statement (.waitPoll ctx ext) := of_none rfl
theorem ringWinUpdate (ctx : Nat) : Statement (.ringWinUpdate ctx) := of_none rfl
theorem ringXlatInval (ctx : Nat) : Statement (.ringXlatInval ctx) := of_none rfl
theorem flushUc (ctx : Nat) : Statement (.flushUc ctx) := of_none rfl
theorem hostCompletion (tag : Nat) (status : Nat) (data : List Byte) (poison : Bool) : Statement (.hostCompletion tag status data poison) := of_none rfl
theorem hostCplTimeout (tag : Nat) : Statement (.hostCplTimeout tag) := of_none rfl
theorem hostLinkDown : Statement .hostLinkDown := of_none rfl
theorem hostLinkUp (gen : Nat) (width : Nat) (flit : Bool) (cxl : Bool) : Statement (.hostLinkUp gen width flit cxl) := of_none rfl
theorem snpInv (addr : Nat) : Statement (.snpInv addr) := of_none rfl
theorem snpData (addr : Nat) : Statement (.snpData addr) := of_none rfl
theorem snpCur (addr : Nat) : Statement (.snpCur addr) := of_none rfl
theorem memRd (addr : Nat) (metaValue : Nat) (tag : Nat) : Statement (.memRd addr metaValue tag) := of_none rfl
theorem memWr (addr : Nat) (data : List Byte) (enables : List Bool) (poison : Bool) (tag : Nat) : Statement (.memWr addr data enables poison tag) := of_none rfl
theorem biRsp (addr : Nat) (data : Option (List Byte)) : Statement (.biRsp addr data) := of_none rfl
theorem planLoad (ctx : Nat) (slot : Nat) (addr : Nat) (origin : Nat) : Statement (.planLoad ctx slot addr origin) := of_none rfl
theorem planUnload (ctx : Nat) (slot : Nat) : Statement (.planUnload ctx slot) := of_none rfl
theorem kernelStart (ctx : Nat) : Statement (.kernelStart ctx) := of_none rfl
theorem dmaTransferStart (ctx : Nat) (i : Nat) : Statement (.dmaTransferStart ctx i) := of_none rfl
theorem dmaTransferDone (ctx : Nat) (i : Nat) (ext : Nat) : Statement (.dmaTransferDone ctx i ext) := of_none rfl
theorem tileOverrun (ctx : Nat) (core : Nat) : Statement (.tileOverrun ctx core) := of_none rfl
theorem plbShare (part : Nat) (lanes : List Nat) : Statement (.plbShare part lanes) := of_none rfl
theorem plbDescStart (array : Nat) (i : Nat) (ext : Nat) : Statement (.plbDescStart array i ext) := of_none rfl
theorem plbStep (array : Nat) (lane : Nat) (ext : Nat) : Statement (.plbStep array lane ext) := of_none rfl
theorem partCreate (p : Nat) (mask : List Nat) : Statement (.partCreate p mask) := of_none rfl
theorem partResize (p : Nat) (mask : List Nat) : Statement (.partResize p mask) := of_none rfl
theorem partDestroy (p : Nat) : Statement (.partDestroy p) := of_none rfl
theorem ctxCreate (ctx : Nat) (desc : List Byte) : Statement (.ctxCreate ctx desc) := of_none rfl
theorem ctxDestroy (ctx : Nat) : Statement (.ctxDestroy ctx) := of_none rfl
theorem urgentStop (ctx : Nat) : Statement (.urgentStop ctx) := of_none rfl
theorem ctxPreempt (ctx : Nat) : Statement (.ctxPreempt ctx) := of_none rfl
theorem setPriority (ctx : Nat) (prio : Nat) : Statement (.setPriority ctx prio) := of_none rfl
theorem partitionPolicy (p : Nat) (policy : Nat) (sliceUs : Nat) (preempt : Nat) (graceUs : Nat) (retainUs : Nat) : Statement (.partitionPolicy p policy sliceUs preempt graceUs retainUs) := of_none rfl
theorem sliceExpiry (p : Nat) : Statement (.sliceExpiry p) := of_none rfl
theorem tbGraceExpiry (ctx : Nat) : Statement (.tbGraceExpiry ctx) := of_none rfl
theorem saveComplete (ctx : Nat) : Statement (.saveComplete ctx) := of_none rfl
theorem restoreComplete (ctx : Nat) : Statement (.restoreComplete ctx) := of_none rfl
theorem contextFault (ctx : Nat) (cause : Nat) (code : Nat) (core : Nat) (slot : Nat) (source : Nat) (address : Nat) (pc : Nat) : Statement (.contextFault ctx cause code core slot source address pc) := of_none rfl
theorem urgentStopComplete (ctx : Nat) : Statement (.urgentStopComplete ctx) := of_none rfl
theorem retainIdleExpiry (p : Nat) : Statement (.retainIdleExpiry p) := of_none rfl
theorem sensorSample (kind : SensorKind) (first : Nat) (values : List (Option Int)) : Statement (.sensorSample kind first values) := of_none rfl
theorem powerSample (entities : List Nat) (rails : List Nat) (sections : List Nat) : Statement (.powerSample entities rails sections) := of_none rfl
theorem logPersist : Statement .logPersist := of_none rfl
theorem logRecords (sid : Nat) : Statement (.logRecords sid) := of_none rfl
theorem wmNotice (id : Nat) : Statement (.wmNotice id) := of_none rfl
theorem fanUpdate : Statement .fanUpdate := of_none rfl
theorem fwImage (off : Nat) (data : List Byte) (last : Bool) : Statement (.fwImage off data last) := of_none rfl
theorem fwVerify : Statement .fwVerify := of_none rfl
theorem fwActivate : Statement .fwActivate := of_none rfl
theorem fwCommit : Statement .fwCommit := of_none rfl
theorem fwAbort : Statement .fwAbort := of_none rfl
theorem fwTrialTimeout : Statement .fwTrialTimeout := of_none rfl
theorem watchdog : Statement .watchdog := of_none rfl
theorem askarRestart : Statement .askarRestart := of_none rfl
theorem askarServing : Statement .askarServing := of_none rfl
theorem provNonce : Statement .provNonce := of_none rfl
theorem lcRequest (record : List Byte) : Statement (.lcRequest record) := of_none rfl
theorem keyUpdate (record : List Byte) : Statement (.keyUpdate record) := of_none rfl
theorem sealWrite (slot : Nat) (record : List Byte) : Statement (.sealWrite slot record) := of_none rfl
theorem tamperEvent (sources : Nat) : Statement (.tamperEvent sources) := of_none rfl
theorem tamperLoopOpen : Statement .tamperLoopOpen := of_none rfl
theorem attestNonce (challenge : List Byte) : Statement (.attestNonce challenge) := of_none rfl
theorem attestReport : Statement .attestReport := of_none rfl
theorem railOutOfRange (r : Nat) : Statement (.railOutOfRange r) := of_none rfl
theorem railInRange (r : Nat) : Statement (.railInRange r) := of_none rfl
theorem rampStart (r : Nat) : Statement (.rampStart r) := of_none rfl
theorem rampDone (d : Nat) : Statement (.rampDone d) := of_none rfl
theorem latchedSlow (d : Nat) : Statement (.latchedSlow d) := of_none rfl
theorem shortDetect (d : Nat) : Statement (.shortDetect d) := of_none rfl
theorem shortConfirm (d : Nat) : Statement (.shortConfirm d) := of_none rfl
theorem shortClear (d : Nat) : Statement (.shortClear d) := of_none rfl
theorem domainClear (d : Nat) : Statement (.domainClear d) := of_none rfl
theorem arbiterPeriod (avgMw : Nat) : Statement (.arbiterPeriod avgMw) := of_none rfl
theorem clockCeilingStep (n : Nat) (up : Bool) : Statement (.clockCeilingStep n up) := of_none rfl
theorem clampSet (which : Nat) : Statement (.clampSet which) := of_none rfl
theorem clampRelease (which : Nat) : Statement (.clampRelease which) := of_none rfl
theorem vtLevelChange (n : Nat) : Statement (.vtLevelChange n) := of_none rfl
theorem thermalTrip (sensor : Nat) : Statement (.thermalTrip sensor) := of_none rfl
theorem pllUnlock (island : Island) : Statement (.pllUnlock island) := of_none rfl
theorem pllRelock (core : Nat) : Statement (.pllRelock core) := of_none rfl
theorem refclkLoss : Statement .refclkLoss := of_none rfl
theorem refclkLost : Statement .refclkLost := of_none rfl
theorem powerOn (node : Nat) (pid : Nat) (testEn : Bool) : Statement (.powerOn node pid testEn) := of_none rfl
theorem packageReset (node : Nat) (pid : Nat) (testEn : Bool) : Statement (.packageReset node pid testEn) := of_none rfl
theorem perstNDeassert : Statement .perstNDeassert := of_none rfl
theorem askarOnlyReset : Statement .askarOnlyReset := of_none rfl
theorem dieReset (target : Nat) (recovered : Bool) : Statement (.dieReset target recovered) := of_none rfl
theorem askarBoot : Statement .askarBoot := of_none rfl
theorem powerUp : Statement .powerUp := of_none rfl
theorem railWaitExpiry : Statement .railWaitExpiry := of_none rfl
theorem hotAtStart : Statement .hotAtStart := of_none rfl
theorem hbmTrain (badStacks : List Nat) : Statement (.hbmTrain badStacks) := of_none rfl
theorem heldaTrain : Statement .heldaTrain := of_none rfl
theorem controlBoot : Statement .controlBoot := of_none rfl
theorem hostUp (badDies : List Nat) : Statement (.hostUp badDies) := of_none rfl
theorem startupEnd : Statement .startupEnd := of_none rfl
theorem stageTimeout : Statement .stageTimeout := of_none rfl
theorem eiRun (unit : Nat) (kind : Nat) (addr : Nat) (count : Nat) : Statement (.eiRun unit kind addr count) := of_none rfl
theorem i3cTargetReset : Statement .i3cTargetReset := of_none rfl
theorem i3cCcc (c : I3cCcc) : Statement (.i3cCcc c) := of_none rfl
theorem t1sLinkDown : Statement .t1sLinkDown := of_none rfl
theorem msixUnmask (fn : Fn) (vector : Nat) : Statement (.msixUnmask fn vector) := of_none rfl
theorem bar0Access (fn : Fn) (off : Nat) (size : Nat) (data : Option Nat) : Statement (.bar0Access fn off size data) := of_none rfl
theorem cxlCacheResponse (addr : Nat) (rsp : CxlRsp) (data : Option (List Byte)) (poison : Bool) : Statement (.cxlCacheResponse addr rsp data poison) := of_none rfl
theorem refclkReturn : Statement .refclkReturn := of_none rfl

end Sys2Proof.Laws.Shape
end

