-- ==== Sys2Proof/Tests/Slice0.lean ====
section
/-! SUPPORT. The model's own tests: ill-formed commands that well-formedness refuses, a witness for the hypotheses of the
statements (a state and operands that meet them, boundary values among them), and small runs whose results come from the spec's
rules. -/
namespace Sys2Proof.Tests
open Sys2Proof.Machine
set_option Elab.async false

/-- The command answers a next state in which `p` holds. -/
def runs (i : Instr) (s : State) (p : State → Bool) : Bool :=
  match exec i s with
  | .next u => p u
  | _ => false

/-- The command changes nothing. -/
def stays (i : Instr) (s : State) : Bool := runs i s (fun u => decide (u = s))

/-- A word from its fields: the lowest bit of each with its value (R114 to R116). -/
def wd (l : List (Nat × Nat)) : W64 := BitVec.ofNat 64 (l.foldl (fun a e => a + e.2 * 2 ^ e.1) 0)

/-- An R3 word: opcode, MOD, D, A, B, C and SSEL. -/
def r3 (op mod d a b c sel : Nat) : W64 := wd [(4, op), (12, mod), (16, d), (22, a), (28, b), (34, c), (40, sel)]
/-- A CTL word: opcode, MOD, D, A, SSEL, CSR and IMM16. -/
def ctl (op mod d a sel csr imm : Nat) : W64 := wd [(0, 5), (4, op), (12, mod), (16, d), (22, a), (28, sel), (32, csr), (44, imm)]
/-- A MEM word: opcode, MOD, D, A, whether A is scalar, SPACE and OFFSET. -/
def mem (op mod d a sc space off : Nat) : W64 := wd [(0, 2), (4, op), (12, mod), (16, d), (22, a), (28, sc), (32, space), (40, off)]

/-- A ready slot of context 1 with all lanes active, at PC 256. -/
def slot : Slot :=
  { st := .ready, ctx := 1, mask := 0xFFFFFFFF, pc := 256
    s := [(1, 5), (2, 3), (3, 0x8000000000000000)]
    v := [(32, 7), (33, 9)] }
/-- Core 0 holds `x` in slot 0. -/
def oneSlot (x : Slot) : State := { cores := [(0, { slots := [(0, x)] })] }
def s0 : State := oneSlot slot

/-! ### Cores: scalar, vector, control -/

theorem wit_scalar : ∀ op ∈ [0, 1, 2, 3, 4, 5, 6, 7, 8],
    canIssue s0 0 0 (r3 op 0 31 1 2 0 0) 0 true ∧ isOp (r3 op 0 31 1 2 0 0) 0 op none = true ∧
    okScalar3 1 (r3 op 0 31 1 2 0 0) = true ∧ (sRead (slotAt s0 0 0) 2).toNat < 64 := by delta canIssue; decide +kernel
theorem wit_scalar_zero : canIssue s0 0 0 (r3 0 0 0 1 2 0 0) 0 true ∧ okScalar3 1 (r3 0 0 0 1 2 0 0) = true := by delta canIssue; decide +kernel
theorem wit_scalar_cmp : ∀ m ∈ [0, 1, 2, 3, 4, 5],
    canIssue s0 0 0 (r3 9 m 4 1 3 0 0) 0 true ∧ isOp (r3 9 m 4 1 3 0 0) 0 9 none = true ∧ okScalar3 6 (r3 9 m 4 1 3 0 0) = true ∧
    iMod (r3 9 m 4 1 3 0 0) = m := by delta canIssue; decide +kernel
theorem wit_scalar_imm : ∀ m ∈ [0, 1], let w := wd [(0, 1), (4, 1), (12, m), (16, 1), (32, 0xFFFFFFFF)]
    canIssue s0 0 0 w 0 true ∧ isOp w 1 1 none = true ∧ okScalarI 2 w = true ∧ iMod w = m := by delta canIssue; decide +kernel
theorem wit_scalar_addi : let w := wd [(0, 1), (16, 1), (22, 2), (32, 7)]
    canIssue s0 0 0 w 0 true ∧ isOp w 1 0 none = true ∧ okScalarI 1 w = true := by delta canIssue; decide +kernel
theorem wit_vector_int : ∀ op ∈ [0x30, 0x31, 0x32, 0x36], let w := r3 op 0 63 1 2 0 4
    canIssue s0 0 0 w 1 false ∧ isOp w 0 op none = true ∧ okVector3 1 2 w = true := by delta canIssue; decide +kernel
theorem wit_vector_mods : ∀ op ∈ [0x33, 0x34, 0x2A], ∀ m ∈ [0, 1, 2, 3, 4, 5], let w := r3 op m 3 1 2 0 4
    canIssue s0 0 0 w 1 false ∧ isOp w 0 op none = true ∧ okVector3 6 2 w = true ∧ iMod w = m ∧ (srcB w (slotAt s0 0 0) 31).toNat < 32 := by
  delta canIssue; decide +kernel
theorem wit_vector_sel : ∀ op ∈ [0x35, 0x20], let w := r3 op 0 3 1 2 4 0
    canIssue s0 0 0 w 1 false ∧ isOp w 0 op none = true ∧ okVector3 1 3 w = true := by delta canIssue; decide +kernel
theorem wit_vector_addi : let w := wd [(0, 1), (4, 0x20), (16, 3), (22, 1), (32, 1)]
    canIssue s0 0 0 w 1 false ∧ isOp w 1 0x20 none = true ∧ okVectorI w = true := by delta canIssue; decide +kernel
theorem wit_vector_float : ∀ op ∈ [0x21, 0x22, 0x23, 0x24, 0x25], let w := r3 op 0 3 1 2 0 0
    canIssue s0 0 0 w 1 false ∧ isOp w 0 op none = true ∧ okVector3 1 2 w = true := by delta canIssue; decide +kernel
theorem wit_vector_fixed : ∀ op ∈ [0x26, 0x27, 0x28, 0x29], let w := r3 op 0 3 1 0 0 0
    canIssue s0 0 0 w 1 false ∧ isOp w 0 op none = true ∧ okVector3 1 1 w = true := by delta canIssue; decide +kernel
theorem wit_vector_cvt : let w := r3 0x38 5 3 1 0 8 0
    canIssue s0 0 0 w 1 false ∧ isOp w 0 0x38 none = true ∧ okCvt w = true ∧ (elemOf (iC w % 16)).isSome = true ∧
    (elemOf (iMod w)).isSome = true := by delta canIssue; decide +kernel
/-- Ordered values for MIN and MAX, and a NaN: 1.0, 2.0 and 0x7FC00000. -/
theorem wit_min_max : fLt (decodeFp fFP32 false 0x3F800000) (decodeFp fFP32 false 0x40000000) = true ∧
    decodeFp fFP32 false 0x7FC00000 = .nan := by decide +kernel
theorem wit_rounding : (0 : Int) < 1 ∧ 2 * ((roundAt 0 false 3 0 1).1 * 2) = 2 * 3 + 2 ∧ (roundAt 0 false 3 0 1).2 = true := by decide +kernel
/-- R119: 5 + 3 into S31, 5 − 2^63 compared signed and unsigned, and S0 keeps nothing. -/
theorem test_scalar : runs (.addS 0 0 (r3 0 0 31 1 2 0 0)) s0 (fun u => sRead (slotAt u 0 0) 31 == 8 && (slotAt u 0 0).pc == 264) = true ∧
    runs (.cmpS 0 0 (r3 9 2 4 3 1 0 0)) s0 (fun u => sRead (slotAt u 0 0) 4 == 1) = true ∧
    runs (.cmpS 0 0 (r3 9 4 4 3 1 0 0)) s0 (fun u => sRead (slotAt u 0 0) 4 == 0) = true ∧
    runs (.subS 0 0 (r3 1 0 0 1 2 0 0)) s0 (fun u => sRead (slotAt u 0 0) 0 == 0) = true := by decide +kernel
/-- R119: SRA.S keeps the sign; MUL.S wraps at 64 bits. -/
theorem test_scalar_wraps :
    runs (.sraS 0 0 (r3 7 0 4 3 2 0 0)) s0 (fun u => sRead (slotAt u 0 0) 4 == 0xF000000000000000) = true ∧
    runs (.mulS 0 0 (r3 8 0 4 3 3 0 0)) s0 (fun u => sRead (slotAt u 0 0) 4 == 0) = true := by decide +kernel
/-- R105: 1.0 + 2.0 is 3.0, and 1.5 is nothing but 1.5 after conversion to BF16 and back. -/
theorem test_float : (add32 { round := 0, ftz := false } 0x3F800000 0x40000000).1 = 0x40400000 := by decide +kernel
theorem wit_jump : ∀ op ∈ [(5, 0), (4, 2), (4, 3), (4, 4)], let w := wd [(0, op.1), (4, op.2), (16, if op.1 = 4 then 31 else 0)]
    canIssue s0 0 0 w 4 true ∧ isOp w op.1 op.2 none = true ∧ okCtl 1 (wd [(0, 5)]) = true ∧ (op.1 = 4 → okBr true w = true) := by
  delta canIssue; decide +kernel
/-- A BR on V[1], which is not 0 in lanes 0 and 1 alone. -/
def wBr (reg neg : Nat) : W64 := wd [(0, 4), (16, reg), (23, neg), (24, 10), (44, 20)]
theorem wit_branch : let x := slotAt s0 0 0
    canIssue s0 0 0 (wBr 1 0) 4 false ∧ isOp (wBr 1 0) 4 0 none = true ∧ okBr (iBrScalar (wBr 1 0)) (wBr 1 0) = true ∧
    takenMask (wBr 1 0) x = 3 ∧ takenMask (wBr 2 0) x = 0 ∧ takenMask (wBr 2 1) x = x.mask ∧ x.stack.length < 32 := by
  delta canIssue; decide +kernel
def fullStack : Slot := { slot with stack := List.replicate 32 ⟨1, 8, 16, false⟩ }
theorem wit_branch_full : let s := oneSlot fullStack
    canIssue s 0 0 (wBr 1 0) 4 false ∧ takenMask (wBr 1 0) (slotAt s 0 0) = 3 ∧ 32 ≤ (slotAt s 0 0).stack.length := by
  delta canIssue; decide +kernel
theorem wit_bru : let w := wd [(0, 4), (4, 1), (16, 1), (24, 10)]
    canIssue s0 0 0 w 4 false ∧ isOp w 4 1 none = true ∧ okBr true w = true := by delta canIssue; decide +kernel
/-- R87: the taken lanes go to TARGET (10 words on) and the others are stacked; at 32 entries DIV_OVERFLOW. -/
theorem test_branch :
    runs (.br 0 0 (wBr 1 0)) s0 (fun u => (slotAt u 0 0).pc == 336 && (slotAt u 0 0).mask == 3 &&
      (slotAt u 0 0).stack == [⟨0xFFFFFFFC, 416, 264, false⟩]) = true ∧
    runs (.br 0 0 (wBr 1 0)) (oneSlot fullStack) (fun u => ((slotAt u 0 0).exc.map (·.code)) == some 0xA) = true := by decide +kernel
/-- R87: at the reconvergence address the stacked threads run, then all of them. -/
theorem test_reconvergence :
    let x : Slot := { slot with mask := 3, stack := [⟨0xFFFFFFFC, 416, 264, false⟩] }
    let y := goTo 416 x
    (y.pc, y.mask, y.stack) = (264, 0xFFFFFFFC, [⟨3, 416, 264, true⟩]) ∧ (goTo 416 y).mask = 0xFFFFFFFF ∧ (goTo 416 y).stack = [] := by decide +kernel
theorem wit_slot_states : ∀ op ∈ [1, 0xC, 3],
    canIssue s0 0 0 (ctl op 0 0 0 0 0 0) 4 false ∧ isOp (ctl op 0 0 0 0 0 0) 5 op none = true ∧ okCtl 1 (ctl op 0 0 0 0 0 0) = true ∧
    (slotAt s0 0 0).stack = [] ∧ fenceDone s0 0 0 0 = true := by delta canIssue; decide +kernel
theorem wit_yield : canIssue s0 0 0 (ctl 2 1 0 0 0 0 5) 4 true ∧ okCtl 2 (ctl 2 1 0 0 0 0 5) = true ∧ iMod (ctl 2 1 0 0 0 0 5) = 1 ∧
    (ctxGet s0 1).stop ≠ some .tile ∧ (ctxGet { s0 with work := { ctxs := [(1, { stop := some .tile })] } } 1).stop = some .tile := by
  delta canIssue; decide +kernel
theorem wit_yield_expire : let s := oneSlot { slot with st := .waitYield, aux := 1 }
    (slotAt s 0 0).st = .waitYield ∧ (slotAt s 0 0).stopped = false ∧ coreRuns s 0 = true ∧
    (slotAt (oneSlot { slot with st := .ended }) 0 0).st = .ended := by decide +kernel
theorem wit_fences : ∀ m ∈ [0, 1, 2], canIssue s0 0 0 (ctl 4 m 0 0 0 0 0) 4 true ∧ okCtl 3 (ctl 4 m 0 0 0 0 0) = true ∧
    isOp (ctl 4 m 0 0 0 0 0) 5 4 (some m) = true := by delta canIssue; decide +kernel
/-- Core 0 with an outstanding load of slot 0: its fence has to wait. -/
def sLoad : State :=
  { cores := [(0, { slots := [(0, slot)]
                    loads := [⟨7, 0, 0x10000, 248, false, none, [⟨0, 4, 0, 4, false⟩], ⟨.core 0, 7, 0, false, 0, false, 0, 1, 0, none, false⟩⟩] })] }
theorem wit_fence_waits : canIssue sLoad 0 0 (ctl 3 0 0 0 0 0 0) 4 false ∧ fenceDone sLoad 0 0 0 = false ∧ fenceDone s0 0 0 2 = true := by
  delta canIssue; decide +kernel
theorem wit_lath_wait : let w := ctl 7 0 0 1 0 0 3
    canIssue s0 0 0 w 4 true ∧ isOp w 5 7 none = true ∧ okCtl 1 w = true ∧ iA w < 32 ∧
    slotCounter s0 0 1 < (BitVec.ofNat 64 (iImm16 w) + sRead (slotAt s0 0 0) (iA w)).toNat ∧
    (BitVec.ofNat 64 (iImm16 (ctl 7 0 0 0 0 0 0)) + sRead (slotAt s0 0 0) 0).toNat ≤ slotCounter s0 0 1 := by delta canIssue; decide +kernel
/-- Two expected thread groups: the first arrives and waits, the second releases it. -/
def sBar (n : Nat) : State :=
  { cores := [(0, { slots := [(0, slot), (1, { slot with st := .waitBar })], barriers := [(0, { inUse := true, expected := 2, arrived := n })] })] }
theorem test_barrier :
    runs (.barGb 0 0 (ctl 3 0 0 0 0 0 0)) (sBar 0) (fun u => (slotAt u 0 0).st == .waitBar) = true ∧
    runs (.barGb 0 0 (ctl 3 0 0 0 0 0 0)) (sBar 1) (fun u => (slotAt u 0 1).st == .ready && (slotAt u 0 0).st == .ready) = true := by decide +kernel
theorem wit_csr : (∀ n ∈ [0, 1], canIssue s0 0 0 (ctl 0xB 0 0 1 2 n 0) 4 true ∧ isOp (ctl 0xB 0 0 1 2 n 0) 5 0xB none = true ∧
      okCsrW (ctl 0xB 0 0 1 2 n 0) = true ∧ iSselI (ctl 0xB 0 0 1 2 n 0) 1 = true) ∧
    (∀ n ∈ [0, 1, 3, 4, 5, 6, 8, 0x10], canIssue s0 0 0 (ctl 0xA 0 4 0 1 n 0) 4 true ∧ okCsrR (ctl 0xA 0 4 0 1 n 0) = true ∧
      iSselI (ctl 0xA 0 4 0 1 n 0) 0 = true ∧ iCsr (ctl 0xA 0 4 0 1 n 0) = n) ∧
    canIssue s0 0 0 (ctl 0xA 0 4 0 0 2 0) 4 false ∧ okCsrR (ctl 0xA 0 4 0 0 2 0) = true := by delta canIssue; decide +kernel
/-- R118: CORE_REF of core (3, 2) of C-die 1 is 2^11 + 2 × 2^5 + 3. -/
theorem test_core_ref : coreRef (1152 + 2 * 32 + 3) = 2048 + 64 + 3 ∧ coreRef 4607 = 0x1C7F := by decide +kernel
theorem wit_illegal : opListed (r3 0x7F 0 0 0 0 0 0) = false ∧ slotReady (slotAt s0 0 0) = true ∧ coreRuns s0 0 = true := by decide +kernel
/-- R124: a word that is no instruction raises ILLEGAL_INSTR with PC on it. -/
theorem test_illegal : runs (.addS 0 0 (r3 0x7F 0 0 0 0 0 0)) s0 (fun u =>
    ((slotAt u 0 0).exc.map fun r => (r.code, r.pc)) == some (2, 256) && (slotAt u 0 0).stopped) = true := by decide +kernel

/-! ### Tensor, attention and memory instructions -/

/-- A TILE word: opcode, MOD, SD, SA, SB, SC, TYPE_A, TYPE_B, M, N, K and VBASE. -/
def tile (op mod sd sa sb sc ta tb m n kk vb : Nat) : W64 :=
  wd [(0, 3), (4, op), (12, mod), (16, sd), (21, sa), (26, sb), (31, sc), (36, ta), (40, tb), (44, m), (47, n), (50, kk), (56, vb)]

/-- S4 to S8 hold offsets in the four banks and a length; the accumulator region of group block 0 is 32,768 entries from 0. -/
def tslot : Slot := { slot with s := [(4, 0), (5, 0x20000), (6, 0x10000), (7, 2048), (8, 256)], pc := 512 }
def tcore : Core := { slots := [(0, tslot)], barriers := [(0, { inUse := true, expected := 1, accLen := 32768 })] }
def sT : State := { cores := [(0, tcore)] }

theorem wit_tile_checks :
    tileCheck tcore 0 [⟨0x60000, 64, some 3, true⟩] (some (256, 32512)) false false = none ∧
    tileCheck tcore 0 [⟨32, 64, none, true⟩] none false false = some (4, 32) ∧
    tileCheck tcore 0 [⟨0x1FFC0, 128, none, true⟩] none false false = some (5, 0x1FFC0) ∧
    tileCheck tcore 0 [⟨0, 128, none, false⟩, ⟨64, 128, none, true⟩] none false false = some (6, 64) ∧
    tileCheck tcore 0 [] (some (0, 32769)) false false = some (7, 0) := by decide +kernel

/-- MMA.T of BF16, M = N = 16, K = 64: 1 × 1 × 2 steps. -/
def wMma : W64 := tile 0 1 8 4 5 0 5 5 0 0 1 0
theorem wit_mma : canIssue sT 0 0 wMma 2 true ∧ isOp wMma 3 0 none = true ∧ okMma wMma = true ∧
    tileCheck tcore 0 (mmaOpnds wMma tslot) (some (sNum tslot (iSD wMma), iM wMma * iN wMma)) true false = none ∧
    mmaSteps wMma tslot = 2 := by delta canIssue; decide +kernel
theorem wit_acc : ∀ op ∈ [1, 2], let w := tile op 0 8 4 0 0 8 0 0 0 0 0
    canIssue sT 0 0 w 2 true ∧ isOp w 3 op none = true ∧ okAccLd w = true ∧ okAccSt w = true ∧
    tileCheck tcore 0 (accTile w tslot (op == 2)) (some (sNum tslot (iSD w), iM w * iN w)) true false = none := by delta canIssue; decide +kernel
theorem wit_cvt_mx : let w := tile 4 0 0 4 6 0 8 0 0 0 0 0
    canIssue sT 0 0 w 2 true ∧ isOp w 3 4 none = true ∧ okCvtMx w = true ∧
    tileCheck tcore 0 (cvtOpnds w tslot) none false false = none := by delta canIssue; decide +kernel
theorem wit_mask : ∀ m ∈ [0, 1, 2], let w := tile 0x10 m 0 4 8 8 0 0 0 0 0 0
    canIssue sT 0 0 w 2 true ∧ isOp w 3 0x10 none = true ∧ okTile 3 w = true ∧ maskPosBad w tslot = false ∧
    tileCheck tcore 0 [attnOpnd 8 (sNum tslot (iSA w)) (iK w) none true] none true false = none := by delta canIssue; decide +kernel
theorem wit_rope : let w := tile 0x11 0 0 4 6 0 5 8 0 0 0 0
    canIssue sT 0 0 w 2 true ∧ isOp w 3 0x11 none = true ∧ okRope w = true ∧ (∀ r < 32, (vRead tslot (iVbase w) r).toNat < 2 ^ 24) ∧
    tileCheck tcore 0 [attnOpnd 5 (sNum tslot 4) 32 none false, attnOpnd 8 (sNum tslot 6) 32 none true] none false false = none := by
  delta canIssue; decide +kernel
theorem wit_smax : let w := tile 0x12 0 0 5 4 0 0 5 0 0 0 0
    canIssue sT 0 0 w 2 true ∧ isOp w 3 0x12 none = true ∧ okSmax w = true ∧
    tileCheck tcore 0 [attnOpnd 8 (sNum tslot 5) 32 none false, attnOpnd 5 (sNum tslot 4) 32 (some 0) true] none false false = none := by
  delta canIssue; decide +kernel
def wCopy : W64 := tile 5 0 0 4 6 7 0 0 0 0 0 0
theorem wit_tcopy : canIssue sT 0 0 wCopy 3 true ∧ isOp wCopy 3 5 none = true ∧ okTile 1 wCopy = true ∧ 64 ∣ sNum tslot (iSC wCopy) ∧
    tileCheck tcore 0 (tcopyOpnds wCopy tslot) none false false = none ∧ tcopySteps wCopy tslot = 2 := by delta canIssue; decide +kernel
theorem wit_l1 : (∀ m ∈ [0, 1, 2], canIssue sT 0 0 (ctl 5 m 7 4 0 0 0) 3 true ∧ okL1 3 (ctl 5 m 7 4 0 0 0) = true ∧ isOp (ctl 5 m 7 4 0 0 0) 5 5 none = true) ∧
    canIssue sT 0 0 (ctl 6 1 7 4 0 0 0) 3 true ∧ okL1 2 (ctl 6 1 7 4 0 0 0) = true ∧ l1Steps (ctl 6 1 7 4 0 0 0) tslot = 1 := by
  delta canIssue; decide +kernel

/-- A thread group that resumes MMA.T at step 1, and one whose PROG_STATE is of another instruction. -/
def resumes (p : ProgState) : State := { cores := [(0, { tcore with slots := [(0, { tslot with resuming := true, prog := p })] })] }
theorem wit_resume : let s := resumes { step := 1, op := 0, fmt := 3, valid := true }
    slotReady (slotAt s 0 0) = true ∧ coreRuns s 0 = true ∧ (slotAt s 0 0).resuming = true ∧ 1 < mmaSteps wMma (slotAt s 0 0) ∧
    (∀ r ∈ usedV wMma, (pendingV (coreGet s 0) 0).contains r = false) ∧ pipeBusy (coreGet s 0) 0 2 = false ∧
    (slotAt (resumes { step := 2, op := 0, fmt := 3, valid := true }) 0 0).prog.step = 2 ∧
    (slotAt (resumes {}) 0 0).prog.valid = false := by decide +kernel
theorem wit_resume_wb : let s := resumes { step := 0, op := 6, fmt := 5, valid := true }
    slotReady (slotAt s 0 0) = true ∧ isOp (ctl 6 0 0 0 0 0 0) 5 6 none = true ∧ okL1 2 (ctl 6 0 0 0 0 0 0) = true ∧
    0 < l1Steps (ctl 6 0 0 0 0 0 0) (slotAt s 0 0) ∧ pipeBusy (coreGet s 0) 0 3 = false := by decide +kernel
theorem test_resume :
    runs (.mmaT 0 0 wMma) (resumes { step := 1, op := 0, fmt := 3, valid := true }) (fun u => (slotAt u 0 0).long == some ⟨wMma, 1⟩) = true ∧
    runs (.mmaT 0 0 wMma) (resumes { step := 2, op := 0, fmt := 3, valid := true }) (fun u => ((slotAt u 0 0).exc.map (·.code)) == some 3) = true := by
  decide +kernel

/-- The core runs the long instruction `w` at step `st`. -/
def longAt (w : W64) (st : Nat) (k : Core) : State := { cores := [(0, { k with slots := [(0, { tslot with long := some ⟨w, st⟩ })] })] }
theorem wit_mma_steps : ∀ st ∈ [0, 1], let s := longAt wMma st tcore
    (slotAt s 0 0).long = some ⟨wMma, st⟩ ∧ (slotAt s 0 0).stopped = false ∧ coreRuns s 0 = true ∧ s.errs.planted = [] ∧
    st < mmaSteps wMma (slotAt s 0 0) ∧
    (∀ r ∈ runRanges 5 0 16 64 0 st ++ runRanges 5 0x20000 16 64 0 st, firstPoison (coreGet s 0) r.1 r.2 = none) := by decide +kernel
theorem wit_mma_poison : ∃ r ∈ runRanges 5 0 16 64 0 0, (firstPoison { tcore with poison := [0] } r.1 r.2).isSome = true := by decide +kernel
theorem wit_copy_step : ∀ st ∈ [0, 1], let s := longAt wCopy st tcore
    (slotAt s 0 0).long = some ⟨wCopy, st⟩ ∧ iFmt wCopy = 3 ∧ iOp wCopy = 5 ∧ st < tcopySteps wCopy (slotAt s 0 0) := by decide +kernel
theorem wit_mask_step : let w := tile 0x10 0 0 4 8 8 0 0 0 0 0 0
    let s := longAt w 0 tcore
    iOp w = 0x10 ∧ 0 < attnSteps w (slotAt s 0 0) ∧ (∀ r ∈ blockRows 0 32 (iK w) 0, firstPoison (coreGet s 0) r.1 r.2 = none) := by decide +kernel
theorem wit_pos_gen : let w := wd [(0, 1), (4, 0x40), (16, 3), (22, 4), (32, 0)]
    let s := oneSlot { tslot with mask := 1 }
    let t := oneSlot { tslot with mask := 1, s := [(4, 0x1000000)] }
    canIssue s 0 0 w 1 false ∧ isOp w 1 0x40 none = true ∧ okPosGen w = true ∧ lanesOf (slotAt s 0 0).mask = [0] ∧
    (sRead (slotAt s 0 0) (iA w)).toNat < 2 ^ 24 ∧ 2 ^ 24 ≤ (sRead (slotAt t 0 0) (iA w)).toNat := by delta canIssue; decide +kernel
theorem wit_acc_scale : let w := tile 3 0 4 0 0 0 0 0 0 0 0 0
    canIssue sT 0 0 w 2 true ∧ isOp w 3 3 none = true ∧ okTile 1 w = true ∧ accBad tcore 0 (0, 32 * iN w) = false ∧
    accBad tcore 0 (64, 32 * iN w) = true := by delta canIssue; decide +kernel

/-! Loads, stores and atomics. Lane l of the two-lane slot addresses S4 + 0: a scalar base. -/
def mslot (base : W64) (mask : W32) : Slot := { slot with mask := mask, s := [(4, base)], v := [(0, 4), (32, 8), (64, 0x11223344)] }
def sM (base : W64) (mask : W32) (bad : List Nat) : State := { cores := [(0, { slots := [(0, mslot base mask)], poison := bad })] }
/-- LD of a word, ST of a byte and ATOM of MOD 0 in tile memory at S[4]. -/
def wLd : W64 := mem 0 4 2 4 1 1 0
theorem wit_tile_load : let s := sM 0x7FFFC 1 []
    canIssue s 0 0 wLd 3 false ∧ iSpace wLd = 1 ∧ isOp wLd 2 0 none = true ∧ okLd wLd = true ∧ accSize wLd = 4 ∧
    (∀ l ∈ lanesOf 1, accSize wLd ∣ laneAddr wLd (slotAt s 0 0) l ∧ laneAddr wLd (slotAt s 0 0) l < 0x80000 ∧
      tilePoisoned (coreGet s 0) (laneAddr wLd (slotAt s 0 0) l / 64) = false) ∧
    tilePoisoned (coreGet (sM 0x7FFFC 1 [0x1FFF]) 0) (0x7FFFC / 64) = true ∧
    ¬ 4 ∣ laneAddr wLd (mslot 2 1) 0 ∧ 0x80000 ≤ laneAddr wLd (mslot 0x80000 1) 0 := by delta canIssue; decide +kernel
theorem wit_tile_store : ∀ op ∈ [1, 2], let w := mem op (if op = 1 then 5 else 0) 2 4 1 1 0
    let s := sM 0x7FFF8 1 []
    canIssue s 0 0 w 3 false ∧ isOp w 2 op none = true ∧ (op = 1 → okSt w = true) ∧ (op = 2 → okAtom w = true) ∧
    accSize w ∣ laneAddr w (slotAt s 0 0) 0 ∧ laneAddr w (slotAt s 0 0) 0 < 0x80000 := by delta canIssue; decide +kernel
/-- Per-lane addresses that lie apart: V[0:1] holds 4 and 0 in lanes 0 and 1. -/
theorem wit_apart : let x := mslot 0 3
    let w := mem 1 4 2 0 0 1 0
    laneAddr w x 0 = 4 + 2 ^ 32 * 8 ∧ laneAddr w x 1 = 0 ∧ (laneAddr w x 1 + 4 ≤ laneAddr w x 0) := by decide +kernel
/-- R126: the exception names exactly the misaligned lanes. -/
theorem test_tile_access :
    runs (.ld 0 0 wLd) (sM 2 1 []) (fun u => ((slotAt u 0 0).exc.map fun r => (r.code, r.laneMask)) == some (4, 1)) = true ∧
    runs (.st 0 0 (mem 1 4 2 4 1 1 0)) (sM 64 1 []) (fun u => tileBytes (coreGet u 0) 64 4 == [0x44, 0x33, 0x22, 0x11]) = true := by decide +kernel

/-- A translation of granule 1 of context 1 to page 9, and the sector of address 0x10000 in the L1. -/
def xl (unc : Bool) : Xlat := ⟨1, 1, 9, true, true, true, false, 0, false, unc, true, false, 0⟩
def line : L1Line := { valid := 0xFFFFFFFFFFFFFFFF, data := List.replicate 64 0xAB }
def sG (unc inL1 : Bool) (n m : Nat) : State :=
  let l : Load := ⟨7, 3, 0, 248, false, none, [], ⟨.core 0, 7, 0, false, 0, false, 0, 1, 0, none, false⟩⟩
  let o : StoreOut := ⟨0, 3, .thisDevice, ⟨.core 0, 0, 0, false, 0, false, 0, 1, 0, some [], false⟩⟩
  { cores := [(0, { slots := [(0, mslot 0x10000 1)], xlat := [xl unc], l1d := if inL1 then [(589824 / 64, line)] else []
                    loads := List.replicate n l, stores := List.replicate m o })] }
def wG (op mod : Nat) : W64 := mem op mod 2 4 1 0 0
theorem wit_global_load : ∀ n ∈ [0, 63, 64], let s := sG false (n == 0) n 0
    canIssue s 0 0 (wG 0 4) 3 false ∧ iSpace (wG 0 4) = 0 ∧ isOp (wG 0 4) 2 0 none = true ∧ okLd (wG 0 4) = true ∧
    laneAddr (wG 0 4) (slotAt s 0 0) 0 = 0x10000 ∧ findXlat s 0 1 0x10000 = some (xl false) ∧ xlatDenied s (xl false) .load = none ∧
    xlatAddr (xl false) 0x10000 = 589824 ∧
    (n = 0 → ∀ i, i < 4 → line.valid.getLsbD (589824 % 64 + i) = true) ∧ (n ≠ 0 → sfind (coreGet s 0).l1d (589824 / 64) = none) ∧
    (n = 64 → 64 < (coreGet s 0).loads.length + 1) := by delta canIssue; decide +kernel
theorem wit_global_store : ∀ m ∈ [0, 31, 32], let s := sG (decide (0 < m)) true 0 m
    canIssue s 0 0 (wG 1 4) 3 false ∧ isOp (wG 1 4) 2 1 none = true ∧ okSt (wG 1 4) = true ∧ (slotAt s 0 0).mask = BitVec.ofNat 32 (2 ^ 0) ∧
    findXlat s 0 1 0x10000 = some (xl (decide (0 < m))) ∧ xlatDenied s (xl (decide (0 < m))) .store = none ∧
    (coreGet s 0).stores.length = m := by delta canIssue; decide +kernel
theorem wit_global_atomic : ∀ n ∈ [0, 63, 64], let s := sG false true n 31
    canIssue s 0 0 (wG 2 0) 3 false ∧ isOp (wG 2 0) 2 2 none = true ∧ okAtom (wG 2 0) = true ∧ xlatDenied s (xl false) .atomic = none ∧
    (coreGet s 0).loads.length = n := by delta canIssue; decide +kernel
/-- Core 0 waits for a load of slot 0 that lane 0 of V[4] takes. -/
theorem wit_load_complete : ((coreGet sLoad 0).loads.find? (fun e => e.id == 7)).isSome = true ∧ (slotAt sLoad 0 0).ctx = 1 ∧
    (slotAt sLoad 0 0).st ≠ .free ∧ (ctxGet { sLoad with work := { ctxs := [(1, { st := .running })] } } 1).st = .running := by decide +kernel
theorem test_load_complete :
    runs (.loadComplete 0 7 0 false [1, 2, 3, 4]) sLoad (fun u => vRead (slotAt u 0 0) 4 0 == 0x04030201 && (coreGet u 0).loads.isEmpty) = true ∧
    runs (.loadComplete 0 7 0 true []) sLoad (fun u => ((slotAt u 0 0).exc.map fun r => (r.code, r.pc)) == some (0xC, 248)) = true := by decide +kernel

/-! ### Translation, tile memory, Lath and Scrim -/

/-- HBM of this device: `d` at local address 0 (a sector of row 0), poisoned if `p`. -/
def hbmAt (d : List Byte) (p : Bool) (s : State) : State := cellWrite 0 0 d p s
/-- Context 1 with its root table at address 0 (512 entries), whose first sector is `d`. -/
def tab (d : List Byte) (p : Bool) (root : Nat) : State :=
  hbmAt d p { work := { ctxs := [(1, { st := .running, desc := { rootBase := root, rootSpan := 512 } })] } }
def entryOf (s : State) : Nat := leNat (localBytes s (0 + 8 * levelIndex 0 1) 8)
/-- A walk's failure reason (0 for a leaf) with the leaf's page and permissions. -/
def leafOf (r : WalkRes) : Nat × Nat × Bool × Bool × Bool :=
  match r with
  | .leaf l => (0, l.page, l.read, l.write, l.exec)
  | .fail n => (n, 0, false, false, false)
theorem wit_walk : (2 : Nat) ^ 48 ≤ 2 ^ 48 ∧ 512 ≤ (2 ^ 48 - 1) / 2 ^ 30 ∧ backedBytes ≤ (ctxGet (tab [] false backedBytes) 1).desc.rootBase ∧
    levelIndex 0 1 = 0 ∧ backedBytes ≤ backedBytes + 8 * levelIndex 0 1 ∧
    localPoison (tab [1] true 0) 0 8 = true ∧ localPoison (tab [1] false 0) 0 8 = false ∧ entryOf (tab [0] false 0) % 2 = 0 ∧
    (entryOf (tab [0x81] false 0) % 2 = 1 ∧ entryOf (tab [0x81] false 0) / 32 % 8 ≠ 0) := by decide +kernel
/-- A leaf (VALID, LEAF, READ, PAGE 0), one with a Reserved bit of its page set, and pointers to level 2: aligned, not aligned, beyond HBM,
Reserved. -/
theorem wit_walk_entries :
    (let e := entryOf (tab [7] false 0); e % 2 = 1 ∧ e / 32 % 8 = 0 ∧ e / 2 % 2 = 1 ∧ e / 256 % 256 = 0 ∧ e / 65536 % 2 ^ (levelShift 1 - 16) = 0) ∧
    (let e := entryOf (tab [7, 1] false 0); e / 2 % 2 = 1 ∧ e / 256 % 256 ≠ 0) ∧
    (let e := entryOf (tab [1, 16] false 0); e / 2 % 2 = 0 ∧ e / 2 ^ 56 % 256 = 0 ∧ 4096 ∣ 256 * (e / 256 % 2 ^ 48)) ∧
    (let e := entryOf (tab [1, 1] false 0); e / 2 % 2 = 0 ∧ ¬ 4096 ∣ 256 * (e / 256 % 2 ^ 48)) ∧
    (let e := entryOf (tab [1, 0, 0, 0, 0, 1] false 0); 4096 ∣ 256 * (e / 256 % 2 ^ 48) ∧ backedBytes ≤ 256 * (e / 256 % 2 ^ 48)) ∧
    (let e := entryOf (tab [1, 0, 0, 0, 0, 0, 0, 1] false 0); e / 2 % 2 = 0 ∧ e / 2 ^ 56 % 256 ≠ 0) := by decide +kernel
/-- R178: a READ leaf at level 1 covers 1 GiB; offset 0x12345 lies in its granule 1. -/
theorem test_walk : leafOf (walk (tab [7] false 0) 1 0x12345) = (0, 1, true, false, false) ∧
    leafOf (walk (tab [0] false 0) 1 0) = (2, 0, false, false, false) ∧ leafOf (walk (tab [7] false 0) 1 (2 ^ 48)) = (1, 0, false, false, false) := by decide +kernel
theorem wit_xlat_faults : let s := { tab [7] false 0 with cores := s0.cores }
    findXlat s 0 1 0 = none ∧ leafOf (walk s 1 0) = (0, 0, true, false, false) ∧ winMatch (winTable s 1) 0 = none ∧
    denied ⟨0, true, false, false⟩ .load = none ∧ (ctxGet s 1).st = .running ∧ (ctxGet s 1).faulting = false ∧
    leafOf (walk { tab [0] false 0 with cores := s0.cores } 1 0) = (2, 0, false, false, false) ∧ denied ⟨0, true, false, true⟩ .fetch = none := by decide +kernel
/-- A window entry of base 0x10000 and 1 granule that is accepted, and one with a bad length. -/
def winOk : List Byte := leBytes 8 0x10000 ++ leBytes 8 1 ++ List.replicate 16 0
theorem wit_windows : (ctxGet (tab [0] false 0) 1).st ≠ .none ∧ (ctxGet State.reset 1).st = .none ∧ winOk.length = 32 ∧
    (parseWin winOk).ok = true ∧ (parseWin (List.replicate 32 0xFF)).ok = false ∧
    bit (parseWin (localBytes (tab [0] false 0) ((ctxGet (tab [0] false 0) 1).desc.winBase + 32 * min 0 63) 32)).flags 0 = false := by decide +kernel

/-- Core 0's bank A starts with the byte 0xAB; a retained section keeps an access through the window waiting. -/
def sTile (r : RetState) : State := { cores := [(0, { tile := [⟨0, 0xAB⟩] })], ret := { st := [(0, r)] } }
theorem wit_tile_window : (2 : Nat) ^ 40 / 2 ^ 40 = 1 ∧ (2 ^ 40 + 0x80000) % 2 ^ 20 = 0x80000 ∧ (2 ^ 40 + 0x7FFC0) % 2 ^ 20 < 0x80000 ∧
    (sTile .active).ret.get (coreSection 0) = .active ∧ (sTile .retained).ret.get (coreSection 0) = .retained ∧
    (2 ^ 40 + 2 ^ 20 * 4607) % 2 ^ 40 / 2 ^ 20 = 4607 := by decide +kernel
theorem test_tile_window :
    runs (.tileWindowAccess (2 ^ 40) none) (sTile .active) (fun u => u.uc.replies.map (fun r => (r.data.take 1, r.status)) == [([0xAB], 0)]) = true ∧
    runs (.tileWindowAccess (2 ^ 40 + 0x80000) none) (sTile .active) (fun u => u.uc.replies.map (·.status) == [5]) = true ∧
    runs (.tileWindowAccess (2 ^ 40) none) (sTile .retained) (fun u => u.uc.replies.isEmpty && u.ret.held.length == 1) = true := by decide +kernel
def word : LathWordData := { data := List.replicate 64 0x5A, sector := 3, mc := false, group := 0, poison := false }
def sLand (n : Nat) : State :=
  { cores := [(0, { landing := List.replicate n ⟨3, List.replicate 64 1, false⟩, owner := some 1 })]
    lath := { flight := [⟨0, .core, 9, word⟩] }, work := { ctxs := [(1, { st := .running })] } }
theorem wit_landing : ∀ n ∈ [0, 127, 128],
    (sLand n).lath.flight.find? (fun f => f.core == 0 && f.port == .core && f.cycle == 9) = some ⟨0, .core, 9, word⟩ ∧
    (sLand n).ret.get (coreSection 0) = .active ∧ (coreGet (sLand n) 0).landing.length = n ∧ (sLand n).errs.injects = [] ∧
    (coreGet (sLand n) 0).owner = some 1 ∧ (ctxGet (sLand n) 1).st = .running ∧ (ctxGet (sLand n) 1).faulting = false := by decide +kernel
/-- R153, R155: the word is read at once, and bank D receives it when DRAIN moves it. -/
theorem test_landing :
    runs (.lathWordLand 0 9 .clean) (sLand 0) (fun u => tileByte (coreGet u 0) (0x60000 + 192) == 0x5A && (coreGet u 0).tile.isEmpty) = true ∧
    runs (.drain 0) (sLand 1) (fun u => memRead (coreGet u 0).tile (0x60000 + 192) == 1 && (coreGet u 0).landing.isEmpty) = true ∧
    runs (.lathWordLand 0 9 .clean) (sLand 128) (fun u => (ctxGet u 1).fault.cause == 2) = true := by decide +kernel
theorem wit_starve : num State.reset 0x6101 1 0x10 / 2 ^ masterBit .dma % 2 = 1 ∧ ¬ num State.reset 0x6101 1 0x10 / 2 ^ masterBit .tuA % 2 = 1 := by
  decide +kernel
theorem wit_retention : let at_ := fun (r : RetState) => ({ ret := { st := [(143, r)] } } : State)
    (State.reset.ret.get 0 = .active ∧ sectionIdle State.reset 0 = true) ∧ sectionIdle s0 0 = false ∧
    ((at_ .retained).ret.get 143 = .retained ∧ (at_ .retained).ret.wakeQueue = [] ∧ wakingOn (at_ .retained) 3 < 8) ∧
    (let s : State := { ret := { st := (List.range 8).map (fun i => (i, RetState.waking)) ++ [(8, .retained)] } }
     s.ret.get 8 = .retained ∧ 8 ≤ wakingOn s 0) ∧
    ((at_ .entering).ret.get 143 = .entering ∧ 143 ∉ (at_ .entering).ret.wakeQueue) ∧ (at_ .waking).ret.get 143 = .waking := by decide +kernel
theorem test_retention :
    runs (.retRetain 0) State.reset (fun u => u.ret.get 0 == .entering && u.dict.result == (0, [])) = true ∧
    runs (.retRetain 0) s0 (fun u => u.dict.result == (0x23, [1, 0])) = true ∧
    runs (.retainDone 0) (sTile .entering) (fun u => u.ret.get 0 == .retained && memRead (coreGet u 0).tile 0 == 0xAB) = true := by decide +kernel

/-- Router of core 33 (column 1, row 1): entry 0 sends the word of input W (code 4) east and to the core, entry 1 names INJ. -/
def eRow : W32 := BitVec.ofNat 32 (portCode .w * 2 ^ 6 + portCode .w * 2 ^ 12)
def eInj : W32 := BitVec.ofNat 32 (5 * 2 ^ 12 + 2 ^ 15)
def sLath (e : W32) (q : List LathWordData) : State :=
  { lath := { routers := [(33, { ctx := 1, tableLen := 1, table := [(0, e)], queue := q, injList := [5] })]
              scheds := [(1, { running := true, k := 4 })], flight := [⟨33, .w, 4, word⟩] }
    work := { ctxs := [(1, { st := .running })] } }
theorem wit_lath : lathRuns (sLath eRow []) 1 4 = true ∧ (routerGet (sLath eRow []) 33).tableLen ≠ 0 ∧
    (sLath eRow []).lath.flight.find? (fun f => f.core == 33 && f.port == .w && f.cycle == 4) = some ⟨33, .w, 4, word⟩ ∧
    eInj.toNat / 2 ^ 15 % 2 = 1 ∧ (routerGet (sLath eInj []) 33).queue = [] ∧ (routerGet (sLath eInj [word]) 33).queue = word :: [] ∧
    (ctxGet (sLath eInj []) 1).st = .running := by decide +kernel
theorem test_lath :
    runs (.lathWord 33 .w 4 true) (sLath eRow []) (fun u => u.lath.flight.map (fun f => (f.core, f.port, f.cycle)) ==
      [(34, .w, 6), (33, .core, 4 + lathP u 0)]) = true ∧
    runs (.lathWord 33 .inj 4 true) (sLath eInj []) (fun u => (ctxGet u 1).fault.cause == 3) = true := by decide +kernel
theorem wit_schedules : let s := sLath eInj []
    (routerGet s 33).queue.length < 32 ∧ (routerGet s 33).injList ≠ [] ∧ (routerGet s 33).injPos < (routerGet s 33).injList.length ∧
    (let t : State := { s with lath := { s.lath with routers := [(33, { tableLen := 1, ctx := 1, injList := [5], injPos := 1 })] } }
     (routerGet t 33).injList.length ≤ (routerGet t 33).injPos ∧ (schedGet t 1).running = true) ∧
    (let t : State := { work := { ctxs := [(1, { launch := some ⟨0, none, 0, [], 0, [], [], 0, 0, true, []⟩, restoring := true, kS := 7 })] } }
     (schedGet t 1).running = false ∧ (ctxGet t 1).launch.isSome = true ∧ injectorsReady t 1 = true ∧ (ctxGet t 1).restoring = true) ∧
    (let t : State := { s with lath := { s.lath with scheds := [(1, { running := true, k := 4 })] }, work := { ctxs := [(1, { stop := some .tile })] } }
     (schedGet t 1).running = true ∧ (schedGet t 1).stoppedAt = none ∧ (ctxGet t 1).stop.isSome = true ∧ (schedGet t 1).k + 2048 ≤ 2052 ∧
     2051 < (schedGet t 1).k + 2048) := by decide +kernel
theorem test_schedule_starts : runs (.lathScheduleStart 1)
    { work := { ctxs := [(1, { launch := some ⟨0, none, 0, [], 0, [], [], 0, 0, true, []⟩, restoring := true, kS := 7 })] } }
    (fun u => (schedGet u 1).k == 7 && (schedGet u 1).running) = true := by decide +kernel

/-- A plain packet of the request channel. -/
def pkt (dest : Nat) : ScrimPkt :=
  ⟨1, 0, 0, dest, 0, 9, 0, [], [], 1, 0, 0, false, false, 0, 0⟩
theorem wit_scrim : let n := 0
    nodeOk n = true ∧ nStack n < 4 ∧ nodeOk 1 = true ∧ nStack 1 = nStack n ∧ (pkt 1).vc < 6 ∧ (pkt 1).vc ≠ 0 ∧ (pkt 1).vc ≠ 4 ∧
    arriving State.reset n (pkt 1) = none ∧ nodeOk (pkt n).dest = true := by decide +kernel
theorem test_scrim : runs (.scrimPacket 0 (pkt 0) .none) State.reset (fun u => u.scrim.delivered.length == 1) = true ∧
    runs (.scrimPacket 0 (pkt 1) .none) State.reset (fun u => u.scrim.waiting.length == 1 && u.scrim.delivered.isEmpty) = true := by decide +kernel
theorem wit_age : 3 ≤ tierOf ⟨0, .e, { pkt 1 with vc := 4, qos := 2 }, false⟩ ∧ tierOf ⟨0, .e, { pkt 1 with vc := 2 }, false⟩ < 3 := by decide +kernel
def cls0 : List Byte := List.replicate 512 0
theorem wit_classifier : cls0.length = 512 ∧ ((List.range 32).map fun i => slice cls0 (16 * i) 16).all clsOk = true ∧
    (∀ j, j < 32 → (parseCls (((List.range 32).map fun i => slice cls0 (16 * i) 16).getD j [])).valid = false) ∧
    clsOk (List.replicate 16 0xFF) = false ∧ clsOk (List.replicate 16 0) = true := by decide +kernel
/-- A VALID entry for every address, partition and C-die core source, of class 2 and priority 1. -/
def clsAll : List Byte := List.replicate 12 0 ++ [0xC0, 1, 6, 0]
theorem wit_classifier_meets : let a := parseCls clsAll
    clsOk clsAll = true ∧ a.valid = true ∧ clsMeet a a = true ∧
    (let s : State := { scrim := { cls := [(31, a)] } }
     srcBit 0 { pkt 1 with vc := 0 } 7 = some 0 ∧ sfind s.scrim.cls 31 = some a ∧ clsHolds a 0 = true ∧ a.anyPart = true ∧ a.src / 2 ^ 0 % 2 = 1 ∧
     ∀ j, j < 31 → sfind s.scrim.cls j = none) := by decide +kernel

/-! ### The unified cache and Bezel -/

/-- A read of the first sector of local address 0 by core 0 with a hint; home slice 0. -/
def rd (hint : Nat) (scratch : Bool) : UcReq := ⟨.core 0, 5, 0, true, hint, scratch, 0, 1, 0, none, false⟩
/-- A whole-sector write there, and one of the first byte alone. -/
def wr (n : Nat) : UcReq := { rd 0 false with write := some ((List.range 64).map fun i => (decide (i < n), 0x77)) }
/-- A home copy of line 0, wholly valid, with a directory entry. -/
def home (d : DirIn) : Way := { tag := 0, st := .home, svalid := 0xFFFF, dir := d, keep := true }
def mshr (bz : LineState) (n : Nat) : Mshr :=
  { line := 0, near := true, ctx := 1, bz := bz, fetch := 1, txn := 9, waiters := List.replicate n ⟨.core 0, 5, 0, 0, false, 1⟩, hints := [(0, false)] }
/-- Slice `k` with these ways, MSHRs and held requests. -/
def sUc (k : Nat) (w : SMap Way) (ms : List Mshr) (hs : List HeldReq) : State :=
  { uc := { slices := [(k, { c := { ways := w, mshrs := ms, held := hs } })] } }
/-- `plainHome` as a test. -/
def plain (s : State) (k : Nat) (r : UcReq) : Bool :=
  decide (k < 256) && decide (devOf r.addr = devId s) && decide (localOf r.addr < backedBytes) && decide (k = homeSlice r.addr r.near) &&
  !isOut s (8 + (hbmPlace (localOf r.addr)).stack) && homeServes s (k / 64) && s.errs.planted.isEmpty &&
  s.uc.flushing.isEmpty && (sliceGet s k).c.held.isEmpty && (findTracker s k (lineOf r.addr)).isNone && !needsRecall s k r

theorem plain_iff (s : State) (k : Nat) (r : UcReq) (h : plain s k r = true) : plainHome s k r := by
  simp only [plain, Bool.and_eq_true, decide_eq_true_eq, Bool.not_eq_true', List.isEmpty_iff, Option.isNone_iff_eq_none] at h
  obtain ⟨⟨⟨⟨⟨⟨⟨⟨⟨⟨a, b⟩, c⟩, d⟩, e⟩, f⟩, g⟩, i⟩, j⟩, l⟩, m⟩ := h
  exact ⟨a, b, c, d, e, f, g, i, j, l, m⟩

theorem wit_uc_reads : ∀ h ∈ [0, 1, 2, 3, 4, 7], ∀ w ∈ [[], [(0, home {})]], plainHome (sUc 0 w [] []) 0 (rd h true) :=
  fun h hh w hw => plain_iff _ _ _ (by revert h w; decide)
theorem wit_uc_read_states :
    (findWay (sliceGet (sUc 0 [(0, home {})] [] []) 0).c 0).isSome = true ∧ (home {}).svalid.getLsbD 0 = true ∧
    findWay (sliceGet (sUc 0 [] [] []) 0).c 0 = none ∧ findMshr (sliceGet (sUc 0 [] [] []) 0).c 0 = none ∧
    plain (sUc 0 [] [mshr .home 1] []) 0 (rd 0 false) = true ∧ plain (sUc 0 [] [mshr .home 32] []) 0 (rd 0 false) = true ∧
    32 ≤ (mshr .home 32).waiters.length := by decide +kernel
/-- R226: a hit answers the sector; R233: a write of one byte of a valid sector changes that byte alone. -/
theorem test_uc :
    runs (.ucRead 0 (rd 0 false) .clean) (sUc 0 [(0, { home {} with data := [⟨0, 0x11⟩] })] [] []) (fun u =>
      u.uc.replies.map (fun r => (r.data.take 2, r.status)) == [([0x11, 0], 0)]) = true ∧
    runs (.ucWrite 0 (wr 1) .clean) (sUc 0 [(0, { home {} with data := [⟨0, 0x11⟩, ⟨1, 0x22⟩] })] [] []) (fun u =>
      (findWay (sliceGet u 0).c 0).map (fun e => (memReadN e.2.data 0 2, e.2.sdirty)) == some ([0x77, 0x22], 1)) = true := by decide +kernel
theorem wit_uc_writes : (∀ n ∈ [1, 64], plain (sUc 0 [(0, home {})] [] []) 0 (wr n) = true ∧ plain (sUc 0 [] [] []) 0 (wr n) = true) ∧
    homeHas (sUc 0 [] [] []) 0 0 (bit16 0) = false ∧ plain (sUc 0 [] [mshr .home 1] []) 0 (wr 64) = true ∧
    sfind (sliceGet (sUc 0 [] [] []) 0).c.ways (16 * setOf State.reset 0 true + 0) = none ∧
    plain (sUc 0 [] [] []) 0 { wr 64 with hint := 2 } = true := by decide +kernel
theorem wit_uc_errors : let s := State.reset
    2 ^ 39 ≤ localOf (2 ^ 39) ∧
    sliceFits s (homeSlice (2 ^ 39) true) { rd 0 false with addr := 2 ^ 39 } = true ∧ isHostAddr (2 ^ 39) = false ∧ sitePAddr s (2 ^ 39) = false ∧
    isOut { power := { oos := 0x100 } } (8 + (hbmPlace 0).stack) = true ∧
    homeServes { uc := { homes := [(0, { st := .lost })] } } (homeBdie 0 true) = false ∧
    sliceFits s 0 { rd 0 false with addr := 2 ^ 56 } = true ∧ canReach s 1 = false ∧ devOf (2 ^ 56) ≠ devId s := by decide +kernel
/-- R276, R279: a lost home answers 9, an unreachable device 10, an address beyond HBM 5. -/
theorem test_uc_errors :
    runs (.ucRead 0 (rd 0 false) .clean) { uc := { homes := [(0, { st := .lost })] } } (fun u => u.uc.replies.map (·.status) == [9]) = true ∧
    runs (.ucRead 0 { rd 0 false with addr := 2 ^ 56 } .clean) State.reset (fun u => u.uc.replies.map (·.status) == [10]) = true := by decide +kernel

def full (n : Nat) : SMap Way := (List.range n).map fun j => (j, { home {} with tag := 1000 + j })
/-- Nothing waits at any home. -/
def idle (s : State) : Bool :=
  s.uc.slices.all (fun e => e.2.trackers.isEmpty && e.2.homeHeld.isEmpty) && (List.range 4).all (fun b => (homeGet s b).st != .quiescing) && s.uc.flushing.isEmpty
theorem idle_iff (s : State) (h : idle s = true) : homesIdle s := by
  simp only [idle, Bool.and_eq_true, List.all_eq_true, List.isEmpty_iff, List.mem_range, bne_iff_ne] at h
  exact ⟨h.1.1, h.1.2, h.2⟩
theorem wit_uc_fill : let x := { mshr .home 1 with got := 1 }
    let s := sUc 0 (full 15) [x] []
    findMshr (sliceGet s 0).c 0 = some x ∧ x.bz = .home ∧ findWay (sliceGet s 0).c 0 = none ∧ x.fetch = bit16 0 ∧ x.got = bit16 0 ∧
    idle s = true ∧ sfind (sliceGet s 0).c.ways (16 * setOf s (lineAddr 0) true + 15) = none ∧
    (∀ i, i < 15 → (sfind (sliceGet s 0).c.ways (16 * setOf s (lineAddr 0) true + i)).isSome = true) ∧ (mshr .home 1).got = 0 := by decide +kernel
theorem wit_uc_held : let h : HeldReq := ⟨rd 0 false, .line⟩
    let s := sUc 0 [(0, home {})] [] [h]
    (sliceGet s 0).c.held = [h] ∧ plain (sUc 0 [(0, home {})] [] []) 0 h.req = true ∧ (sliceGet (sUc 0 [] [] [h, h]) 0).c.held = [h, h] := by decide +kernel
/-- A set with 12 KEEP ways, an MSHR file that is full, and a discard of a line that another B-die shares. -/
theorem wit_uc_limits : 12 ≤ keepWays (sliceGet (sUc 0 (full 12) [] []) 0).c 0 0 ∧
    plain (sUc 0 [] (List.replicate 256 { mshr .home 1 with line := 1 }) []) 0 (rd 0 false) = true ∧
    hasHolders (home { sharers := bit22 1 }) = true ∧ plain (sUc 0 [(0, home { sharers := bit22 1 })] [] []) 0 (rd 4 true) = true ∧
    waiterCount (sliceGet (sUc 0 [] [mshr .home 31] []) 0).c < 8192 := by decide +kernel
theorem wit_scrub : num State.reset 0x6402 1 1 ≠ 0 ∧ num { dict := { nums := [(256 * 0x6402 + 1, 0)] } } 0x6402 1 1 = 0 := by decide +kernel

/-- A message of slice `src` (or another agent) about line 0 for slice `dst`. -/
def msg (src : Agent) (dst : Nat) (data : List Byte) : BMsg := ⟨.slice dst, src, 9, 0, true, 1, 1, 1, 0, data⟩
/-- Slice 64 is a guest for line 0; `st` of its copy in the one place where such a copy is. -/
def guest (st : LineState) : State :=
  match st with
  | .i => sUc 64 [] [] []
  | .s | .e | .o | .m => sUc 64 [(0, { home {} with st := st })] [] []
  | .miA | .eiA | .siA => { uc := { slices := [(64, { c := { evicts := [{ line := 0, near := true, st := st, sdirty := 1, spoison := 0, data := [] }] } })] } }
  | .isD | .isDI => sUc 64 [] [mshr st 1] []
  | _ => sUc 64 [(0, { home {} with st := st })] [mshr st 1] []
theorem wit_at_copy : atCopy State.reset 64 (msg (.slice 0) 64 []) ∧ atCopy State.reset 0 { msg (.slice 64) 0 [] with addr := 2 ^ 56 } := by
  unfold atCopy; decide +kernel
theorem wit_copy_at : ∀ st, st ≠ .home → copyAt (guest st) 64 0 st := by
  intro st h
  cases st <;> first
    | exact absurd rfl h
    | exact ⟨rfl, rfl, rfl⟩
    | exact ⟨⟨_, _, rfl, rfl⟩, rfl, rfl⟩
    | exact ⟨rfl, rfl, ⟨_, rfl, rfl⟩⟩
    | exact ⟨⟨_, rfl, rfl, rfl⟩, rfl, fun j w e => by cases e <;> exact ⟨rfl, by decide, by decide⟩⟩
theorem wit_snoops : knownEpoch State.reset 0 true = some 1 ∧ snoopRow .inv .s = some ([.invAck], .i) ∧ defers .isD = true ∧
    snoopRow .fwdGetS .s = none ∧ defers .s = false ∧ (2 : Nat) ≠ (msg (.slice 0) 64 []).epoch := by decide +kernel
/-- R261: a guest in M answers FWD_GETM with DATA_M to the requester and FWD_DONE_I to the home, and becomes I. -/
theorem test_snoop : runs (.fwdGetm (msg (.slice 128) 64 [])) (guest .m) (fun u =>
    u.uc.sent.map (fun p => (p.op, p.m.dst)) == [(.dataM, .slice 128), (.fwdDoneI, .slice 0)] && copyState (sliceGet u 64).c 0 == .i) = true := by decide +kernel
theorem wit_grants : (findMshr (sliceGet (guest .isD) 64).c 0).map (·.txn) = some 9 ∧ grantRow .dataS .isD = some .s ∧ grantRow .gntM .isD = none ∧
    streamOnly (mshr .isD 1) = false ∧ streamOnly { mshr .isD 1 with waiters := [⟨.core 0, 5, 0, 2, false, 1⟩], hints := [(2, false)] } = true ∧
    findMshr (sliceGet (guest .s) 64).c 0 = none ∧ (findEvict (sliceGet (guest .siA) 64).c 0).isSome = true ∧
    (State.reset.uc.once.any fun o => o.agent == .slice 64 && o.id == 9) = false := by decide +kernel
theorem wit_holds : let s := sUc 64 [(0, { home {} with st := .mH })] [{ mshr .mH 0 with deferred := some ⟨.recallI, msg (.slice 0) 64 []⟩ }] []
    (findWay (sliceGet s 64).c 0).map (·.2.st) = some .mH ∧ ((findMshr (sliceGet s 64).c 0).bind (·.deferred)).isSome = true ∧
    findEvict (sliceGet s 64).c 0 = none ∧ (findMshr (sliceGet (guest .eH) 64).c 0).map (·.deferred) = some none ∧
    copyState (sliceGet State.reset 0).c 0 ≠ .eH ∧ (agent20 State.reset 0).deferred = none ∧
    (agent20 { host := { agent20 := [(0, { hold := true, deferred := some (.recallI, msg .host 0 []) })] } } 0).deferred.isSome = true := by decide +kernel
theorem wit_once : let s : State := { uc := { once := [⟨.slice 64, .core 0, 5, 64, .readOnce, some 1, 9, 1⟩] } }
    (s.uc.once.find? fun o => o.agent == .slice 64 && o.id == 9).isSome = true ∧ (State.reset.uc.once.find? fun o => o.agent == .slice 64 && o.id == 9) = none := by
  decide +kernel
/-- R271: DATA_ONCE answers the sector that was asked for. -/
theorem test_once : runs (.dataOnce (msg (.slice 0) 64 (List.replicate 64 1 ++ List.replicate 960 2)))
    { uc := { once := [⟨.slice 64, .core 0, 5, 64, .readOnce, some 1, 9, 1⟩] } }
    (fun u => u.uc.replies.map (fun r => (r.data.take 1, r.status)) == [([2], 0)]) = true := by decide +kernel

/-! At the home slice 0 of line 0. -/
def sHome (d : DirIn) : State := sUc 0 [(0, home d)] [] []
theorem wit_idle_home : ∀ d ∈ [{}, { sharers := bit22 1 }, { sharers := bit22 2 }, { owner := 3, own := .excl }, { owner := 2, own := .o }],
    ∀ a ∈ [Agent.slice 64, .device 5], atIdleHome (sHome d) 0 (msg a 0 []) := fun d hd a ha =>
  ⟨by decide, rfl, by decide +revert, by decide +revert, by decide +revert, by decide +revert, idle_iff _ (by decide +revert)⟩
theorem wit_home_dirs : (64 : Nat) / 64 ≠ 0 / 64 ∧ dirOf (sHome {}) 0 true = none ∧ bit22 1 ≠ 0 ∧
    ({ sharers := bit22 2 } : DirIn).own = .none ∧ ({ owner := 3, own := .excl } : DirIn).owner < 4 ∧ ({ owner := 2, own := .o } : DirIn).own ≠ .none ∧
    bit22 1 = bit22 (64 / 64) := by decide +kernel
/-- R258: GET_S where nobody holds the line, and GET_M of another sharer's line. -/
theorem test_home :
    runs (.getS (msg (.slice 64) 0 [])) (sHome {}) (fun u => u.uc.sent.map (fun p => (p.op, p.m.dst)) == [(.dataE, .slice 64)] &&
      (findWay (sliceGet u 0).c 0).map (·.2.dir) == some { owner := 1, own := .excl }) = true ∧
    runs (.getM (msg (.slice 64) 0 [])) (sHome { sharers := bit22 2 }) (fun u => u.uc.sent.map (fun p => (p.op, p.m.dst)) == [(.inv, .slice 128)]) = true := by
  decide +kernel
def trk : Tracker := { line := 0, near := true, kind := .request, op := .getM, req := .slice 128, txn := 9, ctx := 1, data := [], sectors := 0, spoison := 0 }
def sTrk (t : Tracker) (e : Nat) : State :=
  { uc := { slices := [(0, { c := { ways := [(0, home { sharers := bit22 1 })] }, trackers := [t] })], homes := [(0, { epoch := e })] } }
theorem wit_trackers : findTracker (sTrk trk 1) 0 0 = some trk ∧ roleOf (sTrk trk 1) 0 0 true = some .home ∧ homeServes (sTrk trk 1) 0 = true ∧
    homeServes { sTrk trk 1 with uc := { (sTrk trk 1).uc with homes := [(0, { st := .offline })] } } 0 = false ∧ findTracker State.reset 0 0 = none ∧
    (([(Agent.slice 64, BOp.fwdGetM)]).any fun e => e.1 == .slice 64 && isOwnerSnoop e.2) = true ∧
    (homeGet (sTrk trk 0xFFFF) 0).epoch = 0xFFFF ∧ (msg (.slice 64) 0 []).epoch = (homeGet (sTrk trk 1) 0).epoch := by decide +kernel
theorem wit_bad_line : lineBad { power := { oos := 0x100 } } 0 = true ∧ dirFull (sHome {}) 0 true = false ∧ (5 : Nat) ≠ devId (sHome {}) := by decide +kernel
theorem test_responses :
    runs (.invAck (msg (.slice 64) 0 [])) (sTrk { trk with outs := [(.slice 64, .inv)] } 1) (fun u =>
      u.uc.sent.map (fun p => (p.op, p.m.dst)) == [(.dataM, .slice 128)]) = true ∧
    runs (.compAck (msg (.slice 128) 0 [])) (sTrk { trk with awaitComp := true, finished := true } 1) (fun u => (findTracker u 0 0).isNone) = true ∧
    runs (.invAck (msg (.slice 64) 0 [])) (sTrk trk 1) (fun u => num u 0x2501 2 0 == 1) = true := by decide +kernel
theorem wit_homes : (∀ st ∈ [HomeState.online, .quiescing, .offline, .lost],
      (homeGet { uc := { homes := [(3, { st := st, epoch := 0xFFFF })] } } 3).st = st) ∧ 3 ∈ ({ lost := [3] } : Helda).lost := by decide +kernel
theorem test_homes : runs (.homeReturn 3) { uc := { homes := [(3, { st := .lost, epoch := 0xFFFF })] } } (fun u =>
      homeGet u 3 == { st := .online, epoch := 1 }) = true ∧
    runs (.homeQuiesce 0) State.reset (fun u => (homeGet u 0).st == .offline && (homeGet u 0).epoch == 2 && u.dict.result == (2, [])) = true := by decide +kernel

/-! ### HBM, Helda and Carrak Link -/

/-- Channel 0 with these queues. -/
def sCh (c : HbmChan) : State := { hbm := { chans := [(0, c)] } }
theorem wit_placement : 0 < backedBytes ∧ (backedBytes - 1) / 2 ^ 19 = 546815 ∧ hbmPlace 0 = hbmPlace 1023 ∧ hbmPlace 0 ≠ hbmPlace 1024 ∧
    pendingWr State.reset 0 = none ∧ State.reset.hbm.redirect = [] := by decide +kernel
/-- R284: the last backed line lies in row 34,175 of bank 15. -/
theorem test_placement : (hbmPlace (backedBytes - 1)).row = 34175 ∧ (hbmPlace (backedBytes - 1)).bank = 15 ∧ (hbmPlace 0).row = 0 ∧
    (hbmPlace 1024).pc = 1 ∧ (hbmPlace 1024).row = 0 := by decide +kernel
theorem wit_throttle : (stackGet State.reset 7).step ≤ 5 ∧ (stackGet { hbm := { stackOf := [(7, { step := 5, invalid := 3 })] } } 7).step = 5 ∧
    (stackGet { hbm := { stackOf := [(7, { step := 5, invalid := 3 })] } } 7).invalid = 3 := by decide +kernel
/-- R290: a step is entered at its threshold, and left only below it less the hysteresis. -/
theorem test_throttle : let th := thrOf State.reset
    runs (.stackTempRead 0 (some (th 3))) State.reset (fun u => (stackGet u 0).step == 3) = true ∧
    runs (.stackTempRead 0 (some (th 3 - 1))) { hbm := { stackOf := [(0, { step := 3 })] } } (fun u => (stackGet u 0).step == 3) = true ∧
    runs (.stackTempRead 0 (some (th 3 - 31))) { hbm := { stackOf := [(0, { step := 3 })] } } (fun u => (stackGet u 0).step == 2) = true ∧
    runs (.stackTempRead 0 none) { hbm := { stackOf := [(0, { invalid := 3 })] } } (fun u => (stackGet u 0).step == 4) = true := by decide +kernel
def hrd : HbmRd := ⟨0, 0, 0, false, 0⟩
def sRd (p : Bool) : State := hbmAt [0xAB] p { sUc 0 [] [mshr .home 1] [] with hbm := { chans := [(0, { rq := [hrd] })] } }
theorem wit_hbm_read : ∀ p ∈ [false, true], let s := sRd p
    stopped s 0 = false ∧ (chanGet s 0).rq = [hrd] ∧ (chanGet s 0).wq = [] ∧ s.hbm.redirect = [] ∧ s.errs.planted = [] ∧ hrd.addr < backedBytes ∧
    chanOf (hbmPlace hrd.addr) = 0 ∧ (findMshr (sliceGet s 0).c (lineOf (globalOf s 0))).map (·.bz) = some .home ∧ (mshr .home 1).got.getLsbD 0 = false ∧
    (cellRead s 0 0).2 = p := by decide +kernel
theorem wit_hbm_stop : stopped { hbm := { stackOf := [(7, { step := 5 })] } } 7 = true := by decide +kernel
def hwr : HbmWr := ⟨0, 0, List.replicate 64 0xCD, false, 0, false, 0⟩
theorem wit_hbm_write : let s := sCh { wq := [hwr] }
    (chanGet s 0).wq = [hwr] ∧ (chanGet s 0).rq = [] ∧ hwr.data.length = 64 ∧ hwr.addr % 64 = 0 ∧ chanOf (hbmPlace hwr.addr) = 0 := by decide +kernel
theorem test_hbm :
    runs (.hbmRead 0 0 .clean) (sRd false) (fun u => ((findMshr (sliceGet u 0).c 0).map fun x => (x.got, memRead x.data 0)) == some (1, 0xAB)) = true ∧
    runs (.hbmWrite 0 0) (sCh { wq := [hwr] }) (fun u => memReadN u.hbm.cells 0 2 == [0xCD, 0xCD]) = true := by decide +kernel
theorem wit_scrub_hbm : num State.reset 0x6607 1 1 ≠ 0 ∧ num { dict := { nums := [(256 * 0x6603 + 1, 0)] } } 0x6603 1 1 ≠ 1 ∧ (cellRead State.reset 0 0).2 = false ∧ (chanGet State.reset 0).rq = [] ∧
    isOut State.reset 15 = false ∧ (34207 : Nat) < 34208 ∧ isOut { power := { oos := 0x8000 } } 15 = true := by decide +kernel
theorem wit_redirect : let p : HbmLoc := { stack := 7, ch := 31, pc := 1, bank := 15, row := 34192 }
    34192 % 2 ^ 4 = 0 ∧ (freeEntry State.reset p).isSome = true ∧ redirectsOf State.reset p = [] ∧ isOut State.reset 15 = false ∧
    freeEntry { hbm := { redirect := (List.range 64).map fun i => (64 * chanOf p + i, ⟨true, 0, 0, false, 0, i⟩) } } p = none := by decide +kernel
theorem wit_reserve : (partGet State.reset 63).st = .none ∧ (partGet { work := { parts := [(63, { st := .active })] } } 63).st ≠ .none := by decide +kernel
/-- R303: a reservation is rounded down to 10⁹ bytes/s. -/
theorem test_reserve : runs (.reserve 0 [2999999999, 0, 0, 0]) { work := { parts := [(0, { st := .active })] } } (fun u => resOf u 0 0 == 2000000000) = true := by
  decide +kernel

/-- End `e` of a Helda link. -/
def sEnd (e : Nat) (x : HeldaEnd) : State := { helda := { ends := [(e, x)] } }
theorem wit_helda_ends : ∀ st ∈ [HeldaState.off, .training, .negotiating, .active, .retrain, .down, .disabled], ∀ e ∈ [0, 1, 15],
    (endGet (sEnd e { st := st, recovering := true }) e).st = st ∧ (endGet (sEnd e { st := st, attempts := 2, expiries := 2 }) e).attempts = 2 := by decide +kernel
/-- The CAP of the far end of link 0 as R321 accepts it, and one from another agent. -/
def capOk : Cap := { srcAgent := endAgent 1, verMajor := 1, verMinor := 0, classes := 0xFF, coherence := 2, power := 3, vendor := 0, product := 0, stepping := 0,
                     features := 0, safePowerMw := 0, maxPowerMw := 0, credits := heldaCredits }
theorem wit_negotiation : capOk.srcAgent = endAgent (farEnd 0) ∧ capOk.credits = heldaCredits ∧ inStartup { power := { ready := .heldaTrain } } = true ∧
    { capOk with srcAgent := 9 }.srcAgent ≠ endAgent (farEnd 0) ∧ { capOk with verMajor := 2 }.verMajor ≠ 1 ∧
    1 ≤ sget 0 (endGet (sEnd 0 { st := .negotiating, credits := [(7, 1)] }) 0).credits 7 ∧ (⟨1, 0xFF, 2, 3⟩ : CapCommit) ≠ ⟨0, 0xFF, 2, 3⟩ := by decide +kernel
/-- R320: three modules are a failed attempt; R332: the third leads to DOWN. -/
theorem test_negotiation :
    runs (.heldaAdapterUp 0 3) (sEnd 0 { st := .training }) (fun u => (endGet u 0).attempts == 1 && (endGet u 0).st == .training) = true ∧
    runs (.heldaAdapterUp 0 7) (sEnd 0 { st := .training }) (fun u => (endGet u 0).modules == 4 && (endGet u 0).st == .negotiating) = true ∧
    runs (.heldaTrainFail 0) (sEnd 0 { st := .training, attempts := 2 }) (fun u => (endGet u 0).st == .down && (endGet u 0).reason == 2) = true := by decide +kernel
def unit0 (start : Bool) : HeldaUnit := ⟨true, start, 0, List.replicate 32 0⟩
def flit (us : List HeldaUnit) (z : Bool) : HeldaFlitData := ⟨us, 0, 0, 0, 0, z⟩
theorem wit_helda_flits : let x := endGet (sEnd 0 { st := .active, granted := [(0, 1)] }) 0
    x.st = .active ∧ x.held = [] ∧ sget [] x.partialMsg 0 = [] ∧ 0 < sget 0 x.granted 0 ∧ field (unit0 true).bytes 16 1 = 0 ∧
    sget 0 (endGet (sEnd 0 { st := .active }) 0).granted 0 = 0 ∧ otherEnd { helda := { ends := [(0, { st := .active, recovering := true }), (1, { st := .active })] } } 0 = none := by decide +kernel
theorem test_helda_flits :
    runs (.heldaFlit 0 (flit [unit0 true] true)) (sEnd 0 { st := .active, granted := [(0, 1)] }) (fun u => u.helda.delivered.length == 1) = true ∧
    runs (.heldaFlit 0 (flit [unit0 true] false)) (sEnd 0 { st := .active, granted := [(0, 1)] }) (fun u => (endGet u 0).st == .disabled && (endGet u 0).reason == 0xB) = true := by
  decide +kernel
theorem wit_link_ctl : ((linkEnds 0).any fun e => (endGet (sEnd 0 { st := .down }) e).st == .down) = true ∧
    ((linkEnds 0).any fun e => (endGet (sEnd 0 { st := .active }) e).st == .down || (endGet (sEnd 0 { st := .active }) e).st == .disabled) = false ∧
    lastPath 0 { helda := { ends := [2, 3, 10, 11].map fun e => (e, { st := .disabled }) } } = true ∧ lastPath 0 State.reset = false ∧
    ({ part := { variant := .qx4p } } : State).part.variant = .qx4p ∧ (endGet State.reset 16).st = .off := by decide +kernel
theorem wit_helda_power : (∃ e ∈ List.range 16, mgmtEnd (sEnd e { st := .active, credits := [(7, 1)] }) 8 4 = some e) ∧
    (∃ e ∈ List.range 16, mgmtEnd (sEnd e { st := .active, credits := [(7, 1)] }) 4 8 = some e) := by decide +kernel
/-- R330: the fifth period without a GRANT keeps the agent within its safe power. -/
theorem test_grant_miss :
    runs (.grantMiss 4) { helda := { agents := [(4, { missed := 4 })] } } (fun u => (agentGet u 4).safeOnly) = true ∧
    runs (.grantMiss 4) { helda := { agents := [(4, { missed := 3 })] } } (fun u => !(agentGet u 4).safeOnly) = true := by decide +kernel

/-- Carrak port 0. -/
def sPort (x : Port) : State := { carrak := { ports := [(0, x)] }, power := { rails := [(15, .inRange)] } }
/-- A CTL packet for the link agent, alone in its flit. -/
def ctlFlit (seq : Nat) : LinkFlit :=
  { seq := seq, ack := 0, ftype := 0, crBuf := 7, crCount := 0, crcOk := true
    payload := pktBytes { pkt := ⟨5, 0, 6, 0, 0, 0, 0, [], [], 0xFFFF, 0xFF, 0, false, false, 0, 0⟩, srcDev := 0, dstDev := 0, hops := 0, set := 0, deflected := false } ++
      List.replicate 216 0xFF }
theorem wit_carrak_flits : let f := ctlFlit 1023
    let x : Port := { st := .active, rxExpected := 1023, granted := [(creditKey (parsePkt f.payload), 1)] }
    f.payload.length = 248 ∧ pktBad f.payload = false ∧ field f.payload 16 1 = 0 ∧ f.payload.drop 32 = List.replicate 216 0xFF ∧
    (parsePkt f.payload).pkt.vc = 5 ∧ (parsePkt f.payload).pkt.opcode = 6 ∧ 1 ≤ sget 0 x.granted (creditKey (parsePkt f.payload)) ∧ x.rxStream = [] ∧
    f.seq = x.rxExpected ∧ (ctlFlit 0).seq ≠ x.rxExpected := by decide +kernel
theorem test_carrak_flits :
    runs (.carrakFlit 0 { ctlFlit 5 with crcOk := false }) (sPort { st := .active }) (fun u => u.carrak.out == [.nak 0 0] && sget 0 (portGet u 0).counters 2 == 1) = true ∧
    runs (.carrakFlit 0 { ctlFlit 5 with ftype := 3 }) (sPort { st := .active }) (fun u => (portGet u 0).st == .disabled) = true ∧
    runs (.nak 0 7) (sPort { st := .active, nakSeq := 7, nakCount := 7 }) (fun u => (portGet u 0).st == .retrain) = true := by decide +kernel
theorem wit_ports : (∀ st ∈ [PortState.off, .training, .hello, .active, .retrain, .down, .disabled],
      (portGet (sPort { st := st, steward := true, lanes := 8, reason := 0xA }) 0).st = st) ∧
    portGone (sPort { st := .down }) 0 = false ∧ portDark (sPort { st := .down }) 0 = false ∧ num State.reset 0x6805 2 0 = 0 ∧
    num { dict := { nums := [(256 * 0x6805 + 2, 1)] } } 0x6805 2 0 ≠ 0 := by decide +kernel
def hello1 (serial peer : Nat) : HelloFlit := ⟨1, 3, 0, 0, 0, false, true, serial, peer, []⟩
theorem wit_hello : (hello1 0 0).serial = (sPort {}).part.serial ∧ (hello1 5 0).serial ≠ (sPort {}).part.serial ∧ (hello1 5 0).peerSerial = (sPort {}).part.serial ∧
    { hello1 5 0 with version := 2 }.version ≠ 1 ∧ (hello1 5 9).peerSerial ≠ (sPort {}).part.serial := by decide +kernel
/-- R355: an echoed HELLO completes the exchange; R354: one's own serial disables the port. -/
theorem test_hello :
    runs (.hello 0 (hello1 5 0)) (sPort { st := .hello, helloSentEcho := true }) (fun u => (portGet u 0).st == .active && (portGet u 0).steward) = true ∧
    runs (.hello 0 (hello1 0 0)) (sPort { st := .hello }) (fun u => (portGet u 0).st == .disabled && (portGet u 0).reason == 4) = true ∧
    runs (.portTrained 0 4) (sPort { st := .training }) (fun u => (portGet u 0).st == .hello && (portGet u 0).lanes == 4) = true := by decide +kernel
/-- An LSA of the device with serial 9 that claims ID 3. -/
def lsa9 (seq : Nat) : LsaBody := { serial := 9, seq := seq, deviceId := 3, idState := 1, admin := false, entries := [] }
def sId (st : IdState) (mode : Nat) (l : List LsaBody) : State :=
  { carrak := { idState := st, deviceId := 3, lsas := l, stale := true }, dict := { nums := [(256 * 0x2801 + 1, mode)] } }
theorem wit_ids : (∀ st ∈ [IdState.none, .claiming, .held, .conflict], (sId st 1 []).carrak.idState = st) ∧ clashes (sId .claiming 1 []) (lsa9 1) = true ∧
    clashes (sId .claiming 1 []) { lsa9 1 with deviceId := 4 } = false ∧ beats (sId .claiming 1 []) (lsa9 1) = false ∧
    beats (sId .claiming 1 []) { lsa9 1 with idState := 2 } = true ∧ num (sId .claiming 0 []) 0x2801 1 1 = 0 ∧
    beats (sId .claiming 0 []) { lsa9 1 with idState := 2, admin := true } = true ∧ num (sId .claiming 1 []) 0x2801 1 1 ≠ 0 ∧
    ((sId .none 1 [lsa9 1]).carrak.lsas.find? fun x => x.serial == 9) = some (lsa9 1) ∧ (sId .none 1 []).carrak.routes = [] ∧
    (lsa9 1).serial ≠ (sId .none 1 []).part.serial := by decide +kernel
theorem test_ids :
    runs (.idClaim 1 3) (sId .none 1 [{ lsa9 1 with deviceId := 0 }, lsa9 1]) (fun u => u.carrak.deviceId == 1 && u.carrak.idState == .claiming) = true ∧
    runs (.lsa 0 { lsa9 1 with idState := 2, admin := true }) (sId .claiming 0 []) (fun u => u.carrak.idState == .conflict) = true ∧
    runs .claimTimer (sId .claiming 1 []) (fun u => u.carrak.idState == .held) = true := by decide +kernel
theorem wit_loss : (9 : Nat) ≠ State.reset.part.serial ∧ sfind State.reset.carrak.lossSeen (4 * 9 + 3) ≠ some 3 ∧
    (({ carrak := { lsas := [{ lsa9 1 with idState := 2 }] } } : State).carrak.lsas.find? fun x => x.serial == 9 && x.idState == 2).isSome = true ∧
    sfind ({ lossSeen := [(39, 3)] } : Carrak).lossSeen (4 * 9 + 3) = some 3 := by decide +kernel
theorem wit_unreach : let o : OnceTxn := ⟨.core 0, .core 0, 5, 2 ^ 56 * 3, .readOnce, none, 9, 1⟩
    let s : State := { uc := { once := [o] } }
    s.uc.once = [o] ∧ o.id = 9 ∧ devOf o.addr = 3 ∧ s.uc.slices = [] := by decide +kernel
theorem wit_steward : let r : StewardReq := ⟨true, 7, 0⟩
    (portGet (sPort { st := .active, peer := some ⟨9, 0, 0, 0, 0, false⟩, stewardReq := some r }) 0).stewardReq = some r ∧ r.nonce ≠ 8 ∧
    (portGet (sPort { st := .active, peer := some ⟨9, 0, 0, 0, 0, false⟩, backoff := true }) 0).backoff = true := by decide +kernel
theorem test_steward :
    runs (.stewardRsp 0 true 7) (sPort { st := .active, steward := true, stewardReq := some ⟨true, 7, 0⟩ }) (fun u => !(portGet u 0).steward) = true ∧
    runs (.stewardTake 0) (sPort { st := .active, backoff := true }) (fun u => u.dict.result == (0x23, [3, 0])) = true := by decide +kernel
def craze0 : CrazeArgs := ⟨false, 0, 0, 0, 0, 0, 0⟩
theorem wit_craze : (!(craze0.helda && !linkOk State.reset craze0.index || !craze0.helda && decide (24 ≤ craze0.index))) = true ∧
    (!craze0.helda && decide (24 ≤ ({ craze0 with index := 24 } : CrazeArgs).index)) = true ∧ crazeLocked State.reset = false ∧
    ({ askar := { sec := { lc := .deployed } } } : State).askar.sec.lc = .deployed ∧ State.reset.carrak.crazeGrant = none ∧
    ({ crazeGrant := some 1 } : Carrak).crazeGrant = some 1 := by decide +kernel
theorem test_craze :
    runs (.crazeStart craze0) { askar := { sec := { lc := .deployed } } } (fun u => u.dict.result == (0x23, [6, 0])) = true ∧
    runs (.crazeStart craze0) (sPort { st := .active }) (fun u => u.carrak.craze.isSome) = true := by decide +kernel

/-! ### Host interface and rings -/

/-- The link is up and the device is in READY (or in `r`); VF 0 drives partition 2; context 5 has this ring and state. -/
def sHost (r : ReadyState) (x : Ring) (c : Ctx) : State :=
  { power := { ready := r, rails := [(15, .inRange)] }
    host := { linkUp := true, vfEnable := true, vfMap := [(0, ⟨2, 0, 0x10000⟩)], rings := [(5, x), (32, x)]
              msix := [(2048 * fnKey .pf + 3, { masked := false, pending := true })] }
    work := { parts := [(0, { st := .active }), (2, { st := .active })], ctxs := [(5, c), (32, c)] } }
theorem wit_host_functions : let s := sHost .ready {} {}
    fnExists (.vf 63) = true ∧ s.host.linkUp = true ∧ readyCode (sHost .controlBoot {} {}).power.ready < 6 ∧ 6 ≤ readyCode (sHost .hostUp {} {}).power.ready ∧
    vectorExists .pf 1023 = true ∧ vectorExists (.vf 63) 15 = true ∧ (msixGet s .pf 3).pending = true ∧ (msixGet s .pf 3).masked = false ∧
    (sfind s.host.vfMap 0).map (·.part) = some (ctxPart 32) ∧ (ctxGet s 32).faulting = false ∧
    (ctxGet (sHost .ready {} { st := .running }) 32).st ≠ .none := by decide +kernel
/-- The reasons of VF_MAP: no such partition, one that another VF drives, an enabled ring, beyond HBM, and none. -/
theorem wit_vf_map : let s := sHost .ready { st := .enabled } {}
    (partGet s 3).st = .none ∧ (s.host.vfMap.any (fun e => e.1 != 1 && e.2.part == 2)) = true ∧
    (s.host.rings.any (fun e => ctxPart e.1 == 2 && e.2.st != .disabled)) = true ∧ backedBytes < backedBytes + 1 ∧
    ((sHost .ready {} {}).host.rings.any (fun e => ctxPart e.1 == 2 && e.2.st != .disabled)) = false := by decide +kernel
theorem test_vf_map :
    runs (.vfMap 1 2 0 0) (sHost .ready {} {}) (fun u => u.dict.result == (0x23, [2, 0])) = true ∧
    runs (.vfMap 0 64 0 0) (sHost .ready {} {}) (fun u => u.dict.result == (0, []) && (sfind u.host.vfMap 0).isNone) = true := by decide +kernel
/-- R378: Request Retry Status before HOST_UP. -/
theorem test_config : runs (.configRequest .pf true 1 1) (sHost .controlBoot {} {}) (fun u => u.host.out == [.completion .pf 0 2 []]) = true ∧
    runs (.configRequest .pf true 1 0) (sHost .hostUp {} {}) (fun u => !u.host.vfEnable) = true := by decide +kernel
theorem wit_bar0 : let s := sHost .ready {} {}
    decodes s .pf = true ∧ decodes s (.vf 0) = true ∧ (sfind s.host.vfMap 0).map (·.part) = some 2 ∧ decodes State.reset .pf = false ∧
    0x408000 + 8 ≤ 0x800000 ∧ 0x410 - 8 + 8 ≤ 0x410 := by decide +kernel
theorem test_bar0 :
    runs (.bar0Access .pf (4096 * 5 + 16) 8 none) (sHost .ready { st := .enabled, cmdHead := 9 } {}) (fun u =>
      u.host.out == [.completion .pf 0 0 (leBytes 8 (1 + 65536 * 9))]) = true ∧
    runs (.bar0Access .pf (4096 * 5) 4 none) (sHost .ready {} {}) (fun u => num u 0x2907 6 0 == 1) = true := by decide +kernel
/-- BAR2: an address that is served (with a valid home copy), and one beyond what the function reaches. -/
def sBar2 : State := { sHost .ready {} {} with uc := (sUc 0 [(0, home {})] [] []).uc }
theorem wit_bar2 : bar2Up sBar2 .pf = true ∧ (bar2Addr sBar2 .pf 0 64).2 = true ∧ (bar2Addr sBar2 .pf backedBytes 1).2 = false ∧
    (bar2Addr sBar2 (.vf 0) 0xFFC0 64).2 = true ∧ (bar2Addr sBar2 (.vf 0) 0xFFC1 64).2 = false ∧ bar2Up State.reset .pf = false ∧
    homeSlice (globalOf sBar2 0) (nearOf sBar2 0) = 0 ∧ (findWay (sliceGet sBar2 0).c 0).isSome = true ∧ sBar2.uc.sent = [] ∧ sBar2.uc.once = [] ∧
    plain sBar2 0 ⟨.host, 0, 0, nearOf sBar2 0, 0, false, 0, 0xFFFF, 0xFF, none, false⟩ = true ∧ idle sBar2 = true ∧
    plain sBar2 0 ⟨.host, 0, 0, nearOf sBar2 0, 0, false, 0, 0xFFFF, 0xFF, some ((List.replicate 64 (0xAB : Byte)).map fun b => (true, b)), false⟩ = true ∧
    dirOf sBar2 0 (nearOf sBar2 0) = none ∧ findMshr (sliceGet sBar2 0).c 0 = none := by decide +kernel
/-- R386: fetch-and-add of 5 at the home copy answers the old value. -/
theorem test_bar2 : runs (.bar2Atomic .pf 0 0 8 5 0 7) sBar2 (fun u =>
      u.uc.replies.map (fun r => (r.data, r.txn)) == [(leBytes 8 0, 7)] && (findWay (sliceGet u 0).c 0).map (fun e => memRead e.2.data 0) == some 5) = true ∧
    runs (.bar2Read .pf backedBytes 1 7) sBar2 (fun u => u.host.out == [.completion .pf 7 1 []]) = true := by decide +kernel

theorem wit_doorbells : let s := sHost .ready { st := .enabled } { st := .idle }
    doorbellsServed s = true ∧ pageOf s .pf 5 = true ∧ notOwned s .pf 5 = false ∧ notOwned s .pf 32 = true ∧ pageOf s (.vf 0) 5 = false ∧
    pageOf s (.vf 0) 32 = true ∧ (ringGet s 5).st = .enabled ∧ doorbellsServed (sHost .hostUp {} {}) = false ∧ ctxWork s 5 = false ∧
    ((63 : Int) - (ringGet s 5).cmdTail) % 2 ^ 6 ≤ (((ringGet s 5).cmdHead : Int) - 1 - (ringGet s 5).cmdTail) % 2 ^ 6 ∧
    ¬ ((1 : Int) - 1) % 2 ^ 6 > ((1 : Int) - 1 - 1) % 2 ^ 6 ∧ ¬ ((5 : Int) - (ringGet s 5).cplHead) % 2 ^ 6 ≤ (((ringGet s 5).cplTail : Int) - (ringGet s 5).cplHead) % 2 ^ 6 := by
  decide +kernel
/-- A full span: the head is 1 and the tail 0, so that nothing but 0 may be written. -/
theorem wit_tail_bad : let r : Ring := { st := .enabled, cmdHead := 1 }
    ¬ ((1 : Int) - r.cmdTail) % 2 ^ 6 ≤ ((r.cmdHead : Int) - 1 - r.cmdTail) % 2 ^ 6 ∧ ((0 : Int) - r.cmdTail) % 2 ^ 6 ≤ ((r.cmdHead : Int) - 1 - r.cmdTail) % 2 ^ 6 := by
  decide +kernel
theorem test_doorbell : runs (.cmdTail .pf 5 1) (sHost .ready { st := .enabled } { st := .idle }) (fun u => (ringGet u 5).cmdTail == 1 && (ctxGet u 5).st == .running) = true ∧
    runs (.cmdTail .pf 32 1) (sHost .ready { st := .enabled } { st := .idle }) (fun u => num u 0x2907 4 0 == 1 && (ringGet u 32).cmdTail == 0) = true := by decide +kernel
def args5 : RingArgs := ⟨5, .pf, 0, 6, 2 ^ 52, 6, 16, 0⟩
theorem wit_ring_setup : ringReason (sHost .ready {} { st := .idle }) args5 = none ∧ ringReason (sHost .ready {} {}) args5 = some 2 ∧
    ringReason (sHost .hostUp {} { st := .idle }) args5 = some 3 ∧ ringReason (sHost .ready { st := .halted } { st := .faulted }) args5 = some 4 ∧
    ringReason (sHost .ready {} { st := .idle }) { args5 with cmdBase := 1 } = some 1 ∧ (ctxGet (sHost .ready {} { st := .faulted }) 5).st = .faulted ∧
    ringReason (sHost .ready {} { st := .faulted }) args5 = none := by decide +kernel
/-- A 64-byte command: opcode and flags, then the rest. -/
def cmd (op flags : Nat) (rest : List Byte) : List Byte := slice ([BitVec.ofNat 8 op, BitVec.ofNat 8 flags, 7, 0] ++ rest) 0 64
def ring1 (b : List Byte) (st : Bool) : Ring := { st := .enabled, cmdHead := 1, cmdTail := 1, fetched := [⟨b, st, 0⟩] }
theorem wit_ring_disable : let s := sHost .ready { ring1 (cmd 4 0 []) true with fetched := [⟨cmd 4 0 [], true, 3⟩, ⟨cmd 0 0 [], false, 0⟩] } { st := .waiting }
    ctxExists s 5 = true ∧ isReady s = true ∧ (ringGet s 5).st ≠ .disabled ∧ ctxExists State.reset 5 = false ∧ isReady (sHost .hostUp {} {}) = false := by decide +kernel
theorem test_ring_disable : runs (.ringDisable 5)
    (sHost .ready { ring1 (cmd 4 0 []) true with fetched := [⟨cmd 4 0 [], true, 3⟩, ⟨cmd 0 0 [], false, 0⟩] } { st := .waiting })
    (fun u => ((ringGet u 5).done.map fun d => (d.opcode, d.status, d.detail)) == [(4, 3, 3), (0, 3, 0)] && (ctxGet u 5).st == .idle) = true := by decide +kernel
theorem wit_fetch : let s := sHost .ready { st := .enabled, cmdTail := 1 } { st := .running }
    let g := globalOf s ((ringGet s 5).cmdBase + 64 * (ringGet s 5).cmdHead)
    (ctxGet s 5).st = .running ∧ (ctxGet s 5).stop = none ∧ (ringGet s 5).cmdHead ≠ (ringGet s 5).cmdTail ∧ g % 64 = 0 ∧ accessErr s g false 5 0 = 0 ∧
    (viewSector s g).map (·.2) = some false ∧ isTileWin s g = false := by decide +kernel
def done1 : Completion := ⟨7, 1, 0x101, 0, 0, false⟩
theorem wit_completion : let s := sHost .ready { st := .enabled, done := [done1], cplTail := 62, coalesceNs := 5, coalescing := true } {}
    (ringGet s 5).done = done1 :: [] ∧ s.host.linkUp = true ∧ cplFull (ringGet s 5) = false ∧ cplFull { cplTail := 63 } = true ∧
    canInterrupt s .pf 16 = false ∧ canInterrupt s .pf 3 = true := by decide +kernel
/-- R394: the last slot of the ring is written with this lap's phase, which then turns. -/
theorem test_completion : runs (.completionWrite 5) (sHost .ready { st := .enabled, done := [done1], cplTail := 63, cplHead := 5 } {}) (fun u =>
    (ringGet u 5).cplTail == 0 && !(ringGet u 5).phase && u.host.out.length == 1) = true := by decide +kernel
theorem wit_ring_commands : let s := fun b => sHost .ready (ring1 b false) { st := .running }
    mayStart (s (cmd 0 0 [])) 5 = true ∧ mayStart (sHost .ready (ring1 (cmd 0 0 []) false) { st := .idle }) 5 = false ∧
    (∀ op ∈ [0, 2, 3, 4, 5, 6, 7], let b := cmd op 0 []
      field b 0 1 = op ∧ bits (field b 1 1) 3 5 = 0 ∧ field b 4 4 = 0 ∧ field b 8 8 % 65536 = 0 ∧ field b 9 7 = 0 ∧ field b 8 1 < 2) ∧
    bits (field (cmd 0 8 []) 1 1) 3 5 ≠ 0 ∧ field (cmd 3 0 [0, 0, 0, 0, 1]) 8 8 % 8 ≠ 0 ∧ field (cmd 5 0 [0, 0, 0, 0, 0, 1]) 9 7 ≠ 0 ∧
    2 ^ 48 ≤ field (cmd 6 0 [0, 0, 0, 0, 0, 0, 0, 0, 0, 0, 1]) 8 8 ∧ 2 ≤ field (cmd 7 0 [0, 0, 0, 0, 2]) 8 1 ∧ field (cmd 2 0 []) 24 8 = 0 := by decide +kernel
theorem test_ring_commands :
    runs (.ringNop 5) (sHost .ready (ring1 (cmd 0 0 []) false) { st := .running }) (fun u => ((ringGet u 5).done.map fun d => (d.tag, d.status)) == [(7, 0)]) = true ∧
    runs (.ringNop 5) (sHost .ready (ring1 (cmd 0 8 []) false) { st := .running }) (fun u => ((ringGet u 5).done.map fun d => (d.status, d.reason)) == [(1, 0x101)]) = true ∧
    runs (.ringNop 5) (sHost .ready (ring1 (cmd 0 2 []) false) { st := .running }) (fun u => (ringGet u 5).done.isEmpty && (ringGet u 5).fetched.isEmpty) = true := by decide +kernel
/-- A started WAIT that polls, a FLUSH_UC whose flush has ended or not, a DMA_COPY of 1 byte and of 2^40 bytes, started or not. -/
def wCopyCmd (len : List Byte) (fl : Nat) : List Byte := cmd 2 fl (List.replicate 20 0 ++ len)
theorem wit_ring_polls : let s := fun b st => sHost .ready (ring1 b st) { st := .waiting }
    (ringGet (s (cmd 4 0 []) true) 5).fetched = ⟨cmd 4 0 [], true, 0⟩ :: [] ∧ (ctxGet (s (cmd 4 0 []) true) 5).st = .waiting ∧
    (s (cmd 7 0 []) true).uc.flushing.contains (5, 0) = false ∧ ({ flushing := [(5, 0)] } : Uc).flushing.contains (5, 0) = true ∧
    copyGoes (s (wCopyCmd [1] 0) true) 5 = true ∧ field (wCopyCmd [1] 0) 24 8 = 1 ∧ field (wCopyCmd [0, 0, 0, 0, 0, 1] 0) 24 8 = 2 ^ 40 ∧
    field (wCopyCmd [1] 0) 32 1 ≤ 4 ∧ bit (field (wCopyCmd [1] 1) 1 1) 0 = true ∧ (0 : Nat) < num State.reset 0x6905 1 4 := by decide +kernel

/-! ### Host requests and CXL -/
def hreq : HostReq := ⟨3, .pf, 2 ^ 52, none, true, some (.core 0, 9, 2 ^ 52)⟩
theorem wit_host_requests : let s : State := { host := { linkUp := true, reqs := [hreq] } }
    hostReq s 3 = some hreq ∧ hreq.forWhom.isSome = true ∧ hostReq s 4 = none ∧ State.reset.host.linkUp = false ∧
    (let t : State := { host := { perstHigh := true }, power := { rails := [(15, .inRange)] } }
     t.host.linkUp = false ∧ t.host.perstHigh = true ∧ railGet t 15 = .inRange ∧ latched t 174 = false) := by decide +kernel
theorem test_host_requests :
    runs (.hostCompletion 3 0 [1, 2] false) { host := { linkUp := true, reqs := [hreq] } } (fun u => u.uc.replies.map (fun r => (r.data, r.status)) == [([1, 2], 0)] && u.host.reqs.isEmpty) = true ∧
    runs .hostLinkDown { host := { linkUp := true, reqs := [hreq] } } (fun u => u.uc.replies.map (·.status) == [8] && !u.host.linkUp) = true := by decide +kernel
/-- A proxy slice's copy of host line 2^52, in each state. -/
def sProxy (st : LineState) : State :=
  let l := lineOf (2 ^ 52)
  let w : SMap Way := [(0, { home {} with tag := l, st := st })]
  let c : Cache := match st with
    | .i => {}
    | .s | .e | .o | .m => { ways := w }
    | .miA | .eiA | .siA => { evicts := [{ line := l, near := true, st := st, sdirty := 1, spoison := 0, data := [] }] }
    | .isD | .isDI => { mshrs := [{ mshr st 1 with line := l }] }
    | _ => { ways := w, mshrs := [{ mshr st 1 with line := l }] }
  { uc := { slices := [(4, { c := c })] }, host := { linkUp := true, cxlActive := true, cxlWait := [(l, 1)] } }
theorem wit_cxl_slice : (∀ st ∈ [LineState.i, .s, .e, .o, .m, .isD, .imAD, .miA], cxlSlice (sProxy st) (2 ^ 52) = some 4) ∧ cxlSlice State.reset (2 ^ 52) = none := by decide +kernel
theorem wit_cxl_copy : ∀ st, st ≠ .home → copyAt (sProxy st) 4 (lineOf (2 ^ 52)) st := by
  intro st h
  cases st <;> first
    | exact absurd rfl h
    | exact ⟨rfl, rfl, rfl⟩
    | exact ⟨⟨_, _, rfl, rfl⟩, rfl, rfl⟩
    | exact ⟨rfl, rfl, ⟨_, rfl, rfl⟩⟩
    | exact ⟨⟨_, rfl, rfl, rfl⟩, rfl, fun j w e => by cases e <;> exact ⟨rfl, by decide, by decide⟩⟩
theorem wit_cxl_responses : let l := lineOf (2 ^ 52)
    (findEvict (sliceGet (sProxy .miA) 4).c l).isSome = true ∧ sfind (sProxy .miA).host.cxlWait l = some 1 ∧ (findMshr (sliceGet (sProxy .isD) 4).c l).isSome = true ∧
    findMshr (sliceGet (sProxy .s) 4).c l = none ∧ streamOnly { mshr .isD 1 with line := l } = false := by decide +kernel
theorem test_cxl : runs (.snpInv (2 ^ 52)) (sProxy .m) (fun u => copyState (sliceGet u 4).c (lineOf (2 ^ 52)) == .i) = true ∧
    runs (.snpCur (2 ^ 52)) (sProxy .m) (fun u => copyState (sliceGet u 4).c (lineOf (2 ^ 52)) == .m && u.host.out.length == 1) = true := by decide +kernel
/-- CXL.mem: agent 20 holds line 0 (state 2), whose home copy is at slice 0; or has asked for it, or is being back-invalidated. -/
def sMem (st : Nat) (bi : List BiSnoop) (rd : Option (Nat × Nat)) : State :=
  { sUc 0 [(0, home {})] [] [] with host := { linkUp := true, cxlActive := true, agent20 := [(0, { st := st, read := rd })], bi := bi } }
def bi0 (left : Nat) : BiSnoop := ⟨0, true, .recallI, left, 0, 0, []⟩
theorem wit_cxl_mem : hdmCovers (sMem 2 [] none) 0 = true ∧ hdmCovers State.reset 0 = false ∧ (agent20 (sMem 2 [] none) 0).st = 2 ∧
    (agent20 (sMem 0 [] (some (0, 1))) 0).read.isSome = true ∧ ((holdingHome (sMem 2 [] none) 0).map (·.1)) = some 0 ∧
    (∀ b ∈ (sMem 0 [] none).host.bi, b.line ≠ 0) ∧ (sMem 0 [] none).uc.sent = [] ∧ (sMem 0 [bi0 2] none).host.bi = [bi0 2] ∧ (bi0 2).line = 0 ∧
    plain (sMem 0 [] none) 0 ⟨.host, 0, 0, nearOf (sMem 0 [] none) 0, 0, false, 0, 0xFFFF, 0xFFF, some ((List.replicate 64 true).zip (List.replicate 64 1)), false⟩ = true := by decide +kernel
theorem test_cxl_mem : runs (.memRd 0 0 1) (sMem 2 [] none) (fun u => u.host.out.length == 1 && u.uc.sent.isEmpty) = true ∧
    runs (.biRsp 0 none) (sMem 2 [bi0 1] none) (fun u => u.host.bi.isEmpty && (agent20 u 0).st == 0 && u.uc.sent.map (·.op) == [.invAck]) = true := by decide +kernel

/-! ### Plans, kernels, Plumb, partitions and contexts -/

/-- A plan image of 384 bytes at local address 0: no dimensions, one kernel of one group block on one section (R406 to R409). -/
def image : List Byte :=
  slice (leBytes 4 0x4E414C50 ++ leBytes 2 1 ++ [1, 0] ++ leBytes 4 384 ++ leBytes 4 0 ++ leBytes 2 1 ++ [0, 1, 1, 0, 0, 0] ++ leBytes 4 1 ++ leBytes 4 64) 0 64 ++
  slice (leBytes 4 128) 0 64 ++
  slice (leBytes 8 0x1000 ++ leBytes 2 16 ++ leBytes 2 16 ++ leBytes 2 32 ++ [0, 0] ++ leBytes 12 0 ++ leBytes 2 1 ++ leBytes 2 1 ++ leBytes 4 12000 ++
    [1, 0] ++ leBytes 2 0 ++ [1] ++ leBytes 7 0 ++ [0, 64]) 0 64 ++
  slice (leBytes 4 0 ++ leBytes 4 256 ++ leBytes 4 256 ++ leBytes 4 256 ++ leBytes 4 256) 0 64 ++ List.replicate 128 0
def withImage (b : List Byte) (s : State) : State :=
  (List.range 6).foldl (fun s i => cellWrite 0 (64 * i) (slice b (64 * i) 64) false s) s
/-- Partition 0 has section 0 and context 5 in it. -/
def sPlan (c : Ctx) : State :=
  withImage image { sHost .ready {} c with work := { parts := [(0, { st := .active, sections := [0] })], ctxs := [(5, c)] } }
def plan0 : Plan := ⟨0, 384, 0, [], [0]⟩
theorem wit_plan_load : let s := sPlan { st := .idle }
    ctxExists s 5 = true ∧ (planBad s 5 31 0 0).isNone = true ∧ localPoison s 0 (planHdr (imgRead s 0)).bytes = false ∧ (planHdr (imgRead s 0)).groups = 0 ∧
    runs (.planLoad 5 31 0 0) s (fun u => sfind (ctxGet u 5).plans 31 == some plan0 && u.dict.result == (0, [])) = true := by decide +kernel
theorem wit_plan_reasons : let s := sPlan { st := .idle }
    (planBad s 5 0 backedBytes 0).map (·.reason) = some 4 ∧ (planBad s 5 0 1024 0).map (·.reason) = some 1 ∧ (planHdr (imgRead s 1024)).magic ≠ 0x4E414C50 ∧
    backedBytes < backedBytes - 63 + 64 ∧ (planBad s 5 0 0 1).map (·.reason) = some 7 ∧ ctxExists State.reset 5 = false ∧ 0 + 64 ≤ backedBytes ∧ 1024 % 4096 ≠ 0 := by decide +kernel
theorem wit_plan_unload : let l : Launch := ⟨3, none, 0, [], 0, [], [], 0, 0, true, []⟩
    sfind (ctxGet (sPlan { st := .idle }) 5).plans 3 = none ∧ (sfind (ctxGet (sPlan { st := .idle, plans := [(3, plan0)] }) 5).plans 3).isSome = true ∧
    (ctxGet (sPlan { st := .running, plans := [(3, plan0)], launch := some l }) 5).launch = some l ∧ l.slot = 3 := by decide +kernel
/-- A LAUNCH of slot 0, of 32, and with a Reserved bit. -/
def launchCmd (slot flags : Nat) : List Byte := cmd 1 0 ([0, 0, 0, 0] ++ leBytes 4 slot ++ leBytes 4 flags)
def sLaunch (b : List Byte) (plans : SMap Plan) : State :=
  { sPlan { st := .running, plans := plans } with host := { linkUp := true, rings := [(5, ring1 b false)] } }
theorem wit_launch : let s := sLaunch (launchCmd 0 0) [(0, plan0)]
    mayStart s 5 = true ∧ (ringGet s 5).fetched = ⟨launchCmd 0 0, false, 0⟩ :: [] ∧ field (launchCmd 0 0) 0 1 = 1 ∧ launchReserved (launchCmd 0 0) = false ∧
    launchReserved (launchCmd 0 0x80000000) = true ∧ (launchArgs (launchCmd 32 0)).slot = 32 ∧ sfind (ctxGet (sLaunch [] []) 5).plans 0 = none ∧
    (planHdr (imgRead s 0)).dims = 0 ∧ launchReason s 5 (launchCmd 0 0) = 0 := by decide +kernel
theorem test_launch :
    runs (.launch 5) (sLaunch (launchCmd 0 0) []) (fun u => ((ringGet u 5).done.map fun d => (d.status, d.reason)) == [(1, 0x20)]) = true ∧
    runs (.launch 5) (sLaunch (launchCmd 32 0) []) (fun u => ((ringGet u 5).done.map fun d => (d.status, d.reason)) == [(1, 0x102)]) = true := by decide +kernel
def launch0 (running : Bool) : Launch := ⟨0, none, 0, [], 0x40, [], [⟨0, [], []⟩], 0, 0, running, []⟩
def sKernel (running : Bool) (cores : SMap Core) : State :=
  { sPlan { st := .running, plans := [(0, plan0)], launch := some (launch0 running) } with cores := cores }
theorem wit_kernel : let s := sKernel false []
    let k := (launchKernel s 5).map fun e => (e.1, e.2.1.kernels, e.2.2.gbCount, e.2.2.layout.take 1, e.2.2.windows)
    k = some (plan0, 1, 1, [1], 0) ∧ (ctxGet s 5).st = .running ∧ (ctxGet s 5).stop = none ∧ (launch0 false).invs[(launch0 false).inv]? = some ⟨0, [], []⟩ ∧
    (footCores plan0 (planHdr (imgRead s 0))).Nodup ∧ (planHdr (imgRead s 0)).cores = 32 := by decide +kernel
theorem wit_kernel_end : let busy := sKernel true [(0, { slots := [(0, { slot with ctx := 5 })] })]
    let dirty := sKernel true [(0, { l1d := [(0, { line with dirty := 1 })] })]
    kernelEnded busy 5 [0] = false ∧ kernelEnded (sKernel true []) 5 [0] = true ∧ footDirty dirty [0] = true ∧ footDirty (sKernel true []) [0] = false ∧
    kernelQuiet (sKernel true []) 5 (launch0 true) [0] = true ∧ kernelQuiet (sKernel true [(0, { landing := [⟨0, [], false⟩] })]) 5 (launch0 true) [0] = false := by decide +kernel
/-- R413, R105: the thread group starts at the kernel's entry with all lanes active. -/
theorem test_kernel : runs (.kernelStart 5) (sKernel false []) (fun u =>
    (slotAt u 0 0).st == .loaded && (slotAt u 0 0).pc == 0x1000 && sRead (slotAt u 0 0) 1 == 0x40 && (slotAt u 103 0).ctx == 5) = true := by decide +kernel
theorem wit_windows_none : winView State.reset 5 0 = none := rfl
/-- R428: 10 by buckets of 4 is 4, 4 and 2. -/
theorem test_split : (splitList { off := 64, count := 1, flags := 1, sizes := [4, 0, 0, 0, 0, 0, 0, 0], res2 := 0, res36 := 0 } 10) =
    [(0, 4, 0), (0, 4, 4), (0, 2, 8)] := by decide +kernel

/-- Core 0 with a share of array 0; its slot is of context 1 (partition 0). -/
def sPlb (share : Nat) (q : List PlbDesc) (ps : List PlbProblem) (t : SMap Ticket) : State :=
  { s0 with work := { parts := [(0, { st := .active, running := some 1 })], arrays := [(0, { queue := q, problems := ps, share := [(0, share)] })], ctxs := [(1, { st := .running, tickets := t })] } }
def desc1 (started : Bool) : PlbDesc := ⟨1, 0, 0, 0, 0, [], started, false, 0, 0, 0⟩
theorem wit_plumb_issue : let w := ctl 8 0 4 1 3 0 0
    canIssue (sPlb 1 [] [] []) 0 0 w 4 true ∧ okCtl 1 w = true ∧ iA w < 32 ∧ isOp w 5 8 none = true ∧ isOp (ctl 9 0 4 1 3 0 0) 5 9 none = true ∧
    sget 0 (arrayGet (sPlb 1 [] [] []) 0).share (ctxPart 1) = 1 ∧ sget 0 (arrayGet (sPlb 0 [] [] []) 0).share (ctxPart 1) = 0 ∧
    ((arrayGet (sPlb 1 (List.replicate 32 (desc1 true)) [] []) 0).queue.filter fun d => !d.suspended).length = 32 ∧
    (∀ e, e < 32 → (sfind ((List.range 32).map fun e => (e, (⟨0, 1, 0, 0⟩ : Ticket))) e).isSome = true) ∧ ticketFinal 1 = false := by delta canIssue; decide +kernel
theorem test_plumb_issue : runs (.plbIssue 0 0 (ctl 8 0 4 1 3 0 0)) (sPlb 1 [] [] []) (fun u => (arrayGet u 0).queue.length == 1) = true ∧
    runs (.plbIssue 0 0 (ctl 8 0 4 1 3 0 0)) (sPlb 0 [] [] []) (fun u => ((slotAt u 0 0).exc.map (·.code)) == some 0xB) = true := by decide +kernel
theorem wit_plumb_start : let s := sPlb 1 [desc1 false] [] []
    (arrayGet s 0).queue[0]? = some (desc1 false) ∧ plbMayRun s 0 (desc1 false) = true ∧ plbBusy s 0 0 < plbShare s 0 0 ∧
    plbMayRun { s with work := { s.work with ctxs := [] } } 0 (desc1 false) = false ∧ ¬ plbBusy (sPlb 0 [] [] []) 0 0 < plbShare (sPlb 0 [] [] []) 0 0 ∧
    plbReason 0 (List.replicate 128 0) ≠ 0 := by decide +kernel
def prob : PlbProblem := ⟨some 63, 0, 1, 0, 0, 0, [], [], false⟩
theorem wit_plumb_step : let s := sPlb 1 [desc1 true] [prob] []
    ((arrayGet s 0).problems.find? fun q => q.lane == some 63) = some prob ∧ ((arrayGet s 0).queue.find? fun d => d.ctx == 1 && d.seq == 0) = some (desc1 true) ∧
    plbMayRun s 0 (desc1 true) = true ∧ (∀ q ∈ (arrayGet s 0).problems, q.lane ≠ some 0) ∧ (arrayGet (sPlb 1 [] [] []) 0).queue = [] := by decide +kernel
theorem test_plumb_share : runs (.plbShare 0 [64, 65, 0, 0]) (sPlb 0 [] [] []) (fun u => plbShare u 0 0 == 64 && plbShare u 1 0 == 64) = true := by decide +kernel

/-- Partition 1 with sections 0 and 1, its context 16 in state `c`. -/
def sPart (x : Partition) (c : Ctx) : State := { work := { parts := [(1, x)], ctxs := [(16, c)] } }
def part1 : Partition := { st := .active, sections := [0, 1] }
theorem wit_partitions : let s := sPart part1 { st := .idle }
    (partGet s 1).st ≠ .none ∧ (partGet s 2).st = .none ∧ sectionPart s 0 = some 1 ∧ isOut { power := { oos := 8 } } (143 / 36) = true ∧ partCtxs s 1 = [16] ∧
    partCtxs { work := { parts := [(1, part1)] } } 1 = [] ∧ (ctxGet s 16).desc.saveBytes < 65536 + 23756800 * 3 := by decide +kernel
theorem test_partitions :
    runs (.partCreate 2 [1]) (sPart part1 { st := .idle }) (fun u => u.dict.result == (0x23, [3, 0])) = true ∧
    runs (.partCreate 2 [143]) (sPart part1 { st := .idle }) (fun u => (partGet u 2).sections == [143] && (partGet u 2).st == .active) = true ∧
    runs (.partCreate 2 []) (sPart part1 { st := .idle }) (fun u => u.dict.result == (0x23, [4, 0])) = true := by decide +kernel
/-- A context descriptor that is accepted, with the area for two sections. -/
def descOk : List Byte := slice (leBytes 32 0 ++ leBytes 8 (65536 + 23756800 * 2)) 0 64
theorem wit_contexts : let s := sPart part1 {}
    (partGet s 1).st ≠ .none ∧ (ctxGet s 17).st = .none ∧ descBad (List.replicate 64 0xFF) = true ∧ (ctxGet (sPart part1 { st := .idle }) 16).st ≠ .none ∧
    ctxHolds (sPart { part1 with running := some 16 } { st := .running }) 16 = true ∧ ctxHolds (sPart part1 { st := .idle }) 16 = false := by decide +kernel
theorem test_contexts : runs (.ctxDestroy 16) (sPart part1 { st := .idle }) (fun u => (ctxGet u 16).st == .none && u.dict.result == (0, [])) = true ∧
    runs (.setPriority 16 7) (sPart part1 { st := .idle }) (fun u => (ctxGet u 16).prio == 7) = true ∧
    runs (.urgentStop 17) (sPart part1 { st := .idle }) (fun u => u.dict.result == (0x23, [4, 0])) = true := by decide +kernel
theorem wit_retain_idle : let s := sPart part1 { st := .idle }
    (partGet s 1).retainIdleUs ≠ 0 ∧ (∀ c ∈ partCtxs s 1, (ctxGet s c).st = .idle) ∧ (∀ y ∈ [0, 1], s.ret.get y = .active ∧ sectionIdle s y = true) := by decide +kernel
theorem wit_switching : (∀ k ∈ [StopKind.tile, .instruction, .contextOnly, .urgent], (ctxGet (sPart part1 { st := .stopping, stop := some k }) 16).stop = some k) ∧
    ((ctxGet (sPart part1 { st := .running, launch := some (launch0 true) }) 16).launch.map (·.running)).getD false = true ∧
    (let s : State := { work := { parts := [(1, { part1 with running := some 16 })], ctxs := [(16, { st := .running }), (17, { st := .ready })] } }
     (partGet s 1).running = some 16 ∧ 17 / 16 = 1 ∧ (ctxGet s 17).st = .ready ∧ (partGet s 1).policy = 0 ∧ (ctxGet s 16).prio ≤ (ctxGet s 17).prio) := by decide +kernel
theorem wit_save : let s := sPart { part1 with running := some 16, sections := [] } { st := .stopping, stop := some .contextOnly }
    (ctxGet s 16).st = .stopping ∧ ctxHolds s 16 = true ∧ saveReady s 16 = true ∧
    (let t := sPart { part1 with running := some 16, sections := [] } { st := .ready, restoring := true }
     (ctxGet t 16).restoring = true ∧ ctxHolds t 16 = true ∧ sectionsActive t 1 = true) := by decide +kernel
theorem test_preempt : runs (.ctxPreempt 16) (sPart { part1 with running := some 16 } { st := .running }) (fun u => (ctxGet u 16).stop == some .contextOnly) = true ∧
    runs (.contextFault 16 2 0 0 0 0 7 8) (sPart part1 { st := .running }) (fun u => (ctxGet u 16).fault.cause == 2 && (ctxGet u 16).stop == some .urgent) = true ∧
    runs (.contextFault 16 2 0 0 0 0 7 8) (sPart part1 { st := .faulted }) (fun u => (ctxGet u 16).fault.suppressed == 1) = true := by decide +kernel
theorem wit_fault_causes : (1 : Nat) ≤ 0xB ∧ (0xB : Nat) ≤ 0xB ∧ (ctxGet (sPart part1 { st := .faulted }) 16).st = .faulted ∧
    (ctxGet (sPart part1 { st := .stopping, faulting := true }) 16).faulting = true := by decide +kernel

/-! ### Askar, power, start-up and errors -/

theorem wit_askar : let s := State.reset
    let t : State := { askar := { log := [⟨7, 1, ⟨1, 1, 0, 0xFFFF, 0xFF, 0xFF, []⟩⟩], temps := [(3, 750), (130, 960)], run := .serving, wms := [(0, { due := true })] } }
    s.part.variant = .qx4 ∧ 175 ≠ (0 : Nat) ∧ s.uc.reqCount = [] ∧ s.askar.flash.length + s.askar.toFlash.length ≤ 521216 ∧ (wmGet s 0).due = false ∧
    (wmGet t 0).due = true ∧ hottest t = some 960 ∧ s.askar.run ≠ .serving ∧ t.askar.log = [] ++ ⟨7, 1, ⟨1, 1, 0, 0xFFFF, 0xFF, 0xFF, []⟩⟩ :: [] ∧
    hottest { askar := { run := .serving } } = none := by decide +kernel
/-- R504: at 75.0 °C, half way from 60.0 to 90.0, the duty is half way from 30 % to 100 %. -/
theorem test_fan : runs .fanUpdate { askar := { run := .serving, temps := [(0, 750)] } } (fun u => u.askar.fanDuty == 6500) = true := by decide +kernel
/-- R491: samples of 4 and 8 W average 6 W. -/
theorem test_power_report : (pushSample 8000 (pushSample 4000 {})).report.avg1ms = 6000 ∧ (pushSample 8000 (pushSample 4000 {})).report.peak100us = 6000 := by decide +kernel
theorem wit_power_report : ({} : PwrEntity).samples.length < 6100000 ∧ (10 : Nat) ≤ ((8 : Nat) :: List.replicate 9 4).length := by decide +kernel

/-- Firmware in each state; two watchdog restarts within 60 s. -/
def sFw (f : FwState) (dogs : List Nat) (tried : Bool) : State :=
  { askar := { run := .serving, timeNs := 1000, fw := { st := f, slotB := [1, 2] }, watchdogs := dogs, otherTried := tried }, power := { ready := .hostUp } }
theorem wit_firmware : let s := sFw .staged [999, 998] false
    s.askar.fw.active < 2 ∧ fwSlot s.askar.fw 1 = [1, 2] ∧ 2 + 3 ≤ 16777216 ∧ imageReason s.part 0 [1, 2] = 1 ∧
    3 ≤ ((time s :: s.askar.watchdogs).filter fun t => decide (time s < t + 60000000000)).length ∧
    ((time (sFw .idle [] true) :: []).filter fun t => decide (time s < t + 60000000000)).length < 3 ∧ 2 ≤ readyCode s.power.ready ∧
    readyCode State.reset.power.ready ≤ 1 ∧ State.reset.askar.run = .restarting := by decide +kernel
theorem test_firmware :
    runs (.fwImage 2 [3] true) (sFw .idle [] false) (fun u => u.askar.fw.st == .staged && u.askar.fw.slotB == [1, 2, 3]) = true ∧
    runs .fwVerify (sFw .staged [] false) (fun u => u.dict.result == (0x23, [1, 0]) && u.askar.fw.st == .staged) = true ∧
    runs .fwActivate (sFw .idle [] false) (fun u => u.dict.result == (0x23, [5, 0])) = true ∧
    runs .fwAbort (sFw .trial [] false) (fun u => u.askar.fw.st == .idle && u.askar.fw.reason == 4) = true := by decide +kernel
theorem test_watchdog :
    runs .watchdog (sFw .idle [999, 998] false) (fun u => u.askar.fw.running == 1 && u.askar.run == .restarting) = true ∧
    runs .watchdog (sFw .idle [999, 998] true) (fun u => u.askar.run == .recovery && u.power.ready == .failed) = true := by decide +kernel

/-- A record signed by ROOT for object 0x2E03.3: a public key of 96 zero bytes. -/
def record : List Byte :=
  slice (leBytes 4 0x56525050 ++ leBytes 2 1 ++ [3, 0] ++ leBytes 8 5 ++ leBytes 32 9 ++ leBytes 2 0x2E03 ++ [3, 0] ++ leBytes 4 96) 0 384
def sKeys (lc : LcState) : State :=
  { part := { serial := 5 }, askar := { sec := { lc := lc, nonce := some { value := leBytes 32 9, issuedAt := 0 }, owner := some record } } }
/-- A record of this form is accepted wherever its signature verifies. -/
theorem wit_record (h : ∀ d g, Config.rootVerify 0 d g = true) : provCheck (sKeys .blank) record 3 0x2E03 3 = some (List.replicate 96 0) := by
  have hf : recordForm (sKeys .blank) record 3 0x2E03 3 = true := by decide +kernel
  have hn : nonceGood (sKeys .blank) (sKeys .blank).askar.sec.nonce = true := by decide +kernel
  have hv : ((sKeys .blank).askar.sec.nonce.map (·.value) == some (slice record 16 32)) = true := by decide +kernel
  have hr : field record 7 1 = 0 := by decide +kernel
  have hs : signerOk (sKeys .blank).askar.sec.lc 3 0 (List.replicate 96 0) = true := by decide +kernel
  have hp : recordPayload record = some (List.replicate 96 0) := by
    have e : field record 51 1 = 0 := by decide +kernel
    have g : slice record 192 (field record 52 4) = List.replicate 96 0 := by decide +kernel
    simp [recordPayload, e, g]
  generalize List.replicate 96 (0 : Byte) = p at hs hp ⊢
  have hw : Config.rootVerify (sKeys .blank).part.rootHash (Config.sha384 (signedPart record)) (signatureOf record) = true := h _ _
  simp [provCheck, hp, hf, hn, hv, hr, roleVerify, hw, hs]
theorem wit_transitions : lcSigners .blank .provisioned ≠ [] ∧ lcSigners .blank .deployed = [] ∧ leBytes 1 (lcCode .rma) = [4] ∧
    (sKeys .blank).askar.sec.entriesLeft = 64 := by decide +kernel
theorem test_provisioning :
    runs (.keyUpdate record) { sKeys .blank with part := { serial := 6 } } (fun u => u.dict.result == (0x24, [])) = true ∧
    runs (.sealWrite 0 record) (sKeys .deployed) (fun u => u.dict.result == (0x24, [])) = true ∧
    runs (.lcRequest []) State.reset (fun u => u.dict.result == (0x24, [])) = true := by decide +kernel
theorem wit_tamper : (((List.range 4).filter fun b => (8 : Nat).testBit b && !(num State.reset 0x6E00 1 0).testBit b) = [3]) ∧
    num State.reset 0x6E00 2 0 ≠ 1 ∧ (let s : State := { dict := { nums := [(256 * 0x6E00 + 2, 1)] }, work := { ctxs := [(5, { st := .running })] } }
      num s 0x6E00 2 0 = 1 ∧ (ctxGet s 5).st ≠ .none ∧ (ctxGet s 5).st ≠ .faulted ∧ (ctxGet s 5).faulting = false ∧ (s.work.ctxs.any (·.1 == 5)) = true) := by decide +kernel
theorem test_tamper : runs .tamperLoopOpen { askar := { sec := { sealed := [(0, [1])] } } } (fun u => u.askar.sec.sealed == [] && u.askar.sec.tamperCount == 1) = true ∧
    stays (.tamperEvent 4) { dict := { nums := [(256 * 0x6E00 + 1, 4)] } } = true := by decide +kernel
theorem wit_attest : State.reset.askar.sec.lc ≠ .decommissioned ∧ (leBytes 32 7).length = 32 ∧ State.reset.askar.sec.attestBusy = false ∧
    (let s : State := { askar := { sec := { attestBusy := true, challenge := leBytes 32 7 } } }
     s.askar.sec.attestBusy = true ∧ s.askar.sec.challenge.length = 32 ∧ s.part.serial < 2 ^ 64 ∧ s.askar.sec.tamperCount < 2 ^ 32) := by decide +kernel
theorem wit_boots : State.reset.power.ready ≠ .askarBoot ∧ State.reset.askar.fw.flashOk = true ∧ imageReason {} 0 [] = 1 := by decide +kernel
/-- A slot is valid wherever its signature verifies and its form is right (R506). -/
theorem wit_image (h : ∀ d g, Config.rootVerify 0 d g = true) : ∃ img, imageReason {} 0 img = 0 := by
  let img := slice (leBytes 4 0x49414B53 ++ leBytes 2 1 ++ [1, 0] ++ leBytes 4 1 ++ leBytes 4 256 ++ [1, 0, 0, 0] ++ leBytes 4 160) 0 256
  refine ⟨img, ?_⟩
  have hl : decide (256 ≤ img.length) = true := by decide +kernel
  have hf : imageFormOk img = true := by decide +kernel
  have hw : ∀ d g, Config.rootVerify (0#384) d g = true := h
  simp [imageReason, imageSigOk, hl, hf, hw]
/-- R551: no valid image, flash that is not supported, and DECOMMISSIONED. -/
theorem test_boot : let s := fun (f : Firmware) (lc : LcState) => ({ power := { ready := .askarBoot }, askar := { fw := f, sec := { lc := lc } } } : State)
    runs .askarBoot (s {} .blank) (fun u => u.power.ready == .failed && u.power.readyReason == 1 && u.askar.run == .recovery) = true ∧
    runs .askarBoot (s { flashOk := false } .blank) (fun u => u.power.readyReason == 2) = true ∧
    runs .askarBoot (s {} .decommissioned) (fun u => u.power.readyReason == 3) = true := by decide +kernel

/-- All rails in range. -/
def railsUp : SMap RailState := (List.range 16).map fun r => (r, .inRange)
def sDom (d : Nat) (x : Domain) : State := { power := { rails := railsUp, domains := [(d, x)] } }
theorem wit_rails : railGet State.reset 15 ≠ .inRange ∧ (∀ r ∈ [0, 7, 8, 11, 12, 14, 15], railGet (sDom 0 {}) r = .inRange) ∧
    State.reset.helda.lost.contains 0 = false ∧ State.reset.host.linkUp = false := by decide +kernel
theorem test_rails : runs (.railOutOfRange 0) (sDom 0 {}) (fun u => isOut u 0 && railGet u 0 == .fault) = true ∧
    runs (.railOutOfRange 12) (sDom 0 {}) (fun u => u.power.ready == .failed && u.power.readyReason == 4) = true := by decide +kernel
theorem wit_domains : domExists State.reset 174 = true ∧ domExists State.reset 175 = false ∧ (railDomains (sDom 0 {}) 0).length = 36 ∧
    (domGet (sDom 5 { st := .queued }) 5).st = .queued ∧ inRamp (domGet (sDom 5 { st := .paused }) 5) = true ∧ railGet (sDom 5 { st := .queued }) 0 = .inRange ∧
    0 ∈ railDomains (sDom 5 {}) 0 ∧ rampRail 143 = 3 ∧ latched (sDom 5 { st := .latchedSlow }) 5 = true ∧
    (∀ y ∈ railDomains (sDom 5 { st := .queued }) 0, inRamp (domGet (sDom 5 { st := .queued }) y) = false ∧ (domGet (sDom 5 { st := .queued }) y).detecting = false) ∧
    (∀ y ∈ railDomains (sDom 5 { st := .queued }) 0, (domGet (sDom 5 { st := .queued }) y).st = .queued → 5 ≤ y) := by decide +kernel
theorem test_domains :
    runs (.rampStart 0) (sDom 5 { st := .queued }) (fun u => (domGet u 5).st == .ramping) = true ∧
    runs (.rampDone 5) (sDom 5 { st := .ramping, gateAfter := true }) (fun u => (domGet u 5).st == .off) = true ∧
    runs (.shortDetect 5) (sDom 5 { st := .ramping }) (fun u => domGet u 5 == { st := .paused, detecting := true }) = true ∧
    runs (.shortConfirm 143) (sDom 143 { st := .on, detecting := true }) (fun u => (domGet u 143).st == .latchedShort && isOut u 3) = true := by decide +kernel
theorem test_latches : (∀ d ∈ [(144, 4), (147, 8), (148, 9), (171, 7)], runs (.latchedSlow d.1) (sDom d.1 { st := .ramping }) (fun u => isOut u d.2) = true) ∧
    runs (.latchedSlow 173) (sDom 173 { st := .ramping }) (fun u => u.power.ccOut == [8, 9, 10, 11, 12, 13, 14, 15]) = true ∧
    runs (.domainClear 175) State.reset (fun u => u.dict.result == (0x23, [2, 0])) = true ∧
    runs (.domainClear 174) State.reset (fun u => u.dict.result == (0x23, [1, 0])) = true := by decide +kernel
theorem wit_arbiter : let s := State.reset
    pBudget s ≤ pPeak s ∧ ((powerAgents s).map (agentSafe s)).sum ≤ pBudget s ∧ ∀ a ∈ powerAgents s, agentSafe s a ≤ agentMax s a := by decide +kernel
/-- R537: a period at 2,000 W takes 40 mJ (400 W over 100 µs) from the store; one at 1,000 W leaves the store full. -/
theorem test_arbiter : runs (.arbiterPeriod 2000000) State.reset (fun u => u.power.store == 5000000000 - 40000000 && u.power.grants.length == 5) = true ∧
    runs (.arbiterPeriod 1000000) State.reset (fun u => u.power.store == 5000000000) = true := by decide +kernel
/-- The temperature of B-die 0 and the throttle level. -/
def sHot (t : Int) (l : Nat) : State := { power := { cdie := [(0, { vtLevel := l, clamp := true })] }, askar := { run := .serving, temps := [(128, t)] } }
theorem wit_clamps : (cdieGet (sHot 0 0) 0).clamp = true ∧ (cdieGet (sHot 0 0) 1).clamp = false ∧ keysRise (sHot 0 0).power.cdie = true ∧
    (∀ e ∈ (sHot 0 0).power.cdie, e.1 ≠ 0 → e.2.clamp = false) ∧ (sHot 0 0).power.tripped = false ∧ (sHot 0 0).power.ccClamp = false ∧
    (((sHot 990 2).askar.temps.filter fun e => decide (128 ≤ e.1) && (e.1 - 128) / 16 == 0).map (·.2)).max? = some 990 ∧
    num (sHot 0 0) 0x2F03 3 950 = 950 ∧ num (sHot 0 0) 0x2F03 4 1000 = 1000 ∧ num (sHot 0 0) 0x2F03 5 30 = 30 := by decide +kernel
/-- R542: 99.0 °C keeps level 2 and starts level 1; 96.9 °C leaves level 2 for level 1; 91.9 °C leaves level 1. -/
theorem test_vertical_throttle : (∀ t ∈ [((990 : Int), 2, 2), (990, 0, 1), (969, 2, 1), (970, 2, 2), (920, 1, 1), (919, 1, 0), (1000, 0, 2), (949, 0, 0)],
      runs (.vtLevelChange 0) (sHot t.1 t.2.1) (fun u => (cdieGet u 0).vtLevel == t.2.2) = true) ∧
    runs (.clampRelease 0) (sHot 0 0) (fun u => !u.power.pins.throttleReq) = true ∧ runs (.clampSet 4) (sHot 0 0) (fun u => u.power.pins.throttleReq) = true := by decide +kernel
theorem wit_clocks : State.reset.power.tripped = false ∧ islandExists State.reset (.core 4607) = true ∧ islandExists State.reset (.helda 7) = true ∧
    State.reset.helda.lost.contains 3 = false ∧ State.reset.power.refclk = true ∧ (portGet { carrak := { ports := [(23, { st := .active })] } } 23).st = .active ∧
    (endGet { helda := { ends := [(15, { st := .active })] } } 15).st = .active ∧ 15 / 2 = 7 := by decide +kernel
theorem test_trip : runs (.thermalTrip 223) { sDom 5 { st := .on } with hbm := { cells := [(0, 1)] } } (fun u => u.hbm.cells == [] && (domGet u 5).st == .off &&
      u.power.readyReason == 7 && u.power.tripCount == 1) = true ∧
    runs (.pllUnlock (.core 7)) State.reset (fun u => u.power.coreStopped == [7]) = true ∧
    runs .refclkLost { power := { refclk := false } } (fun u => u.power.readyReason == 5) = true := by decide +kernel

/-! ### Resets and start-up -/

theorem wit_resets : (7 : Nat) < 8 ∧ (15 : Nat) < 16 ∧ State.reset.work.ctxs = [] ∧ keysRise (sDom 0 {}).power.rails = true ∧ State.reset.host.perstHigh = false := by decide +kernel
theorem test_resets :
    runs (.packageReset 7 15 true) { sDom 5 { st := .on } with askar := { timeNs := 77, sec := { sealed := [(0, [1])], tamperStop := true } } } (fun u =>
      u.askar.timeNs == 77 && u.askar.sec.sealed == [(0, [1])] && !u.askar.sec.tamperStop && u.power.ready == .askarBoot && u.power.nodeId == 7 && (domGet u 5).st == .off) = true ∧
    runs (.powerOn 0 0 false) { askar := { timeNs := 77, sec := { sealed := [(0, [1])] }, fw := { rollback := 3 } } } (fun u =>
      u.askar.timeNs == 0 && u.askar.sec.sealed == [] && u.askar.fw.rollback == 3) = true := by decide +kernel
theorem wit_die_reset : (∃ e ∈ (sPart part1 {}).work.parts, e.2.st ≠ .none ∧ ∃ x ∈ e.2.sections, x / 36 = 0) ∧ (homeGet { uc := { homes := [(0, { st := .offline })] } } 0).st = .offline ∧
    (homeGet State.reset 3).st ≠ .offline ∧ featuresOk State.reset 3 = true := by decide +kernel
theorem test_die_reset :
    runs (.dieReset 4 true) (sPart part1 {}) (fun u => u.dict.result == (0x23, [1, 0])) = true ∧
    runs (.dieReset 3 true) State.reset (fun u => u.dict.result == (0x23, [2, 0])) = true ∧
    runs (.dieReset 7 true) { power := { oos := 0x88 }, hbm := { cells := [(0, 1)] } } (fun u => u.power.oos == 0x80 && u.hbm.cells == [(0, 1)]) = true := by decide +kernel
/-- A stage of start-up, with all rails up and these domains. -/
def sStage (r : ReadyState) (f : Nat → Domain) : State := { power := { ready := r, rails := railsUp, domains := (List.range 175).map fun d => (d, f d) } }
theorem wit_stages : let s := sStage .powerUp (fun _ => { st := .on })
    let q := sStage .powerUp (fun d => { st := if d = 0 then .ramping else .on })
    railMissing s = false ∧ tooHot s = false ∧ railMissing State.reset = true ∧ tooHot { askar := { temps := [(0, 1050)] } } = true ∧
    (∀ d ∈ allDomains (sStage .powerUp (fun _ => {})), (domGet (sStage .powerUp (fun _ => {})) d).st = .off) ∧
    (∀ d ∈ allDomains s, (domGet s d).st ≠ .queued ∧ inRamp (domGet s d) = false) ∧ (∃ d ∈ allDomains s, (domGet s d).st ≠ .off) ∧
    (∃ d ∈ allDomains q, (domGet q d).st = .queued ∨ inRamp (domGet q d) = true) := by decide +kernel
theorem wit_stages2 : endOk State.reset 0 = true ∧ lostDies { power := { ready := .controlBoot }, helda := { ends := (List.range 16).map fun e => (e, { st := .active }) } } = [] ∧
    portGone State.reset 23 = false ∧ portDark (sStage .controlBoot (fun _ => { st := .on })) 23 = false ∧
    (∀ n, n < 4 → isOut { power := { oos := 0xF } } n = true) ∧ latched (sStage .hostUp (fun _ => { st := .latchedSlow })) 174 = true ∧ State.reset.power.oos = 0 ∧
    latched State.reset 174 = false ∧ 1 ≤ readyCode .hostUp ∧ readyCode .hostUp ≤ 6 ∧ 7 ≤ readyCode .ready := by decide +kernel
theorem test_stages :
    runs .powerUp (sStage .powerUp (fun _ => { st := .on })) (fun u => u.power.ready == .hbmTrain) = true ∧
    runs (.hbmTrain [7]) (sStage .hbmTrain (fun _ => { st := .on })) (fun u => isOut u 15 && u.power.ready == .heldaTrain) = true ∧
    runs .controlBoot (sStage .controlBoot (fun _ => { st := .on })) (fun u => u.power.pins.pwrGood && (portGet u 0).st == .training) = true ∧
    runs .startupEnd (sStage .hostUp (fun _ => { st := .on })) (fun u => u.power.ready == .ready) = true ∧
    runs .stageTimeout (sStage .heldaTrain (fun _ => {})) (fun u => u.power.ready == .failed && u.power.readyReason == 0x104) = true := by decide +kernel
theorem wit_injection : let s := State.reset
    (∀ a ∈ eiTargets 1 0x1C7F 255, eiTarget s 1 a = true) ∧ (∃ a ∈ eiTargets 1 0xFFFF 1, eiTarget s 1 a = false) ∧ kindListed 3 2 = false ∧ kindListed 3 3 = true ∧
    kindListed 5 1 = true ∧ (∀ a ∈ eiTargets 4 0 2, eiTarget s 4 a = true) ∧ s.hbm.redirect = [] ∧ s.askar.sec.lc = .blank := by decide +kernel
theorem test_injection :
    runs (.eiRun 1 1 0x1C7F 255) State.reset (fun u => u.errs.injects == [⟨1, 0x1C7F, 1, 255⟩]) = true ∧
    runs (.eiRun 3 2 0 1) State.reset (fun u => u.dict.result.1 == 0x23) = true ∧
    runs (.eiRun 4 2 0 2) State.reset (fun u => u.hbm.poison.length == 2) = true ∧
    runs (.eiRun 1 0 0x1C7F 1) { askar := { sec := { lc := .deployed } } } (fun u => u.dict.result == (0x23, [1, 0])) = true := by decide +kernel

/-! ### Well-formedness: an ill-formed command for each check -/

/-- The rows of the core instructions, and of the dictionary requests. -/
def coreRows : List (Nat → Nat → W64 → Instr) := [
  .addS, .subS, .andS, .orS, .xorS, .shlS, .shrS, .sraS, .mulS, .cmpS, .addiS, .liS, .fmaF32, .addF32, .subF32, .mulF32, .minF32, .maxF32, .exp2F32,
  .log2F32, .rcpF32, .rsqF32, .cmpF32, .cmpI32, .addI32, .subI32, .mulI32, .logicI32, .selV, .shflV, .cvt, .addiI32, .mmaT, .accLdT, .accStT, .cvtMxT,
  .tcopyT, .ld, .st, .atom, .invL1, .wbL1, .barGb, .fenceGb, .fenceDev, .fenceSys, .lathWait, .posGen, .maskT, .ropeT, .smaxRun, .accScaleT, .plbIssue,
  .plbPoll, .br, .brU, .jmp, .call, .ret, .nop, .exit, .brk, .yield, .csrR, .csrW]
def bezelRows : List (BMsg → Instr) := [
  .getS, .getM, .putS, .putE, .bezelAtom, .readOnce, .writeOnce, .fwdGets, .fwdGetm, .fwdGetmAp, .inv, .recallS, .recallI, .gntM, .gntAcks, .invAck,
  .fwdDoneO, .fwdDoneS, .fwdDoneI, .fwdMiss, .rspWbpend, .wbAck, .comp, .homeLost, .remoteLost, .compAck, .dataS, .dataE, .dataM, .dataMAp, .rspData,
  .putM, .putO, .dataOnce, .atomData]
def bad (i : Instr) : Bool := !i.wf
/-- A number out of the range of its operand, one for each range. -/
theorem test_wf_ranges : List.all ([
  .dict false 256 [], .retWake 144, .retRetain 144, .ucFlush 1024 0, .ucFlush 0 2, .ucScrub 256 0 0 .clean .clean, .ucScrub 0 0 16 .clean .clean,
  .homeQuiesce 4, .homeReturn 4, .bDieLoss 4, .hbmRead 8 0 .clean, .hbmRead 0 32 .clean, .hbmWrite 8 0, .hbmWrite 0 32, .heldaAdapterUp 17 0,
  .capAccept 17, .capReject 17 0, .negotiationTimeout 17, .heldaTrainFail 17, .heldaRetrain 17, .heldaRetrainLimit 17, .heldaAdapterFail 17,
  .heldaDownRetry 17, .heldaLinkRecover 17 0, .heldaLinkEnable 9, .heldaLinkDisable 9, .heldaLinkRetrain 9, .nak 24 0, .nakRepeat 24, .helloSend 24,
  .helloTimeout 24, .portTrained 24 0, .portTrainFail 24, .portDownRetry 24, .fecLockLoss 24, .portRetrainLimit 24, .lossNotice 24 0 0 0,
  .lossNotice 0 0 4 0, .carrakLinkRecover 24 0, .stewardReq 24 false 0, .stewardRsp 24 false 0, .stewardTimeout 24, .stewardBackoffEnd 24,
  .stewardTake 24, .stewardGive 24, .portIdleHalf 24, .portWiden 24, .fecErrorRetrain 24, .portEnable 24, .portDisable 24, .portRetrain 24,
  .portCounterClear 24, .cmdTail .pf 1024 0, .cplHead .pf 1024 0, .flrVf 64, .ringDisable 1024, .planLoad 0 32 0 0, .planLoad 0 0 0 144,
  .tileOverrun 0 4608, .plbDescStart 4 0 0, .plbStep 4 0 0, .plbStep 0 64 0, .partCreate 64 [], .partResize 64 [], .partDestroy 64, .ctxCreate 1024 [],
  .ctxDestroy 1024, .urgentStop 1024, .ctxPreempt 1024, .setPriority 1024 0, .setPriority 0 8, .partitionPolicy 64 0 0 0 0 0,
  .partitionPolicy 0 3 0 0 0 0, .partitionPolicy 0 0 0 2 0 0, .railOutOfRange 16, .railInRange 16, .rampStart 16, .rampDone 176, .latchedSlow 176,
  .shortDetect 176, .shortConfirm 176, .shortClear 176, .domainClear 176, .clockCeilingStep 4 false, .clampSet 5, .clampRelease 5, .vtLevelChange 4,
  .thermalTrip 224, .pllRelock 4608, .powerOn 8 0 false, .powerOn 0 16 false, .packageReset 8 0 false, .packageReset 0 16 false, .dieReset 8 false] : List Instr) bad = true := by decide +kernel
/-- The other checks: endpoints, functions, agents, and checks of more than one range. -/
theorem test_wf_checks : List.all ([
  .mbxDoorbell (.pf 8) true, .mbxDoorbell (.vf 64) true, .mbxDoorbell .t1s true, .xlatWalk (.core 4608) 0 0 0 .load, .xlatWalk (.core 0) 16 0 0 .load,
  .starveEvent 4608 0 .dma, .starveEvent 0 4 .dma, .lathWord 4608 .n 0 true, .lathWord 0 .core 0 true, .stackTempRead 8 none,
  .hbmRefresh 8 0 none, .hbmRefresh 0 32 none, .hbmRefresh 0 0 (some 16), .hbmScrub 8 0 0 0 .clean, .hbmScrub 0 32 0 0 .clean,
  .hbmScrub 0 0 (32 * 65536) 0 .clean, .hbmScrub 0 0 34208 0 .clean, .hbmScrub 0 0 0 16 .clean, .redirectAdd 8 0 0 0 0 0 0, .redirectAdd 0 32 0 0 0 0 0,
  .redirectAdd 0 0 2 0 0 0 0, .redirectAdd 0 0 0 5 0 0 0, .redirectAdd 0 0 0 0 16 0 0, .redirectAdd 0 0 0 0 0 34208 0, .redirectAdd 0 0 0 0 0 0 4,
  .redirectAdd 0 0 0 1 0 1 0, .reserve 64 [0, 0, 0, 0], .reserve 0 [0], .grant 3 0 0 0, .grant 10 0 0 0, .grant 4 65536 0 0, .grant 4 0 0 (2 ^ 144),
  .demandPeriod 3 0 0, .demandPeriod 9 0 0, .grantMiss 3, .grantMiss 10, .demand 10 ⟨0, 0, 0, 0, false⟩, .heldaFlit 17 ⟨[], 0, 0, 0, 0, true⟩,
  .cap 17 ⟨0, 0, 0, 0, 0, 0, 0, 0, 0, 0, 0, 0, []⟩, .capCommit 17 ⟨0, 0, 0, 0⟩, .carrakFlit 24 ⟨0, 0, 0, 0, 0, true, []⟩,
  .hello 24 ⟨0, 0, 0, 0, 0, false, false, 0, 0, []⟩, .lsa 24 ⟨0, 0, 0, 0, false, []⟩, .configRequest (.vf 64) false 0 0,
  .bar2Read (.vf 64) 0 1 0, .bar2Read .pf 0 0 0, .bar2Read .pf 0 4097 0, .bar2Write (.vf 64) 0 [1] false, .bar2Write .pf 0 [] false,
  .bar2Write .pf 0 (List.replicate 513 0) false, .bar2Atomic (.vf 64) 0 0 4 0 0 0, .bar2Atomic .pf 0 3 4 0 0 0, .bar2Atomic .pf 0 0 2 0 0 0,
  .powerStateChange (.vf 64) true, .vfMap 64 0 0 0, .vfMap 0 65 0 0, .ringEnable ⟨1024, .pf, 0, 0, 0, 0, 0, 0⟩, .hostLinkUp 0 1 false false,
  .hostLinkUp 7 1 false false, .hostLinkUp 1 0 false false, .hostLinkUp 1 17 false false, .hostLinkUp 6 1 false false, .memWr 0 [] (List.replicate 64 true) false 0,
  .memWr 0 (List.replicate 64 0) [] false 0, .contextFault 0 0 0 0 0 0 0 0, .contextFault 0 0xC 0 0 0 0 0 0, .contextFault 0 1 0 0 0 8 0 0,
  .pllUnlock (.core 4608), .pllUnlock (.lath 4), .pllUnlock (.scrim 4), .pllUnlock (.uc 4), .pllUnlock (.hbm 8), .pllUnlock (.cc 16), .pllUnlock (.carrak 24),
  .pllUnlock (.helda 9), .hbmTrain [8], .hostUp [4], .eiRun 6 0 0 1, .eiRun 0 4 0 1, .eiRun 0 0 0 0, .eiRun 0 0 0 256, .msixUnmask .pf 1024,
  .msixUnmask (.vf 0) 16, .msixUnmask (.vf 64) 0, .bar0Access (.vf 64) 0 4 none, .bar0Access .pf 0 0 none, .bar0Access .pf (2 ^ 23 - 3) 4 none,
  .bar0Access (.vf 0) (2 ^ 17 - 3) 4 none] : List Instr) bad = true := by decide +kernel
theorem test_wf_cores : (coreRows.all fun f => bad (f 4608 0 0) && bad (f 0 16 0) && (f 4607 15 0).wf) = true := by decide +kernel
theorem test_wf_requests : ([Instr.openSession, .close, .read, .write, .readSeg, .writeSeg, .poll, .enumerate].all fun f =>
    [Endpoint.pf 8, .vf 64, .carrak 256].all (fun e => bad (f e ⟨0, 0, 0, 0, false, false, false, []⟩)) && (f .cc ⟨0, 0, 0, 0, false, false, false, []⟩).wf) = true := by decide +kernel
/-- A Bezel message to a slice or control core that is not there, or not at a line's address. -/
theorem test_wf_bezel : (bezelRows.all fun f => bad (f (msg .host 256 [])) && bad (f { msg .host 0 [] with addr := 64 }) &&
    bad (f { msg .host 0 [] with dst := .cc 16 }) && (f { msg .host 255 [] with addr := 1024 }).wf) = true := by decide +kernel
theorem test_wf_slices : ([(256, none), (0, some [])].all fun e => bad (.ucRead e.1 ⟨.host, 0, 0, false, 0, false, 0, 0, 0, e.2, false⟩ .clean)) = true ∧
    ([(256, some []), (0, none)].all fun e => bad (.ucWrite e.1 ⟨.host, 0, 0, false, 0, false, 0, 0, 0, e.2, false⟩ .clean)) = true ∧
    ([(65536, 0), (0, 6)].all fun e => bad (.scrimPacket e.1 ⟨e.2, 0, 0, 0, 0, 0, 0, [], [], 0, 0, 0, false, false, 0, 0⟩ .none)) = true := by decide +kernel
/-- After reset the command is refused as ill formed. -/
def refuses (i : Instr) : Bool :=
  match exec i State.reset with
  | .refused .illFormed => true
  | _ => false
/-- What the state refuses: a word of another row, units of the other variant, an ill-formed command. -/
theorem test_refused : (List.all [Instr.subS 0 0 (r3 0 0 0 0 0 0 0), .fenceGb 0 0 (ctl 4 1 0 0 0 0 0), .sitepEnable 1, .demand 9 ⟨0, 0, 0, 0, false⟩, .rampDone 175,
    .pllUnlock (.helda 8), .heldaLinkEnable 8, .addS 4608 0 0] fun i => accepts State.reset i == false && refuses i) = true := by decide +kernel

/-! ### The dictionary -/

def rq (session tag index sub : Nat) (p : List Byte) : Req := ⟨session, tag, index, sub, false, false, false, p⟩
/-- Askar serves; these sessions live. -/
def sDict (l : List Session) : State := { askar := { run := .serving, timeNs := 1000 }, dict := { sessions := l } }
/-- Session 7 of the control cores, at a level. -/
def ses (level : Nat) : Session := { id := 7, ep := .cc, level := level }
theorem wit_messages : reqFits (rq 0xFFFF 0xFFFF 0xFFFF 0xFF []) ∧ goodReq 8 (rq 0xFFFF 0xFFFF 0xFFFF 0xFF []) := by
  delta goodReq reqFits; decide +kernel
theorem wit_bad_messages : goodReq 5 (rq 7 1 2 3 [0, 0, 0, 0]) ∧ ¬ goodReq 5 (rq 7 1 2 3 [0, 0, 0]) := by delta goodReq reqFits; decide +kernel
theorem wit_sessions : let s := sDict [ses 0]
    servesNow s .cc ∧ (s.dict.sessions.filter fun x => sameEp x.ep .cc).length < sessionLimit .cc ∧ findSession s s.dict.nextId = none ∧
    ¬ ((sDict [{ ses 0 with ep := .pf 3 }]).dict.sessions.filter fun x => sameEp x.ep (.pf 3)).length < sessionLimit (.pf 3) ∧
    findSession s 7 = some (ses 0) ∧ sameEp (ses 0).ep .cc = true ∧ sameEp (ses 0).ep .i3c = false ∧ goodReq 2 (rq 7 1 0 0 []) ∧ goodReq 3 (rq 0xFFFF 1 0x1010 0 []) := by
  delta servesNow goodReq reqFits; decide +kernel
theorem test_sessions :
    runs (.openSession (.pf 7) (rq 0 5 0 0 [])) (sDict []) (fun u => (u.dict.sessions.map (·.id)) == [1] && u.dict.nextId == 2 && u.dict.result == (0, [])) = true ∧
    runs (.openSession (.pf 7) (rq 0 5 0 0 [])) { sDict [{ ses 0 with ep := .pf 7 }] with } (fun u => u.dict.result == (0x18, [])) = true ∧
    runs (.close .i3c (rq 7 5 0 0 [])) (sDict [ses 0]) (fun u => u.dict.result == (0x17, [])) = true ∧
    runs (.close .cc (rq 7 5 0 0 [])) (sDict [ses 0]) (fun u => u.dict.sessions == []) = true := by decide +kernel
def running1 : Running := ⟨9, 4, 0, 0x280C, 1, 7, .cc, 0, []⟩
def stored1 : Stored := ⟨9, 3, 0x2D00, 1, false, 0, 0, [1, 2]⟩
theorem wit_requests : let s := sDict [{ ses 0 with running := some running1 }]
    servesNow s .cc ∧ goodReq 7 (rq 7 9 0 0 []) ∧ goodReq 3 (rq 7 9 0x2D00 1 []) ∧ (findSession s 7).isSome = true ∧ running1.tag = 9 ∧
    stored1.tag = 9 ∧ stored1.opcode = 3 ∧ { stored1 with cmd := true }.cmd = true := by
  delta servesNow goodReq reqFits; decide +kernel
/-- R63, R66, R70: BUSY, IN_PROGRESS, a repeat from the stored response, and POLL for no command. -/
theorem test_requests :
    runs (.read .cc (rq 7 10 0x2D00 1 [])) (sDict [{ ses 0 with running := some running1 }]) (fun u => u.dict.result == (0x19, [])) = true ∧
    runs (.poll .cc (rq 7 9 0 0 [])) (sDict [{ ses 0 with running := some running1 }]) (fun u => u.dict.result == (2, [])) = true ∧
    runs (.read .cc (rq 7 9 0x2D00 1 [])) (sDict [{ ses 0 with last := some stored1 }]) (fun u => u.dict.result == (0, [1, 2])) = true ∧
    runs (.poll .cc (rq 7 9 0 0 [])) (sDict [{ ses 0 with last := some stored1 }]) (fun u => u.dict.result == (0x16, [])) = true := by decide +kernel
def who7 : Who := ⟨.cc, 7, 0, none⟩
theorem wit_reads : let s := sDict [ses 0]
    objFails s who7 0x2F01 = none ∧ objFails s who7 0x5000 = some 0x13 ∧ objFails s who7 0x8000 ≠ none ∧ objFails s who7 0x4FFF = some 0x10 ∧ objOf s 0x2F01 0x7F = none ∧
    (∃ o, objOf s 0x2F01 1 = some o ∧ o.acc ≠ 2 ∧ (readSub who7 0x2F01 1 o s).1.length ≤ 1024) ∧ objFails s who7 0x2E03 = none ∧
    (∃ o ∈ objRows, o.acc = 2) ∧ (∃ o ∈ objRows, o.acc ≠ 2 ∧ o.ty = 11 ∧ objFails s who7 o.idx = none) ∧ nextIdx s who7 0xFFFF = none ∧ nextIdx s who7 0 = some 0x1000 := by
  decide +kernel
/-- R537: the budget reads as 1,600,000 mW; a subindex that is not there answers 0x11. -/
theorem test_reads :
    runs (.read .cc (rq 7 1 0x2F01 1 [])) (sDict [ses 0]) (fun u => u.dict.result == (0, leBytes 4 1600000)) = true ∧
    runs (.read .cc (rq 7 1 0x2F01 0x7F [])) (sDict [ses 0]) (fun u => u.dict.result == (0x11, [])) = true ∧
    runs (.enumerate .cc (rq 7 1 0 0 [])) (sDict [ses 0]) (fun u => u.dict.result.1 == 0) = true := by decide +kernel
theorem wit_transports : let s : State := { sDict [] with dict := { mailboxes := [(3, { reqPending := true })], i3c := { dynAddr := some 9, response := some [1] } } }
    mailboxKey (.pf 3) = some 3 ∧ mailboxKey (.vf 63) = some 71 ∧ epExists (.vf 63) = true ∧ (mailboxGet s 3).reqPending = true ∧ (mailboxGet s 4).reqPending = false ∧
    s.dict.i3c.dynAddr ≠ none ∧ s.dict.i3c.response = some [1] ∧ s.carrak.remoteReqs = [] ∧ canReach s 4 = false ∧ servesNow s .t1s ∧
    canReach { carrak := { idState := .held, routes := [(4, { dist := 1, primary := some 0, alt := none, deflecting := false })] } } 4 = true := by
  delta servesNow goodReq reqFits; decide +kernel
/-- The mailbox of PF 0 holds an OPEN of tag 5. -/
def sMail : State := { sDict [] with dict := { mailboxes := [(0, { req := [(0, 1), (1, 1), (6, 5)] })] } }
theorem wit_mailbox : mailboxMsg sMail 0 = reqBytes 1 (rq 0 5 0 0 []) := by decide +kernel
theorem test_transports :
    runs (.mbxDoorbell (.pf 0) true) sMail (fun u => (mailboxGet u 0).rspReady && (mailboxGet u 0).rsp.length == 16 && u.dict.sessions.length == 1) = true ∧
    runs (.mbxDoorbell (.pf 0) false) sMail (fun u => (mailboxGet u 0).reqPending && u.dict.waiting.length == 1) = true ∧
    stays .i3cPrivateRead (sDict []) = true ∧ stays (.t1sFrame ⟨1, 2, 0x88B5, 0xB1A5, 0, reqBytes 1 (rq 0 5 0 0 [])⟩) (sDict []) = true ∧
    runs (.t1sFrame ⟨2 ^ 41, 2, 0x88B5, 0xB1A5, 0, reqBytes 1 (rq 0 5 0 0 [])⟩) (sDict []) (fun u => (u.dict.out.map (·.mac)) == [2]) = true := by decide +kernel
theorem wit_expert : let x : Session := { ses 0 with nonce := some { value := leBytes 32 1, issuedAt := 0 }, running := some running1 }
    let s := sDict [x]
    findSession s 7 = some x ∧ cmdOver s running1.index = true ∧ (isVf x.ep).isSome = false ∧ sfind s.dict.lockouts (epGroup x.ep) = none ∧ time s < 0 + 60000000000 ∧
    x.fails < 2 ∧ (expertVerify s 0 []).isSome = true ∧ expertVerify { s with askar := { sec := { lc := .decommissioned } } } 0 [] = none ∧
    findSession s 8 = none := by decide +kernel
theorem wit_lockout : let s : State := { sDict [{ ses 0 with fails := 2 }] with dict := { sessions := [{ ses 0 with fails := 2 }], lockouts := [(epGroup .cc, 2000)] } }
    (∃ t, sfind s.dict.lockouts (epGroup .cc) = some t ∧ time s < t) ∧ (isVf (.vf 3)).isSome = true ∧
    (let o : State := { askar := { run := .serving }, dict := { orphans := [running1] } }
     o.dict.orphans = [running1] ∧ running1.session = 7 ∧ findSession o 7 = none ∧ cmdOver o running1.index = true) := by
  refine ⟨⟨2000, by decide +kernel⟩, by decide +kernel, by decide +kernel⟩
/-- R53: the third failure in a row ends the session. (Used nonce: no signature counts.) -/
theorem test_auth : runs (.expertAuth 7 []) (sDict [{ ses 0 with fails := 2 }]) (fun u => u.dict.sessions == [] && u.dict.result == (0x24, [])) = true ∧
    runs (.expertLock 7 1) (sDict [ses 1]) (fun u => (u.dict.sessions.map (·.level)) == [0]) = true ∧
    runs (.sessionIdleTimeout 7) (sDict [ses 0]) (fun u => u.dict.sessions == []) = true := by decide +kernel
/-- R113: 1,460 MHz rounds down to 1,450. -/
theorem test_freq : runs (.freqFineStep 0) { dict := { nums := [(256 * 0x2001 + 1, 1460), (256 * 0x6001 + 1, 1)] } } (fun u => num u 0x2001 1 1450 == 1450) = true := by decide +kernel
theorem wit_writes : let s := sDict [ses 0]
    (600 : Nat) ≤ 1600 ∧ 600 % 25 = 0 ∧ 0x7F800000 < 0x7FC00000 % 2 ^ 31 ∧ (BitVec.ofNat 32 (2 ^ 32 - 5)).toInt ≤ (BitVec.ofNat 32 7).toInt ∧
    objFails s who7 0x2F03 = none ∧ fieldFails s who7 0x2F03 2 [30, 0] = none ∧ fieldFails s who7 0x2F03 2 [30] ≠ none ∧
    (∃ o ∈ objRows, o.acc ≠ 0 ∧ o.acc ≠ 5 ∧ o.ty = 11 ∧ o.idx ≠ 0x2D31 ∧ 0 < o.mx) ∧ (∃ o ∈ objRows, o.acc = 4 ∧ objFails s who7 o.idx = none) ∧
    min (max 5 10) 100 ≠ 5 ∧ min (max 30 10) 100 = 30 := by decide +kernel
/-- R46, R58: clamping to the bounds and to the step below. -/
theorem test_clamp : (clampU 600 1600 25 600 0 1460, clampU 600 1600 25 600 0 10, clampU 600 1600 25 600 0 9999) = (1450, 600, 1600) ∧
    clampI 0xFFFFFFFB 7 1 0xFFFFFFF0 = 0xFFFFFFFB ∧ clampF 0 0x3F800000 0x3F000000 0x7FC00000 = 0x3F000000 ∧
    runs (.write .cc (rq 7 1 0x2F03 2 [200, 0])) (sDict [ses 0]) (fun u => u.dict.result.1 == 1 && num u 0x2F03 2 30 == 100 && u.dict.clampTotal == 1) = true := by decide +kernel

/-! ### The machine -/

theorem wit_accepts : accepts State.reset (.retRetain 0) = true := by decide +kernel
/-- A step answers the state. -/
def stepsTo (s u : State) : Bool :=
  match step s with
  | .next v => decide (v = u)
  | _ => false
theorem wit_step : let s : State := { State.reset with pending := [.i3cPrivateRead, .refclkLoss] }
    s.pending = .i3cPrivateRead :: [.refclkLoss] ∧ stepsTo s { s with pending := [.refclkLoss] } = true ∧ railGet s 13 ≠ .inRange ∧
    railGet { power := { rails := [(13, .inRange)] } } 13 = .inRange ∧ State.reset.dict.waiting = [] := by decide +kernel
/-- Without VDD_AON an empty queue changes nothing; with it the time base advances by 10 ns (assumption 3). -/
theorem test_idle : stepsTo State.reset State.reset = true ∧
    stepsTo { power := { rails := [(13, .inRange)] } } { power := { rails := [(13, .inRange)] }, askar := { timeNs := 10 } } = true := by decide +kernel
/-- R26, R27: the last core of the device. -/
theorem test_core_numbers : coreRef 4607 = 0x1C7F ∧ ofCoreRef 0x1C7F = some 4607 ∧ ofCoreRef 0x1C80 = none ∧ coreSection 4607 = 143 ∧ coreDie 1152 = 1 := by decide +kernel
theorem wit_skip : skipLegal State.reset := by
  intro d r _ _; exact ⟨(by decide : 0 + 1 < 2), (by decide : 2 < 34)⟩
/-- The table gives no row any bits: no word spells a command. -/
theorem test_words : decodeTableWord 64 0 = none ∧ State.reset.withFetchWord 64 0 = State.reset := by decide +kernel

end Sys2Proof.Tests
end

section
/-! The core numbers and the skip map (R22 to R29): the rules of the numbering functions, and the statement about them. -/
namespace Sys2Proof.Machine

/-! ### Coordinates and the device core number (R26) -/

/-- The device core number of the core at a C-die's logical column and row (R26). -/
def coreAt (die lx ly : Nat) : Nat := die * 1152 + ly * 32 + lx

section
variable {die lx ly : Nat} (hx : lx < 32)
include hx

theorem coreLx_coreAt : coreLx (coreAt die lx ly) = lx := by simp only [coreLx, coreAt]; omega

variable (hy : ly < 36)
include hy

theorem coreDie_coreAt : coreDie (coreAt die lx ly) = die := by simp only [coreDie, coreAt]; omega

theorem coreLy_coreAt : coreLy (coreAt die lx ly) = ly := by simp only [coreLy, coreAt]; omega

theorem coreAt_lt (hd : die < 4) : coreAt die lx ly < 4608 := by simp only [coreAt]; omega

end

theorem coreLx_lt (c : Nat) : coreLx c < 32 := Nat.mod_lt _ (by decide)

theorem coreLy_lt (c : Nat) : coreLy c < 36 := by simp only [coreLy]; omega

theorem coreDie_lt_four {c : Nat} (hc : c < 4608) : coreDie c < 4 := by simp only [coreDie]; omega

/-- A core number is the one of its own coordinates. -/
theorem coreAt_coords (c : Nat) : coreAt (coreDie c) (coreLx c) (coreLy c) = c := by
  simp only [coreAt, coreDie, coreLx, coreLy]; omega

/-! ### CORE_REF (R27, R28) -/

/-- CORE_REF packs the coordinates into its fields LX, LY and DIE (R27). -/
theorem coreRef_eq_fields (c : Nat) : coreRef c = coreLx c + 2 ^ 5 * coreLy c + 2 ^ 11 * coreDie c := by
  simp only [coreRef, coreLx, coreLy, coreDie]; omega

theorem coreRef_coreAt {die lx ly : Nat} (hx : lx < 32) (hy : ly < 36) :
    coreRef (coreAt die lx ly) = lx + 2 ^ 5 * ly + 2 ^ 11 * die := by
  rw [coreRef_eq_fields, coreDie_coreAt hx hy, coreLx_coreAt hx, coreLy_coreAt hx hy]

theorem coreRef_le {c : Nat} (hc : c < 4608) : coreRef c ≤ 0x1C7F := by
  have hx := coreLx_lt c
  have hy := coreLy_lt c
  have hd := coreDie_lt_four hc
  rw [coreRef_eq_fields]; omega

/-- Reading a CORE_REF undoes packing one, and names no core otherwise (R28). -/
theorem ofCoreRef_eq_some_iff (r c : Nat) : ofCoreRef r = some c ↔ c < 4608 ∧ coreRef c = r := by
  simp only [ofCoreRef, coreRef, Bool.and_eq_true, decide_eq_true_eq, Option.ite_none_right_eq_some, Option.some.injEq]
  constructor
  · rintro ⟨⟨hres, hly⟩, rfl⟩; omega
  · rintro ⟨hc, rfl⟩; omega

theorem ofCoreRef_coreRef {c : Nat} (hc : c < 4608) : ofCoreRef (coreRef c) = some c :=
  (ofCoreRef_eq_some_iff _ c).2 ⟨hc, rfl⟩

/-! ### Sections (R29) -/

theorem coreSection_coreAt {die lx ly : Nat} (hx : lx < 32) (hy : ly < 36) :
    coreSection (coreAt die lx ly) = 36 * die + (ly / 4 * 4 + lx / 8) := by
  rw [coreSection, coreDie_coreAt hx hy, coreLx_coreAt hx, coreLy_coreAt hx hy]; omega

theorem coreSection_lt {c : Nat} (hc : c < 4608) : coreSection c < 144 := by
  have hx := coreLx_lt c
  have hy := coreLy_lt c
  have hd := coreDie_lt_four hc
  simp only [coreSection]; omega

/-- The cores of a section by their coordinates: 4 rows of 8 columns, row by row. -/
theorem mem_sectionCores_iff_coreAt (c k : Nat) :
    c ∈ sectionCores k ↔ ∃ i < 32, coreAt (k / 36) (8 * (k % 4) + i % 8) (4 * (k % 36 / 4) + i / 8) = c := by
  simp only [sectionCores, coreAt, List.mem_map, List.mem_range, Nat.add_assoc]

/-- A core stands in the list of its section and in no other. -/
theorem mem_sectionCores (c k : Nat) : c ∈ sectionCores k ↔ k = coreSection c := by
  rw [mem_sectionCores_iff_coreAt]
  constructor
  · rintro ⟨i, hi, rfl⟩
    rw [coreSection_coreAt (by omega) (by omega)]; omega
  · rintro rfl
    have hx := coreLx_lt c
    have hy := coreLy_lt c
    refine ⟨8 * (coreLy c % 4) + coreLx c % 8, by omega, Eq.trans ?_ (coreAt_coords c)⟩
    congr 1 <;> simp only [coreSection] <;> omega

/-! ### The skip map (R22, R23) -/

/-- A column once the disabled column `d` is stepped over: one pass of the loop of R23. -/
def skipColumn (d x : Nat) : Nat := if d ≤ x then x + 1 else x

theorem physicalColumn_eq_skipColumn (s : State) (die ly lx : Nat) :
    physicalColumn s die ly lx = skipColumn (sget (0, 2) s.part.skip (36 * die + ly)).2
      (skipColumn (sget (0, 2) s.part.skip (36 * die + ly)).1 lx) := rfl

theorem skipColumn_ne (d x : Nat) : skipColumn d x ≠ d := by
  unfold skipColumn; split <;> omega

theorem skipColumn_strictMono (d : Nat) : StrictMono (skipColumn d) := fun x y h => by
  unfold skipColumn; split <;> split <;> omega

theorem skipColumn_lt {d x n : Nat} (h : x < n) : skipColumn d x < n + 1 := by
  unfold skipColumn; split <;> omega

/-- The columns left of the disabled one stay where they are. -/
theorem skipColumn_eq_of_lt {d x : Nat} (h : x < d) : skipColumn d x = x := if_neg (Nat.not_le.2 h)

/-- Every column but the disabled one is the place of a column. -/
theorem exists_skipColumn_eq {d n p : Nat} (hd : d ≤ n) (hp : p < n + 1) (hne : p ≠ d) : ∃ x < n, skipColumn d x = p := by
  rcases Nat.lt_or_gt_of_ne hne with h | h
  · exact ⟨p, by omega, skipColumn_eq_of_lt h⟩
  · exact ⟨p - 1, by omega, by rw [skipColumn, if_pos (by omega)]; omega⟩

section
variable {a b : Nat} (hab : a < b)
include hab

/-- Stepping over the higher disabled column leads to the lower one only from there. -/
theorem skipColumn_eq_lower_iff (y : Nat) : skipColumn b y = a ↔ y = a := by
  conv_lhs => rw [← skipColumn_eq_of_lt hab]
  exact (skipColumn_strictMono b).injective.eq_iff

theorem skipColumn_skipColumn_ne_lower (x : Nat) : skipColumn b (skipColumn a x) ≠ a := fun h =>
  skipColumn_ne a x ((skipColumn_eq_lower_iff hab _).1 h)

/-- With two disabled columns among `n + 2`, the other `n` are all reached. -/
theorem exists_skipColumn_skipColumn_eq {n p : Nat} (hb : b ≤ n + 1) (hp : p < n + 2) (ha : p ≠ a) (hpb : p ≠ b) :
    ∃ x < n, skipColumn b (skipColumn a x) = p := by
  obtain ⟨y, hy, rfl⟩ := exists_skipColumn_eq hb hp hpb
  have hya : y ≠ a := fun h => ha ((skipColumn_eq_lower_iff hab y).2 h)
  obtain ⟨x, hx, rfl⟩ := exists_skipColumn_eq (by omega) hy hya
  exact ⟨x, hx, rfl⟩

end

/-! ### The statement -/

/-- Settles O1: the numbers are those of `coreAt`, and a row's skip map is `skipColumn` over its two disabled columns in turn. -/
theorem coreNumbers : Obligations.CoreNumbers := by
  refine ⟨fun die lx ly hd hx hy => ?_, fun c hc => ?_, fun r c _ => ofCoreRef_eq_some_iff r c, fun s d r hs hd hr => ?_⟩
  · have hc := coreAt_lt hx hy hd
    exact ⟨hc, coreDie_coreAt hx hy, coreLx_coreAt hx, coreLy_coreAt hx hy, coreRef_coreAt hx hy, coreRef_le hc,
      ofCoreRef_coreRef hc, coreSection_coreAt hx hy, coreSection_lt hc, fun k _ => mem_sectionCores _ k⟩
  · exact ⟨coreDie c, coreLx c, coreLy c, coreDie_lt_four hc, coreLx_lt c, coreLy_lt c, (coreAt_coords c).symm⟩
  · obtain ⟨hgap, hhigh⟩ := hs d r hd hr
    have hab := Nat.lt_of_succ_lt hgap
    simp only [physicalColumn_eq_skipColumn]
    exact ⟨fun x hx => ⟨rfl, skipColumn_lt (skipColumn_lt hx), skipColumn_skipColumn_ne_lower hab x, skipColumn_ne _ _⟩,
      fun x y h => skipColumn_strictMono _ (skipColumn_strictMono _ h),
      fun p hp ha hb => exists_skipColumn_skipColumn_eq hab (Nat.le_of_lt_succ hhigh) hp ha hb⟩

end Sys2Proof.Machine
end

section
/-! HBM placement (R284): the address bits that a place is made of, the way back from a place to its line, and the statement. -/
namespace Sys2Proof.Machine

/-! ### Bit fields and folds -/

theorem testBit_bits (v lo n i : Nat) : (bits v lo n).testBit i = (decide (i < n) && v.testBit (lo + i)) := by
  rw [bits, Nat.testBit_mod_two_pow, Nat.testBit_div_two_pow, Nat.add_comm]

/-- A field is made of its bits, lowest first. -/
theorem bits_succ (v lo n : Nat) : bits v lo (n + 1) = bits v lo n + 2 ^ n * (v.testBit (lo + n)).toNat := by
  rw [bits, bits, Nat.mod_pow_succ, Nat.toNat_testBit, Nat.pow_add, Nat.div_div_eq_div_mul]

theorem bits_zero (v lo : Nat) : bits v lo 0 = 0 := Nat.mod_one _

theorem bits_lt (v lo n : Nat) : bits v lo n < 2 ^ n := Nat.mod_lt _ (Nat.two_pow_pos n)

theorem bit_eq_testBit (v i : Nat) : bit v i = v.testBit i := by
  rw [bit, Nat.testBit_eq_decide_div_mod_eq]

theorem foldBits_succ (n w v : Nat) :
    foldBits n (w + 1) v = if v.testBit w then foldBits n w v ^^^ 2 ^ (w % n) else foldBits n w v := by
  simp [foldBits, List.range_succ, bit_eq_testBit]

theorem foldBits_lt {n : Nat} (hn : 0 < n) (w v : Nat) : foldBits n w v < 2 ^ n := by
  induction w with
  | zero => exact Nat.two_pow_pos n
  | succ w ih =>
    rw [foldBits_succ]
    split
    · exact Nat.xor_lt_two_pow ih (Nat.pow_lt_pow_right (by decide) (Nat.mod_lt w hn))
    · exact ih

/-- Bit `w` of the number is folded onto bit `w % n`. -/
theorem testBit_foldBits_succ (n w v i : Nat) :
    (foldBits n (w + 1) v).testBit i = ((foldBits n w v).testBit i ^^ (v.testBit w && decide (w % n = i))) := by
  rw [foldBits_succ]
  cases v.testBit w <;> simp [Nat.testBit_two_pow]

theorem testBit_foldBits_zero (n v i : Nat) : (foldBits n 0 v).testBit i = false := Nat.zero_testBit i

/-- The 9-bit fold of a 20-bit field: bit `i` takes the bits `i`, `i + 9` and `i + 18`, the last only where there is one. -/
theorem testBit_foldBits_nine_twenty (v : Nat) {i : Nat} (hi : i < 9) :
    (foldBits 9 20 v).testBit i = (v.testBit i ^^ v.testBit (9 + i) ^^ (decide (i ≤ 1) && v.testBit (18 + i))) := by
  simp only [testBit_foldBits_succ, testBit_foldBits_zero]
  interval_cases i <;> simp

/-! ### A place as its upper field and its selector -/

/-- The selector `s` of R284: L[18:10] with the fold of the upper field. -/
def hbmSelect (l : Nat) : Nat := bits l 10 9 ^^^ foldBits 9 20 (bits l 19 20)

theorem hbmPlace_eq (l : Nat) : hbmPlace l =
    { stack := 2 * bits (hbmSelect l) 6 2 + bits (hbmSelect l) 8 1, ch := bits (hbmSelect l) 1 5, pc := hbmSelect l % 2,
      bank := bits l 19 20 % 16, row := bits l 19 20 / 16 } := rfl

theorem hbmSelect_lt (l : Nat) : hbmSelect l < 2 ^ 9 := Nat.xor_lt_two_pow (bits_lt l 10 9) (foldBits_lt (by decide) 20 _)

theorem testBit_hbmSelect (l : Nat) {i : Nat} (hi : i < 9) : (hbmSelect l).testBit i =
    (l.testBit (10 + i) ^^ l.testBit (19 + i) ^^ l.testBit (28 + i) ^^ (decide (i ≤ 1) && l.testBit (37 + i))) := by
  have hlow : i < 20 := by omega
  have hmid : 9 + i < 20 := by omega
  have htop : i ≤ 1 → 18 + i < 20 := by omega
  rw [hbmSelect, Nat.testBit_xor, testBit_foldBits_nine_twenty _ hi]
  simp only [testBit_bits, hi, hlow, hmid, decide_true, Bool.true_and, ← Nat.add_assoc, Nat.reduceAdd, Bool.xor_assoc]
  by_cases h : i ≤ 1 <;> simp [h, htop]

/-- The upper field of a backed address is all that stands above bit 18. -/
theorem bits_upper_of_backed {a : Nat} (ha : a < backedBytes) : bits a 19 20 = a / 2 ^ 19 := by
  simp only [backedBytes] at ha
  simp only [bits]; omega

theorem homeDie_eq (l : Nat) : homeDie l = bits (hbmSelect l) 6 2 := by
  have h := bits_lt (hbmSelect l) 8 1
  simp only [homeDie, hbmPlace_eq]; omega

/-! ### The bijection of lines and rows -/

/-- The selector that leads to a place. -/
def placeSelect (p : HbmLoc) : Nat := p.pc + 2 * p.ch + 64 * (p.stack / 2) + 256 * (p.stack % 2)

/-- The upper field that leads to a place. -/
def placeUpper (p : HbmLoc) : Nat := 16 * p.row + p.bank

/-- The 1 KiB line that lies at a place. -/
def placeLine (p : HbmLoc) : Nat := 512 * placeUpper p + (placeSelect p ^^^ foldBits 9 20 (placeUpper p))

/-- The fields of a selector, from the pseudo-channel up, make it up again. -/
theorem selector_eq_fields {s : Nat} (h : s < 2 ^ 9) :
    s % 2 + 2 * bits s 1 5 + 64 * bits s 6 2 + 256 * bits s 8 1 = s := by
  have hdie : s / 2 ^ 6 = s / 2 / 32 := (Nat.div_div_eq_div_mul s 2 32).symm
  have hhalf : s / 2 ^ 8 = s / 2 ^ 6 / 4 := (Nat.div_div_eq_div_mul s (2 ^ 6) 4).symm
  simp only [bits, hhalf, hdie]; omega

theorem placeSelect_hbmPlace (l : Nat) : placeSelect (hbmPlace l) = hbmSelect l := by
  have hfields := selector_eq_fields (hbmSelect_lt l)
  have hhalf := bits_lt (hbmSelect l) 8 1
  simp only [placeSelect, hbmPlace_eq]; omega

theorem placeUpper_hbmPlace (l : Nat) : placeUpper (hbmPlace l) = bits l 19 20 := Nat.div_add_mod _ 16

theorem placeLine_hbmPlace {a : Nat} (ha : a < backedBytes) : placeLine (hbmPlace a) = a / 1024 := by
  rw [placeLine, placeSelect_hbmPlace, placeUpper_hbmPlace, hbmSelect, Nat.xor_xor_cancel_right, bits_upper_of_backed ha]
  simp only [bits]; omega

/-- An address with the upper field and the selector of a place lies there. -/
theorem hbmPlace_eq_of {l : Nat} {p : HbmLoc} (hst : p.stack < 8) (hch : p.ch < 32) (hpc : p.pc < 2) (hbank : p.bank < 16)
    (hu : bits l 19 20 = placeUpper p) (hs : hbmSelect l = placeSelect p) : hbmPlace l = p := by
  obtain ⟨stack, ch, pc, bank, row⟩ := p
  dsimp only at hch hpc hst hbank
  have hfields := selector_eq_fields (hbmSelect_lt l)
  have hchan := bits_lt (hbmSelect l) 1 5
  have hdie := bits_lt (hbmSelect l) 6 2
  have hhalf := bits_lt (hbmSelect l) 8 1
  rw [hbmPlace_eq, hu, HbmLoc.mk.injEq]
  simp only [placeSelect, placeUpper] at hs ⊢
  omega

theorem hbmPlace_congr {a b : Nat} (h : a / 1024 = b / 1024) : hbmPlace a = hbmPlace b := by
  have hlow : bits a 10 9 = bits b 10 9 := congrArg (· % 2 ^ 9) h
  have hup : bits a 19 20 = bits b 19 20 := by simp only [bits]; omega
  simp only [hbmPlace, hlow, hup]

theorem hbmPlace_eq_iff {a b : Nat} (ha : a < backedBytes) (hb : b < backedBytes) :
    hbmPlace a = hbmPlace b ↔ a / 1024 = b / 1024 := by
  refine ⟨fun h => ?_, hbmPlace_congr⟩
  rw [← placeLine_hbmPlace ha, h, placeLine_hbmPlace hb]

section
variable {p : HbmLoc} (hst : p.stack < 8) (hch : p.ch < 32) (hpc : p.pc < 2) (hbank : p.bank < 16) (hrow : p.row ≤ 34175)

include hbank hrow in
theorem placeUpper_le : placeUpper p ≤ 546815 := by simp only [placeUpper]; omega

include hst hch hpc

/-- The bits of the line below its upper field. -/
theorem placeLine_low_lt : placeSelect p ^^^ foldBits 9 20 (placeUpper p) < 2 ^ 9 :=
  Nat.xor_lt_two_pow (by simp only [placeSelect]; omega) (foldBits_lt (by decide) 20 _)

include hbank hrow

theorem placeLine_backed : 1024 * placeLine p < backedBytes := by
  have hu := placeUpper_le hbank hrow
  have hx := placeLine_low_lt hst hch hpc
  simp only [placeLine, backedBytes]; omega

theorem hbmPlace_placeLine : hbmPlace (1024 * placeLine p) = p := by
  have hu := placeUpper_le hbank hrow
  have hx := placeLine_low_lt hst hch hpc
  have hup : bits (1024 * placeLine p) 19 20 = placeUpper p := by simp only [bits, placeLine]; omega
  have hlow : bits (1024 * placeLine p) 10 9 = placeSelect p ^^^ foldBits 9 20 (placeUpper p) := by
    simp only [bits, placeLine]; omega
  exact hbmPlace_eq_of hst hch hpc hbank hup (by rw [hbmSelect, hup, hlow, Nat.xor_xor_cancel_right])

end

/-! ### The sector of an address -/

theorem resolveRow_of_redirect_nil {s : State} (h : s.hbm.redirect = []) (fuel : Nat) (p : HbmLoc) :
    resolveRow s fuel p = (p, 0) := by
  cases fuel with
  | zero => rfl
  | succ fuel =>
    have hnone : redirectsOf s p = [] := by simp [redirectsOf, h, sfind]
    simp [resolveRow, hnone, redirectWin]

/-- With no redirect entry and no write that waits, an address reads its own cells. -/
theorem memSector_eq_cellRead {s : State} {a : Nat} (hr : s.hbm.redirect = []) (hw : pendingWr s a = none) :
    memSector s a = cellRead s (rowKey (hbmPlace a)) (64 * (a % 1024 / 64)) := by
  simp only [memSector, hw, resolveRow_of_redirect_nil hr, Nat.mul_comm]

/-! ### The statement -/

/-- Settles O25: a place is its upper field and its selector, both are read off the address bit by bit, and `placeLine` is
the way back. -/
theorem hbmPlacement : Obligations.HbmPlacement := by
  refine ⟨fun a ha => ?_, fun a b => hbmPlace_eq_iff,
    fun p hst hch hpc hbank hrow => ⟨1024 * placeLine p, placeLine_backed hst hch hpc hbank hrow, hbmPlace_placeLine hst hch hpc hbank hrow⟩,
    fun s a _ hr hw => memSector_eq_cellRead hr hw⟩
  intro f p
  have hf : ∀ i < 9, f i = ((hbmSelect a).testBit i).toNat := fun i hi => congrArg Bool.toNat (testBit_hbmSelect a hi).symm
  have hup := bits_upper_of_backed ha
  have hmax : a / 2 ^ 19 ≤ 546815 := by simp only [backedBytes] at ha; omega
  have hrow : a / 2 ^ 19 / 16 ≤ 34175 := by omega
  have hpc : hbmSelect a % 2 = f 0 := by rw [hf 0 (by decide), Nat.toNat_testBit, Nat.pow_zero, Nat.div_one]
  have hdie : bits (hbmSelect a) 6 2 = f 6 + 2 * f 7 := by simp [hf, bits_succ, bits_zero]
  simp only [p, homeDie_eq, hbmPlace_eq, hup, hpc, hdie, true_and, and_true]
  refine ⟨hmax, hrow, ?_, ?_⟩ <;> simp [hf, bits_succ, bits_zero]

end Sys2Proof.Machine
end
